-- ==== Sys2Proof/Word.lean ====
section
/-! DEFINITION. The byte and check-word types of the three byte-level partners (chapter 11), and the shape of a sparse
table keyed by a number. -/

namespace Sys2Proof

/-- A character of the rack line, a byte of the panel port or of the log memory (R127, R191, R213). -/
abbrev Byte := BitVec 8

/-- A check word: 16 bits (R128). -/
abbrev CheckWord := BitVec 16

/-- A sparse table: entries in rising order of key, none equal to the value that an unlisted key reads as. -/
abbrev Assoc (α : Type) := List (Nat × α)

end Sys2Proof
end

