-- ==== Sys2Proof/Config.lean ====
section
/-! DEFINITION. The part's fixed numbers (00_scope.md, Fixed numbers), and the free values: the values the spec leaves
open, as constants without a body. -/

namespace Sys2Proof

/-- What a log area is left holding by a write that did not end well: blank, its former content, or an image (R182). -/
inductive CutShort where
  | blank
  | former
  | torn (image : List Byte)
  deriving DecidableEq, Repr, Inhabited

namespace Config

/-- FREE VALUE (log entry 6). What the area `area` is left holding by the `n`-th write that was abandoned or failed its
verify: R182 leaves it to how far the memory had gone. -/
opaque cutShort (n area : Nat) : CutShort

/-- FREE VALUE (log entry 6). How many of the slots it reads the start scan had done with when the `n`-th reset abandoned
it: R189 leaves it to the moment of the reset. -/
opaque scanReached (n : Nat) : Nat

/-- FREE VALUE (log entry 7). The bytes the station puts where a layout of chapter 11 leaves the content open: list places
beyond a list's count and value fields behind an absent presence flag, `i` counting within the gap. -/
opaque unusedByte (i : Nat) : Byte

/-- The top of the minute clock (R208). -/
def clockMax : Nat := 4294967295
/-- The top of driver, vehicle and key numbers (R3, R110). -/
def numberMax : Nat := 999999999
/-- The last sequence number (R170). -/
def seqMax : Nat := 4294967295
/-- Slots of the Delivery Log (R168). -/
def slots : Nat := 1024
/-- Entries of the Hold List (R110). -/
def holdMax : Nat := 24
/-- Entries of the Released-Driver Table (R57). -/
def releasedMax : Nat := 32
/-- Notices of the Receive Queue (R136). -/
def rxMax : Nat := 2
/-- Findings of a check or a record (R5, R38). -/
def findingMax : Nat := 8
/-- Top of the pour pulse count (R81). -/
def pulseMax : Nat := 16777215
/-- Top of the stray count (R83). -/
def strayMax : Nat := 65535
/-- The dispatch-permit pulse, in ms (R28). -/
def pulseMs : Nat := 5000
/-- Top of the abort run (R134). -/
def abortMax : Nat := 8
/-- The line rates of the four strap codes, in bit/s (R126). -/
def lineRate : Nat → Nat
  | 0 => 38400 | 1 => 76800 | 2 => 153600 | _ => 307200
/-- The parts that 1 ms of the time base is counted in: the bit time of each line rate is a whole number of them. -/
def msParts : Nat := 1536
/-- The parts of a ms in one bit time at a strap code's rate: 40, 20, 10 or 5 (R126). -/
def bitParts (code : Nat) : Nat := 1000 * msParts / lineRate code
/-- A minute in ms (R208). -/
def minuteMs : Nat := 60000
/-- Bit times of the idle gap (R131). -/
def idleGap : Nat := 12
/-- Bit times of the break that follows an abort (R133). -/
def breakBits : Nat := 12
/-- Below this number of FREE slots the log is low (R187). -/
def lowSlots : Nat := 32

end Config
end Sys2Proof
end

