-- ==== Sys2Proof/Syntax.lean ====
section
/-! DEFINITION. The commands of the station: one constructor per row of spec/opcode_table.json. A request carries its
operand bytes and its check word (R192, 11.3); a field event, a timer and a line event name what they happen to. -/

namespace Sys2Proof

/-- The two lane positions (R1). -/
inductive LaneId where
  | a | b
  deriving DecidableEq, Repr, Inhabited

/-- The six channel positions (R74). -/
inductive ChanId where
  | c0 | c1 | c2 | c3 | c4 | c5
  deriving DecidableEq, Repr, Inhabited

/-- A lane's ground condition (R17). -/
inductive Ground where
  | ok | lost
  deriving DecidableEq, Repr, Inhabited

/-- A lane's probe condition (R17). -/
inductive Probe where
  | dry | wet
  deriving DecidableEq, Repr, Inhabited

/-- The six kinds of receive loss (R141). A marked character that comes early is the header of the next notice (R139). -/
inductive LossKind where
  | framing
  | lengthOver
  | markedEarly (header : Byte)
  | idleWithin
  | checkMismatch
  | overrun
  deriving DecidableEq, Repr, Inhabited

/-- The commands. -/
inductive Instr where
  -- requests of the bay host: the operand bytes and the check word received
  | checkIn (ops : List Byte) (check : CheckWord)
  | reDriver (ops : List Byte) (check : CheckWord)
  | paperEntry (ops : List Byte) (check : CheckWord)
  | paperDelete (ops : List Byte) (check : CheckWord)
  | papersClose (ops : List Byte) (check : CheckWord)
  | amend (ops : List Byte) (check : CheckWord)
  | release (ops : List Byte) (check : CheckWord)
  | void (ops : List Byte) (check : CheckWord)
  | unholdWatch (ops : List Byte) (check : CheckWord)
  | pourArm (ops : List Byte) (check : CheckWord)
  | pourStop (ops : List Byte) (check : CheckWord)
  | pourResume (ops : List Byte) (check : CheckWord)
  | holdIssue (ops : List Byte) (check : CheckWord)
  | holdCancel (ops : List Byte) (check : CheckWord)
  | holdDrop (ops : List Byte) (check : CheckWord)
  | stopDrop (ops : List Byte) (check : CheckWord)
  | watchSet (ops : List Byte) (check : CheckWord)
  | watchClear (ops : List Byte) (check : CheckWord)
  | readLane (ops : List Byte) (check : CheckWord)
  | readChannel (ops : List Byte) (check : CheckWord)
  | readPeers (ops : List Byte) (check : CheckWord)
  | readAttention (ops : List Byte) (check : CheckWord)
  | readLog (ops : List Byte) (check : CheckWord)
  | readCause (ops : List Byte) (check : CheckWord)
  | trimLog (ops : List Byte) (check : CheckWord)
  | configure (ops : List Byte) (check : CheckWord)
  | restart (ops : List Byte) (check : CheckWord)
  | unknownRequest (code : Byte)
  -- the exchange; the operands are what the strap pins show, read where a RESTART is carried out (R195, R205)
  | exchangeEnd (address : Fin 32) (rate : Fin 4)
  | answerDelivered
  | logReadServed (address : Fin 32) (rate : Fin 4)
  -- field inputs
  | meterPulse (ch : ChanId)
  | startPress (ch : ChanId)
  | couplerLost (ch : ChanId)
  | groundChange (lane : LaneId) (level : Ground)
  | probeChange (lane : LaneId) (level : Probe)
  | stopInputChange (asserted : Bool)
  -- resets, with what the strap pins show when they are read (R205)
  | powerOn (address : Fin 32) (rate : Fin 4)
  | resetPin
  | resetPinRelease (address : Fin 32) (rate : Fin 4)
  /-- `fault`: the position of the slot at which a write of the scan fails its verify twice, if one does (R189). -/
  | scanEnd (fault : Option Nat)
  -- timers
  | claimTimerExpiry (lane : LaneId)
  | reclaimTimerExpiry (lane : LaneId)
  | dispatchPulseEnd (lane : LaneId)
  | noFlowTimerExpiry (ch : ChanId)
  | settleTimerExpiry (ch : ChanId)
  | refreshTick
  | rowExpiry (address : Nat)
  | resyncTimerExpiry
  | joiningTimerExpiry
  | minuteAdvance
  | dutyNear (lane : LaneId)
  | dutyTimerExpiry (lane : LaneId)
  | releasedDriverAgeing (driver : Nat)
  | holdEntryLapse (origin order : Nat)
  -- reception: the length character, the body and the check word that follow the header
  | noticeReceived (length : Byte) (body : List Byte) (check : CheckWord)
  | receiveLoss (kind : LossKind)
  -- the Peer View takes the oldest notice of the Receive Queue (R136, R146)
  | stopHeard
  | contestHeard
  | claimHeard
  | claimEcho
  | drawOnHeard
  | drawOnEcho
  | drawOffHeard
  | releaseHeard
  | releaseEcho
  | holdIssueHeard
  | holdCancelHeard
  | statusHeard
  -- transmission
  | transmitStart
  | arbitrationLost
  | noticeBegun
  | abort
  | sentWhole
  -- the log memory; `verified`: the read-back agrees with what was written (R178)
  | logWriteStart
  | logWriteComplete (verified : Bool)
  | trimMarkWriteStart
  | trimMarkWriteComplete (verified : Bool)
  -- further inputs, characters and the chip select
  | couplerConnected (ch : ChanId)
  | startButtonRelease (ch : ChanId)
  | headerCharacterReceived (header : Byte)
  | breakReceived
  | exchangeBegin
  deriving DecidableEq, Repr

end Sys2Proof
end

