-- ==== Sys2Proof/Machine/State.lean ====
section
/-! DEFINITION. The state of one SDL-62: every piece of state the nine blocks hold (00_scope.md, Block overview), the field
and strap pins, and the queue of waiting commands, with the values after a power-on reset. -/

namespace Sys2Proof.Machine

/-- Why the station would stop: nothing in the spec stops it. Closed, and no meaning raises it. -/
inductive Fault where
  /-- Raised by no meaning: the spec names no event that stops the station (safe). -/
  | neverRaised
  deriving DecidableEq, Repr

/-- A command that has no meaning. -/
inductive Refusal where
  /-- Raised only by an arm of `exec` that has no meaning yet (safe). There is none. -/
  | notModelled (mnemonic : String)
  deriving DecidableEq, Repr

/-! ### Duty figures and the load record (chapters 1 to 3) -/

/-- A set of duty figures with its stamp (R55). -/
structure FigureSet where
  stamp : Nat
  drive : Nat
  duty : Nat
  cont : Nat
  week : Nat
  span : Nat
  deriving DecidableEq, Repr, Inhabited

/-- Where figures came from (R61). -/
inductive Source where
  | carried | released | both
  deriving DecidableEq, Repr, Inhabited

/-- The four figures a margin is taken of (R66). -/
inductive DutyFigure where
  | drive | duty | week | span
  deriving DecidableEq, Repr, Inhabited

/-- An entry of a record's driver list (R3). -/
structure DriverEntry where
  driver : Nat
  figures : FigureSet
  source : Source
  deriving DecidableEq, Repr, Inhabited

/-- The trip plan: P and Q (R3). -/
structure Plan where
  p : Nat
  q : Nat
  deriving DecidableEq, Repr, Inhabited

/-- The vehicle permit (R3); class k is allowed when bit k of `classes` is set (11.3). -/
structure Permit where
  classes : BitVec 16
  maxDangerous : Nat
  deriving DecidableEq, Repr, Inhabited

/-- The packing groups (R32). -/
inductive Packing where
  | none | i | ii | iii
  deriving DecidableEq, Repr, Inhabited

/-- The six end statuses (R97). -/
inductive EndStatus where
  | complete | probe | uncoupled | noflow | stopped | voided
  deriving DecidableEq, Repr, Inhabited

/-- A compartment with its result (R3, R4). -/
structure Comp where
  capacity : Nat
  tank : Nat
  metered : Nat
  pours : Nat
  lastEnd : Option EndStatus
  overfill : Bool
  deriving DecidableEq, Repr, Inhabited

/-- A paper entry (R34). -/
structure PaperEntry where
  comp : Nat
  product : Nat
  un : Nat
  cls : Nat
  packing : Packing
  declared : Nat
  previous : Option Nat
  switchLoad : Bool
  amended : Bool
  deriving DecidableEq, Repr, Inhabited

/-- The finding codes (R38). -/
inductive FindingCode where
  | noEntries | classNotPermitted | dangerousOver | apart | separate | noPlan | staleFigures | dutyShort | hold
  | duplicate | probeWet | overfill | notPoured | outOfTolerance
  deriving DecidableEq, Repr, Inhabited

/-- A finding: its code, its compartments and, for DUTY_SHORT, the limiting figure (R38). -/
structure Finding where
  code : FindingCode
  comps : List Nat
  figure : Option DutyFigure
  deriving DecidableEq, Repr, Inhabited

/-- A duty result (R66, R67). `setBy` is the figure that set L, which an arming of the duty timer needs (R68). -/
structure DutyResult where
  margin : Int
  limiting : DutyFigure
  latest : Nat
  breaks : Nat
  setBy : DutyFigure
  deriving DecidableEq, Repr, Inhabited

/-- The load record (R3, R4, R5). `slot` is the position of the reserved slot (R172). -/
structure LoadRecord where
  seq : Nat
  slot : Nat
  openMinute : Nat
  first : DriverEntry
  second : Option DriverEntry
  vehicle : Nat
  permit : Permit
  comps : List Comp
  plan : Option Plan
  papers : List PaperEntry
  findings : List Finding
  duty : Option DutyResult
  deriving DecidableEq, Repr, Inhabited

/-! ### Lanes -/

/-- The lane states (1.3). -/
inductive LaneState where
  | vacant | claiming | opened | loading | closing
  deriving DecidableEq, Repr, Inhabited

/-- The hold set of a lane (1.6). -/
structure HoldSet where
  order : Bool
  watch : Bool
  duty : Bool
  duplicate : Bool
  deriving DecidableEq, Repr, Inhabited

/-- The members of a hold set (R15). -/
inductive HoldMember where
  | order | watch | duty | duplicate
  deriving DecidableEq, Repr, Inhabited

/-- The steps of a claim or reclaim (R10, R21). -/
inductive ClaimStep where
  | waiting | queued | sent | heard
  deriving DecidableEq, Repr, Inhabited

/-- The progress of a claim or reclaim; `timer` is the remaining ms of the window once it runs (R10, R11). -/
structure Claim where
  driver : Nat
  step : ClaimStep
  announced : Bool
  timer : Option Nat
  deriving DecidableEq, Repr, Inhabited

/-- A pending reclaim (R20). -/
structure Reclaim where
  claim : Claim
  figures : FigureSet
  source : Source
  deriving DecidableEq, Repr, Inhabited

/-- The events of a lane result (R31). -/
inductive ResultEvent where
  | claim | reclaim | close
  deriving DecidableEq, Repr, Inhabited

/-- The outcomes of a lane result (R31). -/
inductive ResultOutcome where
  | ok | driverElsewhere | voided | released | held | logFault
  deriving DecidableEq, Repr, Inhabited

/-- The armed duty timer (R68). -/
structure DutyTimer where
  latest : Nat
  figure : DutyFigure
  warned : Bool
  deriving DecidableEq, Repr, Inhabited

/-- The stages of a slot (R169); a pour stage names its compartment and pour number. -/
inductive StageKind where
  | header | papers | amend | driver
  | pour (comp number : Nat)
  | outcome
  deriving DecidableEq, Repr, Inhabited

/-- A stage as its owner hands it over: its kind and the bytes of its content (R174 to R176, 11.5). -/
structure Stage where
  kind : StageKind
  content : List Byte
  deriving DecidableEq, Repr, Inhabited

/-- How a CLOSING lane's load ends (R24, R25). -/
inductive LoadOutcome where
  | released | voided
  deriving DecidableEq, Repr, Inhabited

/-- What a CLOSING lane keeps: the outcome, the close minute, the RELEASE figures kept (R24, R25), whether its outcome
stage has been handed over (R26) and whether it has been written (R27). -/
structure Closing where
  outcome : LoadOutcome
  minute : Nat
  figures : Option FigureSet
  handed : Bool
  written : Bool
  deriving DecidableEq, Repr, Inhabited

/-- The forms of a CONTEST (R155, 11.2). -/
inductive HoldingForm where
  | claimWindow | settled | reclaimWindow
  deriving DecidableEq, Repr, Inhabited

/-- The driver of a begun CLAIM whose claim or reclaim ended without success, and whether it was a pure reclaim (R135). -/
structure LostClaim where
  driver : Nat
  pure : Bool
  deriving DecidableEq, Repr, Inhabited

/-- A lane (R2). The dispatch-permit output and its pulse timer stand apart, the output being a pin. `owedRelease` and
`owedContest` name the drivers of an owed withdrawn RELEASE (R135) and an owed CONTEST (R155). -/
structure Lane where
  state : LaneState
  record : Option LoadRecord
  holds : HoldSet
  claim : Option Claim
  reclaim : Option Reclaim
  result : Option (ResultEvent × ResultOutcome)
  backlog : List Stage
  dispatch : Bool
  pulse : Option Nat
  dutyTimer : Option DutyTimer
  closing : Option Closing
  owedRelease : Option Nat
  owedContest : Option Nat
  lostClaim : Option LostClaim
  deriving DecidableEq, Repr, Inhabited

/-- The empty hold set. -/
def HoldSet.empty : HoldSet := ⟨false, false, false, false⟩

/-- The lane after any reset (R2). -/
def Lane.reset : Lane where
  state := .vacant
  record := none
  holds := .empty
  claim := none
  reclaim := none
  result := none
  backlog := []
  dispatch := false
  pulse := none
  dutyTimer := none
  closing := none
  owedRelease := none
  owedContest := none
  lostClaim := none

/-- Both lanes. -/
structure Lanes where
  a : Lane
  b : Lane
  deriving DecidableEq, Repr

/-! ### Channels (chapter 4) -/

/-- The channel states (4.2). -/
inductive ChannelState where
  | idle | armed | pouring | suspended | settling | ended
  deriving DecidableEq, Repr, Inhabited

/-- The phases of a pour (4.6). -/
inductive Phase where
  | start | wait | full | slow
  deriving DecidableEq, Repr, Inhabited

/-- The draw states (R88). The grant flag is set in `granted` and clear in every other. -/
inductive DrawState where
  | none | asked | sent | granted | returning
  deriving DecidableEq, Repr, Inhabited

/-- The three levels of a permit output (R86). -/
inductive PermitLevel where
  | off | low | high
  deriving DecidableEq, Repr, Inhabited

/-- A pour channel (R76). `pourStart`, `pourFinish` and `pourEnd` are the pour's start minute (R80), end minute and end
status (R98); `noFlow` and `settle` are the remaining ms of the running timers. -/
structure Channel where
  state : ChannelState
  phase : Option Phase
  assigned : Option (LaneId × Nat)
  preset : Option Nat
  slow : Option Int
  close : Option Nat
  pulses : Nat
  noFlow : Option Nat
  settle : Option Nat
  draw : DrawState
  stray : Nat
  lastEnd : Option EndStatus
  pourStart : Option Nat
  pourFinish : Option Nat
  pourEnd : Option EndStatus
  permit : PermitLevel
  deriving DecidableEq, Repr, Inhabited

/-- The channel after any reset (R76). -/
def Channel.reset : Channel where
  state := .idle
  phase := none
  assigned := none
  preset := none
  slow := none
  close := none
  pulses := 0
  noFlow := none
  settle := none
  draw := .none
  stray := 0
  lastEnd := none
  pourStart := none
  pourFinish := none
  pourEnd := none
  permit := .off

/-- One value for each channel position. -/
structure PerChannel (α : Type) where
  c0 : α
  c1 : α
  c2 : α
  c3 : α
  c4 : α
  c5 : α
  deriving DecidableEq, Repr

/-- The same value at every channel. -/
def PerChannel.all {α : Type} (x : α) : PerChannel α := ⟨x, x, x, x, x, x⟩

/-! ### The configuration (R207) -/

/-- The reach of a channel (R74). -/
inductive Reach where
  | a | b | both
  deriving DecidableEq, Repr, Inhabited

/-- A present channel entry (R74). -/
structure ChannelCfg where
  header : Nat
  product : Nat
  reach : Reach
  k : Nat
  startVol : Nat
  slowVol : Nat
  closeLead : Nat
  deriving DecidableEq, Repr, Inhabited

/-- A present product entry (R32). -/
structure Product where
  un : Nat
  cls : Nat
  packing : Packing
  high : Bool
  deriving DecidableEq, Repr, Inhabited

/-- The cells of the class relation, least strict first (R33). -/
inductive Relation where
  | allowed | apart | separate
  deriving DecidableEq, Repr, Inhabited

/-- The eight limits (R56). -/
structure Limits where
  drive : Nat
  duty : Nat
  cont : Nat
  breakMin : Nat
  span : Nat
  week : Nat
  warn : Nat
  stale : Nat
  deriving DecidableEq, Repr, Inhabited

/-- The configuration (R206, R207): the tables are indexed by channel, product, class pair (16 a + b) and header. -/
structure Configuration where
  lanes : Nat
  refresh : Nat
  claimWindow : Nat
  noFlow : Nat
  settle : Nat
  headers : List Nat
  limits : Limits
  tolPermille : Nat
  tolMin : Nat
  channels : List (Option ChannelCfg)
  products : List (Option Product)
  relation : List Relation
  deriving DecidableEq, Repr, Inhabited

/-! ### Stops, holds and the watch (chapter 5) -/

/-- Key kinds (R110). -/
inductive KeyKind where
  | driver | vehicle
  deriving DecidableEq, Repr, Inhabited

/-- A stop-set place: no member, LIVE or ORPHAN (5.2). -/
inductive StopMember where
  | absent | live | orphan
  deriving DecidableEq, Repr, Inhabited

/-- A Hold List entry (R110). -/
structure HoldEntry where
  origin : Nat
  order : Nat
  kind : KeyKind
  key : Nat
  reason : Nat
  orphan : Bool
  missed : Nat
  deriving DecidableEq, Repr, Inhabited

/-- An Own-Issued Order slot (R116). -/
inductive OrderSlot where
  | free
  | active (kind : KeyKind) (key reason : Nat)
  | cancelling (kind : KeyKind) (key reason : Nat)
  deriving DecidableEq, Repr, Inhabited

/-- The watch setting (R121). -/
structure Watch where
  kind : KeyKind
  key : Nat
  stopMode : Bool
  deriving DecidableEq, Repr, Inhabited

/-- The event kinds of the Watch Latch (R121). -/
inductive WatchEvent where
  | checkIn | reDriver | claim | release
  deriving DecidableEq, Repr, Inhabited

/-- The Watch Latch's content (R121). -/
structure Latch where
  bay : Nat
  lane : LaneId
  event : WatchEvent
  minute : Nat
  deriving DecidableEq, Repr, Inhabited

/-- The Stop and Hold Lists (R104). -/
structure Lists where
  stops : Assoc StopMember
  announcedAssert : Bool
  holds : List HoldEntry
  orders : Assoc OrderSlot
  watch : Option Watch
  latch : Option Latch
  matchCount : Nat
  deriving DecidableEq, Repr

/-- The block after any reset (R104). -/
def Lists.reset : Lists := ⟨[], false, [], [], none, none, 0⟩

/-! ### The rack line (chapter 6) -/

/-- The forms of a RELEASE (R157). -/
inductive ReleaseForm where
  | endOfLoad | handover | withdrawn
  deriving DecidableEq, Repr, Inhabited

/-- A notice of the station as its owner queues it. A STATUS has its body formed when it starts (R149). -/
inductive Notice where
  | stop (assert : Bool)
  | contest (lane : LaneId) (driver : Nat) (form : HoldingForm)
  | claim (lane : LaneId) (reclaim : Bool) (driver vehicle : Nat)
  | draw (on : Bool) (ch : ChanId) (header : Nat)
  | release (lane : LaneId) (form : ReleaseForm) (driver : Nat) (figures : Option FigureSet)
  | hold (issue : Bool) (order : Nat) (kind : KeyKind) (key reason : Nat)
  | status
  deriving DecidableEq, Repr, Inhabited

/-- The places of the Send Queue (R129). -/
inductive Place where
  | status
  | stop
  | claim (lane : LaneId)
  | release (lane : LaneId)
  | contest (lane : LaneId)
  | draw (ch : ChanId)
  | hold (order : Nat)
  deriving DecidableEq, Repr, Inhabited

/-- A waiting notice and whether it is begun (R130). -/
structure SendEntry where
  notice : Notice
  begun : Bool
  deriving DecidableEq, Repr, Inhabited

/-- The two levels of the line: dominant is read as 0 and recessive as 1 (chapter 6). -/
inductive Level where
  | dominant | recessive
  deriving DecidableEq, Repr, Inhabited

/-- The transmitter while it drives a notice: the place it was taken from, the levels formed for it, one a bit time (R127),
and whether the header has been read back whole (R132). -/
structure Transmission where
  place : Place
  levels : List Level
  won : Bool
  deriving DecidableEq, Repr, Inhabited

/-- A whole notice heard (R136). -/
structure Heard where
  kind : Nat
  sender : Nat
  body : List Byte
  deriving DecidableEq, Repr, Inhabited

/-- The partial notice a receiver holds in ASSEMBLING: the header, and the length and body bytes taken so far (R137). -/
structure Partial where
  header : Byte
  taken : List Byte
  deriving DecidableEq, Repr, Inhabited

/-- The Rack Line Port (R126). `breakLeft` is how many bit times of a break the transmitter still drives dominant (R133);
`receiver` is the partial notice while ASSEMBLING, and absent in WAITING (R137). -/
structure RackLine where
  transmitter : Option Transmission
  breakLeft : Nat
  idleCount : Nat
  receiver : Option Partial
  sendQueue : List SendEntry
  receiveQueue : List Heard
  abortRun : Nat
  faulted : Bool
  deriving DecidableEq, Repr

/-- The port after any reset (R126). -/
def RackLine.reset : RackLine := ⟨none, 0, 0, none, [], [], 0, false⟩

/-! ### The Peer View (chapter 7) -/

/-- The lane states a peer row shows (R142). -/
inductive PeerLaneState where
  | vacant | claiming | opened | loading
  deriving DecidableEq, Repr, Inhabited

/-- A lane of a peer row (R142). -/
structure PeerLane where
  state : PeerLaneState
  driver : Option Nat
  vehicle : Option Nat
  reclaim : Option Nat
  deriving DecidableEq, Repr, Inhabited

/-- A VACANT peer lane. -/
def PeerLane.blank : PeerLane := ⟨.vacant, none, none, none⟩

/-- A peer row (R142); `draws` maps a channel number to the header of its pair. -/
structure PeerRow where
  valid : Bool
  missed : Nat
  lastHeard : Option Nat
  laneA : PeerLane
  laneB : PeerLane
  draws : Assoc (Option Nat)
  stop : Bool
  resync : Bool
  deriving DecidableEq, Repr, Inhabited

/-- A row after any reset (R143). -/
def PeerRow.reset : PeerRow := ⟨false, 0, none, .blank, .blank, [], false, false⟩

/-- The Peer View (R143); the timers are the remaining ms while they run, and resync stands while its timer runs. -/
structure PeerView where
  rows : Assoc PeerRow
  resync : Option Nat
  joining : Option Nat
  refresh : Option Nat
  deriving DecidableEq, Repr

/-- The view after any reset (R143). -/
def PeerView.reset : PeerView := ⟨[], none, none, none⟩

/-! ### The Delivery Log (chapter 8) -/

/-- The slot states (R168). -/
inductive SlotState where
  | free | reserved | opened | closed
  deriving DecidableEq, Repr, Inhabited

/-- An entry of the slot table (R168). -/
structure SlotEntry where
  state : SlotState
  seq : Option Nat
  next : Nat
  deriving DecidableEq, Repr, Inhabited

/-- A FREE slot's entry: what an unlisted slot reads as. -/
def SlotEntry.free : SlotEntry := ⟨.free, none, 1⟩

/-- The log states (R171). -/
inductive LogState where
  | scanning | ready | logFault
  deriving DecidableEq, Repr, Inhabited

/-- The owner of a stage write (R177). -/
inductive Owner where
  | lane (ℓ : LaneId)
  | channel (c : ChanId)
  deriving DecidableEq, Repr, Inhabited

/-- An entry of the Log Write Queue (R177). -/
structure StageWrite where
  slot : Nat
  seq : Nat
  stage : Stage
  owner : Owner
  deriving DecidableEq, Repr, Inhabited

/-- What the log memory is writing: the front stage with its area and stage number, or a trim mark; `second` marks the
rewrite (R178, R179, R186). -/
inductive MemWrite where
  | stage (area stageNumber : Nat) (second : Bool)
  | mark (value : Nat) (second : Bool)
  deriving DecidableEq, Repr, Inhabited

/-- The Delivery Log. `memory` maps an area number to its image, `[]` standing for an image that is all FFh, and
`markImage` is the trim mark's own place: the two are the non-volatile memory (R169, R186). -/
structure DeliveryLog where
  state : LogState
  table : Assoc SlotEntry
  queue : List StageWrite
  writing : Option MemWrite
  pendingMark : Option Nat
  trimMark : Nat
  nextSeq : Nat
  memory : Assoc (List Byte)
  markImage : List Byte
  deriving DecidableEq, Repr

/-! ### The Bay Panel Port (chapter 9) -/

/-- The steps of the port (R191). -/
inductive PortStep where
  | idle | receiving | acting | answering | done
  deriving DecidableEq, Repr, Inhabited

/-- The requests (9.2). -/
inductive Request where
  | checkIn | reDriver | paperEntry | paperDelete | papersClose | amend | release | void | unholdWatch
  | pourArm | pourStop | pourResume
  | holdIssue | holdCancel | holdDrop | stopDrop | watchSet | watchClear
  | readLane | readChannel | readPeers | readAttention | readLog | readCause
  | trimLog | configure | restart
  deriving DecidableEq, Repr, Inhabited

/-- The result codes (R197). -/
inductive ResultCode where
  | ok | findings | badFrame | unknownRequest | notConfigured | badState | badValue | laneDriver | driverElsewhere
  | logFault | logFull | logBusy | entryExists | productMismatch | held | channelBusy | notReachable | compartmentBusy
  | pourLimit | probeWet | stillStopped | notOrphan | listFull
  deriving DecidableEq, Repr, Inhabited

/-- An answer: the request it answers (absent for an unknown code), its result and its body (R194). -/
structure Answer where
  request : Option Request
  result : ResultCode
  body : List Byte
  deriving DecidableEq, Repr, Inhabited

/-- A waiting READ-LOG read; `live` while the exchange that asked for it is in progress (R183, R195). -/
structure Reading where
  index : Nat
  live : Bool
  deriving DecidableEq, Repr, Inhabited

/-- A request held behind a waiting read (R195). -/
structure HeldRequest where
  request : Request
  ops : List Byte
  live : Bool
  deriving DecidableEq, Repr, Inhabited

/-- The panel port. `restartDue`: the exchange in progress carried a RESTART (R195). -/
structure PanelPort where
  step : PortStep
  answer : Option Answer
  reading : Option Reading
  held : Option HeldRequest
  restartDue : Bool
  deriving DecidableEq, Repr

/-- The port after any reset (R191). -/
def PanelPort.reset : PanelPort := ⟨.idle, none, none, none, false⟩

/-- The attention reasons (R198). -/
inductive Reason where
  | laneDone (ℓ : LaneId)
  | holdSet (ℓ : LaneId)
  | dutyNear (ℓ : LaneId)
  | channelEnd (c : ChanId)
  | stray (c : ChanId)
  | suspended (c : ChanId)
  | lineLoss | lineFault | holdListFull | orphan | watch | logLow | logFault
  deriving DecidableEq, Repr, Inhabited

/-! ### The station (chapter 10) -/

/-- The station states (R204). -/
inductive StationState where
  | unconfigured | starting | joining | onLine
  deriving DecidableEq, Repr, Inhabited

/-- The members of the cause set (R211). -/
structure CauseSet where
  powerOn : Bool
  resetPin : Bool
  restart : Bool
  deriving DecidableEq, Repr, Inhabited

/-- The station's own state (R204, R205, R208, R211): `phase` counts the ms since the minute clock's last boundary,
`subMs` the 1536ths of a ms that the time base has run beyond them (the model's own field, log entry 15), and `reported` marks the causes a READ-CAUSE answer has carried and not yet delivered. -/
structure StationUnit where
  state : StationState
  config : Option Configuration
  clock : Option Nat
  phase : Nat
  subMs : Nat
  address : Nat
  rate : Nat
  causes : CauseSet
  reported : CauseSet
  deriving DecidableEq, Repr

/-- The input pins (00_scope.md, Pin summary) at the level the outside gives them. -/
structure Pins where
  resetAsserted : Bool
  chipSelect : Bool
  strapAddress : Nat
  strapRate : Nat
  stopChain : Bool
  groundA : Ground
  groundB : Ground
  probeA : Probe
  probeB : Probe
  coupled : PerChannel Bool
  pressed : PerChannel Bool
  deriving DecidableEq, Repr

/-- The whole state of the station, with the queue of waiting commands. `freeCount` is the model's own: the argument of the
next free value (log entry 6). -/
structure State where
  pending : List Instr
  pins : Pins
  unit : StationUnit
  lanes : Lanes
  channels : PerChannel Channel
  released : List (Nat × FigureSet)
  lists : Lists
  line : RackLine
  view : PeerView
  log : DeliveryLog
  port : PanelPort
  attention : List (Reason × Bool)
  freeCount : Nat
  deriving DecidableEq, Repr

/-- The field pins that State.reset starts from (log entry 3). -/
def Pins.initial : Pins where
  resetAsserted := false
  chipSelect := false
  strapAddress := 0
  strapRate := 0
  stopChain := false
  groundA := .ok
  groundB := .ok
  probeA := .dry
  probeB := .dry
  coupled := .all true
  pressed := .all false

/-- The log after a reset that keeps the memory: SCANNING, its volatile parts empty (R171). -/
def DeliveryLog.scan (memory : Assoc (List Byte)) (markImage : List Byte) : DeliveryLog where
  state := .scanning
  table := []
  queue := []
  writing := none
  pendingMark := none
  trimMark := 0
  nextSeq := 1
  memory := memory
  markImage := markImage

/-- The station right after a power-on reset, its log memory blank (R209, 10.5; log entries 2 to 5). -/
def State.reset : State where
  pending := []
  pins := .initial
  unit := ⟨.unconfigured, none, none, 0, 0, 0, 0, ⟨true, false, false⟩, ⟨false, false, false⟩⟩
  lanes := ⟨.reset, .reset⟩
  channels := .all .reset
  released := []
  lists := .reset
  line := .reset
  view := .reset
  log := .scan [] []
  port := .reset
  attention := []
  freeCount := 0

end Sys2Proof.Machine
end

