-- ==== Sys2Proof/Machine/Formats.lean ====
section
/-! DEFINITION. Chapter 11: byte order, the check word, the shared field codings, and the layouts of notices and log
stages. Readers give raw numbers; the ranges are the owners' (R213). -/

namespace Sys2Proof

/-- The lane code (11.1). -/
def LaneId.code : LaneId → Nat
  | .a => 0 | .b => 1

/-- The lane a code names (11.1, R213). -/
def LaneId.ofCode? : Nat → Option LaneId
  | 0 => some .a | 1 => some .b | _ => none

/-- The channel number (11.1). -/
def ChanId.index : ChanId → Nat
  | .c0 => 0 | .c1 => 1 | .c2 => 2 | .c3 => 3 | .c4 => 4 | .c5 => 5

/-- The channel a number names (11.1, R213). -/
def ChanId.ofIndex? : Nat → Option ChanId
  | 0 => some .c0 | 1 => some .c1 | 2 => some .c2 | 3 => some .c3 | 4 => some .c4 | 5 => some .c5 | _ => none

/-- The channels in ascending number. -/
def ChanId.all : List ChanId := [.c0, .c1, .c2, .c3, .c4, .c5]

end Sys2Proof

namespace Sys2Proof.Machine

/-! ### Bytes, numbers and the check word -/

/-- `n` bytes of `v`, high byte first (11.1). -/
def be : Nat → Nat → List Byte
  | 0, _ => []
  | n + 1, v => BitVec.ofNat 8 (v / 256 ^ n) :: be n v

/-- The number that bytes spell, high byte first (11.1). -/
def beNat (bytes : List Byte) : Nat := bytes.foldl (fun acc b => acc * 256 + b.toNat) 0

/-- The `n`-byte field at offset `off` (11.1). -/
def field (bytes : List Byte) (off n : Nat) : Nat := beNat ((bytes.drop off).take n)

/-- Two bytes of a signed number, two's complement (11.1). -/
def beSigned (v : Int) : List Byte := be 2 (BitVec.ofInt 16 v).toNat

/-- One bit through the check register: generator x^16 + x^12 + x^5 + 1 (R128). -/
def crcBit (reg : BitVec 16) (bit : Bool) : BitVec 16 :=
  if (reg.msb ^^ bit) then (reg <<< 1) ^^^ 0x1021#16 else reg <<< 1

/-- One byte through the register, most significant bit first (R128). -/
def crcByte (reg : BitVec 16) (b : Byte) : BitVec 16 :=
  [7, 6, 5, 4, 3, 2, 1, 0].foldl (fun r i => crcBit r (b.getLsbD i)) reg

/-- The check word over bytes: preset FFFFh, no inversion (R128). -/
def checkWord (bytes : List Byte) : CheckWord := bytes.foldl crcByte 0xFFFF#16

/-- The bytes in a place whose content the layout leaves open (log entry 7). -/
def unused (n : Nat) : List Byte := (List.range n).map Config.unusedByte

/-- Fills a list of places up to `n` bytes with unused bytes. -/
def padTo (n : Nat) (bytes : List Byte) : List Byte := bytes ++ unused (n - bytes.length)

/-- A Bool as one byte: 00h or 01h. -/
def flag (b : Bool) : List Byte := [if b then 1 else 0]

/-- A presence flag and `n` bytes, unused bytes behind an absent flag. -/
def present {α : Type} (n : Nat) (enc : α → List Byte) : Option α → List Byte
  | some x => 1 :: enc x
  | none => 0 :: unused n

/-! ### Shared codings (11.1) -/

def KeyKind.code : KeyKind → Nat
  | .driver => 0 | .vehicle => 1

def KeyKind.ofCode? : Nat → Option KeyKind
  | 0 => some .driver | 1 => some .vehicle | _ => none

def Source.code : Source → Nat
  | .carried => 1 | .released => 2 | .both => 3

def DutyFigure.code : DutyFigure → Nat
  | .drive => 1 | .duty => 2 | .week => 3 | .span => 4

def figureCode : Option DutyFigure → Nat
  | none => 0 | some f => f.code

def Packing.code : Packing → Nat
  | .none => 0 | .i => 1 | .ii => 2 | .iii => 3

def Packing.ofCode? : Nat → Option Packing
  | 0 => some .none | 1 => some .i | 2 => some .ii | 3 => some .iii | _ => Option.none

def EndStatus.code : EndStatus → Nat
  | .complete => 1 | .probe => 2 | .uncoupled => 3 | .noflow => 4 | .stopped => 5 | .voided => 6

def endCode : Option EndStatus → Nat
  | none => 0 | some e => e.code

def StationState.code : StationState → Nat
  | .unconfigured => 0 | .starting => 1 | .joining => 2 | .onLine => 3

def LogState.code : LogState → Nat
  | .scanning => 0 | .ready => 1 | .logFault => 2

def FindingCode.code : FindingCode → Nat
  | .noEntries => 1 | .classNotPermitted => 2 | .dangerousOver => 3 | .apart => 4 | .separate => 5 | .noPlan => 6
  | .staleFigures => 7 | .dutyShort => 8 | .hold => 9 | .duplicate => 10 | .probeWet => 11 | .overfill => 12
  | .notPoured => 13 | .outOfTolerance => 14

/-- A figure set: 14 bytes. -/
def FigureSet.bytes (f : FigureSet) : List Byte :=
  be 4 f.stamp ++ be 2 f.drive ++ be 2 f.duty ++ be 2 f.cont ++ be 2 f.week ++ be 2 f.span

/-- The figure set at an offset, its figures as read. -/
def FigureSet.read (bytes : List Byte) (off : Nat) : FigureSet :=
  ⟨field bytes off 4, field bytes (off + 4) 2, field bytes (off + 6) 2, field bytes (off + 8) 2,
    field bytes (off + 10) 2, field bytes (off + 12) 2⟩

/-- A driver entry: 19 bytes. -/
def DriverEntry.bytes (d : DriverEntry) : List Byte := be 4 d.driver ++ be 1 d.source.code ++ d.figures.bytes

/-- A duty result: 9 bytes, 00h where absent. -/
def dutyBytes : Option DutyResult → List Byte
  | none => be 9 0
  | some r => 1 :: beSigned r.margin ++ be 1 r.limiting.code ++ be 4 r.latest ++ be 1 r.breaks

/-- A finding: 4 bytes. -/
def Finding.bytes (f : Finding) : List Byte :=
  be 1 f.code.code ++ be 1 (f.comps.getD 0 0) ++ be 1 (f.comps.getD 1 0) ++ be 1 (figureCode f.figure)

/-- A findings list: a count and 8 places, 33 bytes. -/
def findingsBytes (fs : List Finding) : List Byte := be 1 fs.length ++ padTo 32 (fs.flatMap Finding.bytes)

/-- A trip plan: 5 bytes, P and Q 0000h where absent. -/
def planBytes : Option Plan → List Byte
  | none => be 5 0
  | some p => 1 :: be 2 p.p ++ be 2 p.q

/-- A compartment place: 3 bytes. -/
def Comp.bytes (c : Comp) : List Byte := be 2 c.capacity ++ be 1 c.tank

/-- The compartment count and 8 places. -/
def compsBytes (cs : List Comp) : List Byte := be 1 cs.length ++ padTo 24 (cs.flatMap Comp.bytes)

/-- A paper entry: 10 bytes. -/
def PaperEntry.bytes (e : PaperEntry) : List Byte :=
  be 1 e.comp ++ be 1 e.product ++ be 2 e.un ++ be 1 e.cls ++ be 1 e.packing.code ++ be 2 e.declared ++
    be 1 (e.previous.getD 255) ++ be 1 ((if e.switchLoad then 1 else 0) + (if e.amended then 2 else 0))

/-- The entry count and 8 places. -/
def papersBytes (es : List PaperEntry) : List Byte := be 1 es.length ++ padTo 80 (es.flatMap PaperEntry.bytes)

/-- The current driver: the last of the driver list (R3). -/
def LoadRecord.current (r : LoadRecord) : DriverEntry := r.second.getD r.first

/-! ### Notices (11.2, R128, R214) -/

/-- The kind code of a notice (R128). -/
def Notice.kind : Notice → Nat
  | .stop _ => 0 | .contest .. => 1 | .claim .. => 2 | .draw .. => 3 | .release .. => 4 | .hold .. => 5 | .status => 6

/-- The place a notice is queued in (R129). -/
def Notice.place : Notice → Place
  | .stop _ => .stop
  | .contest ℓ .. => .contest ℓ
  | .claim ℓ .. => .claim ℓ
  | .draw _ c _ => .draw c
  | .release ℓ .. => .release ℓ
  | .hold _ n .. => .hold n
  | .status => .status

def HoldingForm.code : HoldingForm → Nat
  | .claimWindow => 0 | .settled => 1 | .reclaimWindow => 2

def ReleaseForm.code : ReleaseForm → Nat
  | .endOfLoad => 0 | .handover => 1 | .withdrawn => 2

/-- The body of a notice; a STATUS has `status`, the body formed at its start. -/
def Notice.body (status : List Byte) : Notice → List Byte
  | .stop assert => be 1 (if assert then 0 else 1)
  | .contest ℓ d form => be 1 ℓ.code ++ be 4 d ++ be 1 form.code
  | .claim ℓ reclaim d v => be 1 ℓ.code ++ flag reclaim ++ be 4 d ++ be 4 v
  | .draw on c h => be 1 (if on then 0 else 1) ++ be 1 c.index ++ be 1 h
  | .release ℓ form d figures =>
    be 1 ℓ.code ++ be 1 form.code ++ be 4 d ++ (match figures with | some f => f.bytes | none => [])
  | .hold issue n kind key reason =>
    be 1 (if issue then 0 else 1) ++ be 1 n ++ be 1 kind.code ++ be 4 key ++ be 1 reason
  | .status => status

/-- The header character: kind in bits 7 to 5, address in bits 4 to 0 (R128). -/
def headerChar (kind address : Nat) : Byte := BitVec.ofNat 8 (kind * 32 + address)

/-- The characters of a notice: header, length, body, check word (R128). -/
def frameNotice (kind address : Nat) (body : List Byte) : List Byte :=
  let front := headerChar kind address :: be 1 body.length ++ body
  front ++ be 2 (checkWord front).toNat

/-! ### Characters on the line (R127) -/

/-- The level a bit is sent at: 0 dominant, 1 recessive (chapter 6). -/
def levelOf (bit : Bool) : Level := if bit then .recessive else .dominant

/-- The eight data bits of a character, most significant first (R127). -/
def dataLevels (b : Byte) : List Level := [7, 6, 5, 4, 3, 2, 1, 0].map (fun i => levelOf (b.getLsbD i))

/-- A character: start dominant, the data bits, the mark bit, stop recessive: 11 bit times (R127). -/
def characterLevels (mark : Bool) (b : Byte) : List Level :=
  .dominant :: dataLevels b ++ [levelOf mark, .recessive]

/-- The characters of a notice back to back: the mark bit is 1 on the first and 0 on every other (R127). -/
def noticeLevels : List Byte → List Level
  | [] => []
  | h :: rest => characterLevels true h ++ rest.flatMap (characterLevels false)

/-- How a receiver reads the 11 levels that follow a start edge (R127, R138). -/
inductive CharacterRead where
  | wellFramed (mark : Bool) (data : Byte)
  | lineBreak
  | framingError
  deriving DecidableEq, Repr

/-- The byte that eight levels spell, most significant first. -/
def byteOf (levels : List Level) : Byte :=
  BitVec.ofNat 8 (levels.foldl (fun n l => 2 * n + (if l = .recessive then 1 else 0)) 0)

/-- Reads a character: a recessive stop bit makes it well framed, all dominant levels make it a break, and any other is a
framing error (R138). -/
def readCharacter (levels : List Level) : CharacterRead :=
  if levels.getD 10 .dominant = .recessive then
    .wellFramed (levels.getD 9 .dominant == .recessive) (byteOf ((levels.drop 1).take 8))
  else if levels.all (fun l => l == .dominant) then .lineBreak
  else .framingError

/-- A driver, vehicle or key number in its range. -/
def numberOk (n : Nat) : Bool := 1 ≤ n && n ≤ Config.numberMax

/-- An optional number: 0 means absent (11.1). -/
def optNumber (n : Nat) : Option Nat := if n = 0 then none else some n

/-- A STOP body: whether it asserts. -/
def parseStop (body : List Byte) : Option Bool :=
  if body.length = 1 then
    match field body 0 1 with
    | 0 => some true
    | 1 => some false
    | _ => none
  else none

/-- A CONTEST body: the driver contested, the one field receivers act on (R156). -/
def parseContest (body : List Byte) : Option Nat :=
  if body.length = 6 && (LaneId.ofCode? (field body 0 1)).isSome && numberOk (field body 1 4) && field body 5 1 ≤ 2 then
    some (field body 1 4)
  else none

/-- A CLAIM body: lane, reclaim flag, driver, vehicle. -/
def parseClaim (body : List Byte) : Option (LaneId × Bool × Nat × Nat) :=
  match LaneId.ofCode? (field body 0 1) with
  | none => none
  | some ℓ =>
    if body.length = 10 && field body 1 1 ≤ 1 && numberOk (field body 2 4) && numberOk (field body 6 4) then
      some (ℓ, field body 1 1 == 1, field body 2 4, field body 6 4)
    else none

/-- A DRAW body: whether ON, channel, header. -/
def parseDraw (body : List Byte) : Option (Bool × ChanId × Nat) :=
  match ChanId.ofIndex? (field body 1 1) with
  | none => none
  | some c =>
    if body.length = 3 && field body 0 1 ≤ 1 && field body 2 1 ≤ 7 then some (field body 0 1 == 0, c, field body 2 1)
    else none

/-- A heard figure above the top of its range is stored as the top (R58, R213). -/
def FigureSet.cap (f : FigureSet) : FigureSet :=
  ⟨f.stamp, min f.drive 1440, min f.duty 1440, min f.cont 1440, min f.week 10080, min f.span 1440⟩

/-- A RELEASE body: lane, form, driver, figures. A withdrawn RELEASE takes no figures (R214). -/
def parseRelease (body : List Byte) : Option (LaneId × ReleaseForm × Nat × Option FigureSet) :=
  match LaneId.ofCode? (field body 0 1) with
  | none => none
  | some ℓ =>
    let d := field body 2 4
    if !numberOk d then none
    else
      match field body 1 1, body.length with
      | 0, 6 => some (ℓ, .endOfLoad, d, none)
      | 0, 20 => some (ℓ, .endOfLoad, d, some (FigureSet.read body 6).cap)
      | 1, 6 => some (ℓ, .handover, d, none)
      | 1, 20 => some (ℓ, .handover, d, some (FigureSet.read body 6).cap)
      | 2, 6 => some (ℓ, .withdrawn, d, none)
      | _, _ => none

/-- A HOLD body: whether ISSUE, order number, key kind, key, reason. -/
def parseHold (body : List Byte) : Option (Bool × Nat × KeyKind × Nat × Nat) :=
  match KeyKind.ofCode? (field body 2 1) with
  | none => none
  | some kind =>
    if body.length = 8 && field body 0 1 ≤ 1 && field body 1 1 ≤ 7 && numberOk (field body 3 4) then
      some (field body 0 1 == 0, field body 1 1, kind, field body 3 4, field body 7 1)
    else none

/-- What a STATUS reports (R149). -/
structure StatusReport where
  stop : Bool
  resync : Bool
  laneA : PeerLane
  laneB : PeerLane
  draws : Assoc (Option Nat)
  deriving DecidableEq, Repr

def PeerLaneState.ofCode : Nat → PeerLaneState
  | 0 => .vacant | 1 => .claiming | 2 => .opened | _ => .loading

def PeerLaneState.code : PeerLaneState → Nat
  | .vacant => 0 | .claiming => 1 | .opened => 2 | .loading => 3

/-- The lane block at an offset: `none` where a number is out of its range. DESIGN CHOICE (log entry 28): a state and numbers
that disagree fail no check and are taken as read. -/
def parseLaneBlock (body : List Byte) (off : Nat) : Option PeerLane :=
  let word := field body off 4
  let d := word % 2 ^ 30
  let v := field body (off + 4) 4
  let r := field body (off + 8) 4
  if d ≤ Config.numberMax && v ≤ Config.numberMax && r ≤ Config.numberMax then
    some ⟨PeerLaneState.ofCode (word / 2 ^ 30), optNumber d, optNumber v, optNumber r⟩
  else none

/-- Lane block `i` of a STATUS reporting `lanes` lanes; an unreported lane is blank (R150). -/
def parseLane (body : List Byte) (lanes i : Nat) : Option PeerLane :=
  if i < lanes then parseLaneBlock body (2 + 12 * i) else some .blank

/-- The draw pairs from an offset, the pairs so far kept by rising channel: `none` where a number is out of range or a
channel comes twice (R214). -/
def parsePairs (body : List Byte) (off : Nat) (acc : Assoc (Option Nat)) : Nat → Option (Assoc (Option Nat))
  | 0 => some acc
  | n + 1 =>
    let c := field body off 1
    let h := field body (off + 1) 1
    if c ≤ 5 && h ≤ 7 && !(acc.any (fun p => p.1 == c)) then
      parsePairs body (off + 2)
        (acc.takeWhile (fun p => p.1 < c) ++ (c, some h) :: acc.dropWhile (fun p => p.1 < c)) n
    else none

/-- A STATUS body (R149, R213). DESIGN CHOICE (log entry 28): bits 5 to 2 of the flags byte are ignored. -/
def parseStatus (body : List Byte) : Option StatusReport :=
  let flags := field body 0 1
  let lanes := flags % 4
  let pairs := field body 1 1
  if lanes ≤ 2 && pairs ≤ 6 && body.length = 2 + 12 * lanes + 2 * pairs then
    match parseLane body lanes 0, parseLane body lanes 1, parsePairs body (2 + 12 * lanes) [] pairs with
    | some a, some b, some draws => some ⟨128 ≤ flags, 64 ≤ flags % 128, a, b, draws⟩
    | _, _, _ => none
  else none

/-! ### Log stages (11.5, R169) -/

def StageKind.code : StageKind → Nat
  | .header => 1 | .papers => 2 | .amend => 3 | .driver => 4 | .pour .. => 5 | .outcome => 6

/-- The areas of a slot, numbered: header 0, papers X 1, papers Y 2, driver 3, pour (c, p) 4 to 35, outcome 36 (R169). -/
def areasPerSlot : Nat := 37
def areaHeader : Nat := 0
def areaPapersX : Nat := 1
def areaPapersY : Nat := 2
def areaDriver : Nat := 3
def areaPour (c p : Nat) : Nat := 4 + 4 * (c - 1) + (p - 1)
def areaOutcome : Nat := 36

/-- The bytes of an area: sized for the longest content of its kind, with the frame's 13 bytes (11.5). -/
def areaSize (area : Nat) : Nat :=
  13 + (if area = 0 then 64 else if area ≤ 2 then 86 else if area = 3 then 38 else if area ≤ 35 then 25 else 63)

/-- The stage frame (11.5). -/
def frameStage (kindCode seq stageNumber : Nat) (content : List Byte) : List Byte :=
  let front := be 1 kindCode ++ be 4 seq ++ be 4 stageNumber ++ be 2 content.length ++ content
  front ++ be 2 (checkWord front).toNat

/-- An image is normal when it is `[]` for all FFh, the blank image (R213). -/
def normImage (bytes : List Byte) : List Byte := if bytes.all (· == 0xFF#8) then [] else bytes

/-- An area image filled with FFh, or cut, to its area's size (11.5). -/
def fitImage (area : Nat) (bytes : List Byte) : List Byte :=
  normImage ((bytes ++ List.replicate (areaSize area - bytes.length) 0xFF#8).take (areaSize area))

/-- A written area verifies when its check word agrees with its content (R169). -/
def verifies (image : List Byte) : Bool :=
  let len := field image 9 2
  13 + len ≤ image.length && (checkWord (image.take (11 + len))).toNat == field image (11 + len) 2

def imageKind (image : List Byte) : Nat := field image 0 1
def imageSeq (image : List Byte) : Nat := field image 1 4
def imageStage (image : List Byte) : Nat := field image 5 4
def imageContent (image : List Byte) : List Byte := (image.drop 11).take (field image 9 2)

/-- The trim mark's place: the mark and a check word over it (11.5). -/
def markBytes (mark : Nat) : List Byte := be 4 mark ++ be 2 (checkWord (be 4 mark)).toNat

/-- The mark a place holds: 0 where its check word fails or it holds none (R188). -/
def readMark (image : List Byte) : Nat :=
  if image.length = 6 && (checkWord (image.take 4)).toNat == field image 4 2 then field image 0 4 else 0

/-- The HEADER content: 64 bytes. -/
def headerContent (ℓ : LaneId) (r : LoadRecord) : List Byte :=
  be 1 ℓ.code ++ be 4 r.openMinute ++ r.first.bytes ++ be 4 r.vehicle ++ be 2 r.permit.classes.toNat ++
    be 4 r.permit.maxDangerous ++ compsBytes r.comps ++ planBytes r.plan

/-- The PAPERS and AMEND content: 86 bytes (R45). -/
def papersContent (r : LoadRecord) : List Byte := planBytes r.plan ++ papersBytes r.papers

/-- The DRIVER content: 38 bytes (R174). -/
def driverContent (d : DriverEntry) (minute : Nat) (handover : Option FigureSet) : List Byte :=
  d.bytes ++ be 4 minute ++ present 14 FigureSet.bytes handover

/-- The OUTCOME content: 63 bytes (R176). `outcome` is 1 RELEASED, 2 VOIDED, 3 INTERRUPTED. -/
def outcomeContent (outcome : Nat) (minute : Option Nat) (duty : Option DutyResult) (findings : List Finding)
    (onward : Option FigureSet) : List Byte :=
  be 1 outcome ++ present 4 (be 4) minute ++ dutyBytes duty ++ findingsBytes findings ++
    present 14 FigureSet.bytes onward

/-! ### Panel frames (R192, R194) -/

def Request.code : Request → Nat
  | .checkIn => 0x01 | .reDriver => 0x02 | .paperEntry => 0x03 | .paperDelete => 0x04 | .papersClose => 0x05
  | .amend => 0x06 | .release => 0x07 | .void => 0x08 | .unholdWatch => 0x09
  | .pourArm => 0x11 | .pourStop => 0x12 | .pourResume => 0x13
  | .holdIssue => 0x21 | .holdCancel => 0x22 | .holdDrop => 0x23 | .stopDrop => 0x24 | .watchSet => 0x25
  | .watchClear => 0x26
  | .readLane => 0x31 | .readChannel => 0x32 | .readPeers => 0x33 | .readAttention => 0x34 | .readLog => 0x35
  | .readCause => 0x36
  | .trimLog => 0x41 | .configure => 0x51 | .restart => 0x52

/-- The request codes (9.2). -/
def requestCodes : List Nat :=
  [0x01, 0x02, 0x03, 0x04, 0x05, 0x06, 0x07, 0x08, 0x09, 0x11, 0x12, 0x13, 0x21, 0x22, 0x23, 0x24, 0x25, 0x26, 0x31,
    0x32, 0x33, 0x34, 0x35, 0x36, 0x41, 0x51, 0x52]

/-- The operand bytes each request takes (11.3). -/
def Request.operands : Request → Nat
  | .checkIn => 59 | .reDriver => 19 | .paperEntry => 10 | .paperDelete => 2 | .papersClose => 6 | .amend => 4
  | .release => 1 | .void => 1 | .unholdWatch => 1
  | .pourArm => 3 | .pourStop => 1 | .pourResume => 1
  | .holdIssue => 6 | .holdCancel => 1 | .holdDrop => 2 | .stopDrop => 1 | .watchSet => 6 | .watchClear => 0
  | .readLane => 1 | .readChannel => 1 | .readPeers => 1 | .readAttention => 0 | .readLog => 2 | .readCause => 0
  | .trimLog => 2 | .configure => 255 | .restart => 0

/-- The check word a whole request must carry: over its code byte and operands (R192). -/
def requestCheck (r : Request) (ops : List Byte) : CheckWord := checkWord (BitVec.ofNat 8 r.code :: ops)

def ResultCode.code : ResultCode → Nat
  | .ok => 0 | .findings => 1 | .badFrame => 2 | .unknownRequest => 3 | .notConfigured => 4 | .badState => 5
  | .badValue => 6 | .laneDriver => 7 | .driverElsewhere => 8 | .logFault => 9 | .logFull => 10 | .logBusy => 11
  | .entryExists => 12 | .productMismatch => 13 | .held => 14 | .channelBusy => 15 | .notReachable => 16
  | .compartmentBusy => 17 | .pourLimit => 18 | .probeWet => 19 | .stillStopped => 20 | .notOrphan => 21
  | .listFull => 22

/-- The bytes of an answer from its marker on (R194). -/
def Answer.bytes (a : Answer) : List Byte :=
  let core := be 1 a.result.code ++ be 2 a.body.length ++ a.body
  0x5A#8 :: core ++ be 2 (checkWord core).toNat

end Sys2Proof.Machine
end

