-- ==== Sys2Proof/Machine/Ops.lean ====
section
/-! DEFINITION. The accessors of the state: every read and write of a part of it goes through these. -/

namespace Sys2Proof.Machine

/-! ### Sparse tables -/

/-- The value at a key; an unlisted key reads as `d`. -/
def Assoc.get {α : Type} (d : α) (k : Nat) : Assoc α → α
  | [] => d
  | (i, v) :: rest => if i = k then v else Assoc.get d k rest

/-- Takes a key out. -/
def Assoc.erase {α : Type} (k : Nat) : Assoc α → Assoc α
  | [] => []
  | (i, v) :: rest => if i = k then rest else (i, v) :: Assoc.erase k rest

/-- Lists a value at its place in the rising order, in place of any value there. -/
def Assoc.insert {α : Type} (k : Nat) (x : α) : Assoc α → Assoc α
  | [] => [(k, x)]
  | (i, v) :: rest =>
    if k < i then (k, x) :: (i, v) :: rest
    else if k = i then (k, x) :: rest
    else (i, v) :: Assoc.insert k x rest

/-- Writes a value: writing what an unlisted key reads as takes the entry out, so that equal tables are equal data. -/
def Assoc.put {α : Type} [DecidableEq α] (d : α) (k : Nat) (x : α) (m : Assoc α) : Assoc α :=
  if x = d then Assoc.erase k m else Assoc.insert k x m

/-- The canonical form: keys strictly rising, no entry equal to what an unlisted key reads as. -/
def Assoc.wf {α : Type} [DecidableEq α] (d : α) : Assoc α → Bool
  | [] => true
  | (i, v) :: rest => (v != d) && rest.all (fun p => i < p.1) && Assoc.wf d rest

/-! ### Channels and lanes -/

def PerChannel.get {α : Type} (p : PerChannel α) : ChanId → α
  | .c0 => p.c0 | .c1 => p.c1 | .c2 => p.c2 | .c3 => p.c3 | .c4 => p.c4 | .c5 => p.c5

def PerChannel.set {α : Type} (p : PerChannel α) (c : ChanId) (x : α) : PerChannel α :=
  match c with
  | .c0 => { p with c0 := x } | .c1 => { p with c1 := x } | .c2 => { p with c2 := x }
  | .c3 => { p with c3 := x } | .c4 => { p with c4 := x } | .c5 => { p with c5 := x }

def PerChannel.map {α β : Type} (f : α → β) (p : PerChannel α) : PerChannel β :=
  ⟨f p.c0, f p.c1, f p.c2, f p.c3, f p.c4, f p.c5⟩

def Lanes.get (l : Lanes) : LaneId → Lane
  | .a => l.a | .b => l.b

def Lanes.set (l : Lanes) (ℓ : LaneId) (x : Lane) : Lanes :=
  match ℓ with
  | .a => { l with a := x }
  | .b => { l with b := x }

/-- The station's other lane. -/
def otherLane : LaneId → LaneId
  | .a => .b | .b => .a

/-- Lane `ℓ`. -/
def State.lane (s : State) (ℓ : LaneId) : Lane := s.lanes.get ℓ
/-- Writes lane `ℓ`. -/
def State.setLane (s : State) (ℓ : LaneId) (x : Lane) : State := { s with lanes := s.lanes.set ℓ x }
/-- Changes lane `ℓ`. -/
def State.modLane (s : State) (ℓ : LaneId) (f : Lane → Lane) : State := s.setLane ℓ (f (s.lane ℓ))
/-- Changes the load record of lane `ℓ`, if it has one. -/
def State.modRecord (s : State) (ℓ : LaneId) (f : LoadRecord → LoadRecord) : State :=
  s.modLane ℓ (fun l => { l with record := l.record.map f })

/-- Channel `c`. -/
def State.chan (s : State) (c : ChanId) : Channel := s.channels.get c
/-- Writes channel `c`. -/
def State.setChan (s : State) (c : ChanId) (x : Channel) : State := { s with channels := s.channels.set c x }
/-- Changes channel `c`. -/
def State.modChan (s : State) (c : ChanId) (f : Channel → Channel) : State := s.setChan c (f (s.chan c))

def State.setPins (s : State) (x : Pins) : State := { s with pins := x }
def State.setUnit (s : State) (x : StationUnit) : State := { s with unit := x }
def State.setReleased (s : State) (x : List (Nat × FigureSet)) : State := { s with released := x }
def State.setLists (s : State) (x : Lists) : State := { s with lists := x }
def State.setLine (s : State) (x : RackLine) : State := { s with line := x }
def State.setView (s : State) (x : PeerView) : State := { s with view := x }
def State.setLog (s : State) (x : DeliveryLog) : State := { s with log := x }
def State.setPort (s : State) (x : PanelPort) : State := { s with port := x }
def State.setAttention (s : State) (x : List (Reason × Bool)) : State := { s with attention := x }

/-- Moves on to the next free value. -/
def State.nextFree (s : State) : State := { s with freeCount := s.freeCount + 1 }

/-! ### Pins -/

/-- The level of lane `ℓ`'s ground-verify input (R17). -/
def State.ground (s : State) : LaneId → Ground
  | .a => s.pins.groundA | .b => s.pins.groundB

/-- The level of lane `ℓ`'s overfill-probe input (R17). -/
def State.probe (s : State) : LaneId → Probe
  | .a => s.pins.probeA | .b => s.pins.probeB

def Pins.setGround (p : Pins) (ℓ : LaneId) (g : Ground) : Pins :=
  match ℓ with
  | .a => { p with groundA := g }
  | .b => { p with groundB := g }

def Pins.setProbe (p : Pins) (ℓ : LaneId) (g : Probe) : Pins :=
  match ℓ with
  | .a => { p with probeA := g }
  | .b => { p with probeB := g }

/-! ### The station and its configuration -/

/-- The station takes part on the line: JOINING or ON_LINE (R126, R204). -/
def State.joined (s : State) : Bool := s.unit.state == .joining || s.unit.state == .onLine

/-- The reset pin is held: nothing acts (R209). -/
def State.inReset (s : State) : Bool := s.pins.resetAsserted

/-- The line port runs (R126). -/
def State.lineOn (s : State) : Bool := !s.inReset && s.joined

/-- The minute clock; it is present whenever a lane or a channel acts (R204). -/
def State.minute (s : State) : Nat := s.unit.clock.getD 0

/-- Lane `ℓ` exists under the lane count (R1). -/
def State.laneExists (s : State) (ℓ : LaneId) : Bool :=
  match s.unit.config with
  | none => false
  | some cfg => ℓ.code < cfg.lanes

/-- The entry of a present channel (R74, R75). -/
def State.chanCfg (s : State) (c : ChanId) : Option ChannelCfg :=
  match s.unit.config with
  | none => none
  | some cfg => cfg.channels.getD c.index none

/-- The configured limit of a header (R145). -/
def State.headerLimit (s : State) (h : Nat) : Nat :=
  match s.unit.config with
  | none => 0
  | some cfg => cfg.headers.getD h 0

/-- A product's table entry, if it is present (R32). -/
def Configuration.product (cfg : Configuration) (p : Nat) : Option Product := cfg.products.getD p none

/-- The refresh period in ms (R147). -/
def State.refreshMs (s : State) : Nat :=
  match s.unit.config with
  | none => 0
  | some cfg => cfg.refresh * 1000

/-- The claim window in ms (R11). -/
def State.windowMs (s : State) : Nat :=
  match s.unit.config with
  | none => 0
  | some cfg => cfg.claimWindow

/-- The no-flow time in ms (R101). -/
def State.noFlowMs (s : State) : Nat :=
  match s.unit.config with
  | none => 0
  | some cfg => cfg.noFlow * 1000

/-- The settle time in ms (R102). -/
def State.settleMs (s : State) : Nat :=
  match s.unit.config with
  | none => 0
  | some cfg => cfg.settle * 1000

/-- A channel is assigned to lane `ℓ` (R78). -/
def Channel.atLane (ch : Channel) (ℓ : LaneId) : Bool :=
  match ch.assigned with
  | some (ℓ', _) => ℓ' == ℓ
  | none => false

/-- A channel is assigned to compartment `n` of lane `ℓ` (R78). -/
def Channel.atComp (ch : Channel) (ℓ : LaneId) (n : Nat) : Bool := ch.assigned == some (ℓ, n)

/-- Some channel is assigned to lane `ℓ`; a channel of the lane is IDLE exactly when it is not assigned (R100). -/
def State.laneBusy (s : State) (ℓ : LaneId) : Bool := ChanId.all.any (fun c => (s.chan c).atLane ℓ)

/-- Compartment `n` of a record, numbered from 1 (R3). -/
def LoadRecord.comp? (r : LoadRecord) (n : Nat) : Option Comp :=
  match n with
  | 0 => none
  | k + 1 => r.comps[k]?

/-- Changes compartment `n`. -/
def LoadRecord.modComp (r : LoadRecord) (n : Nat) (f : Comp → Comp) : LoadRecord :=
  match n with
  | 0 => r
  | k + 1 => { r with comps := r.comps.modify k f }

/-- The paper entry of a compartment (R34). -/
def LoadRecord.entry? (r : LoadRecord) (n : Nat) : Option PaperEntry := r.papers.find? (fun e => e.comp == n)

/-- The current driver of lane `ℓ`, when it has a record (R8). -/
def Lane.driver? (l : Lane) : Option Nat := l.record.map (fun r => r.current.driver)

/-- The lane holds a driver: as current driver, or as the driver of a pending reclaim (R8). -/
def Lane.holdsDriver (l : Lane) (d : Nat) : Bool :=
  l.driver? == some d || (l.reclaim.map (fun r => r.claim.driver)) == some d

/-! ### Outputs -/

/-- The attention line: asserted while the set is not empty; a reset in progress deasserts it (R200, R209). -/
def State.attentionLine (s : State) : Bool := !s.inReset && !s.attention.isEmpty

end Sys2Proof.Machine
end

