-- ==== Sys2Proof/Machine/Duty.lean ====
section
/-! DEFINITION. Driver duty arithmetic (chapter 3): the merge, the five stages, the onward figures and the
Released-Driver Table. -/

namespace Sys2Proof.Machine

/-! ### The Released-Driver Table -/

/-- A table entry is live while its age, taken signed, is no greater than STALE (R60). -/
def figuresLive (stale minute : Nat) (f : FigureSet) : Bool := (minute : Int) - f.stamp ≤ stale

/-- The entry of a driver (R57). -/
def releasedOf (table : List (Nat × FigureSet)) (d : Nat) : Option FigureSet :=
  (table.find? (fun e => e.1 == d)).map Prod.snd

/-- Whether entry `x` is displaced before `y`: an earlier stamp, or the same stamp and a lower driver number (R59). -/
def displacedBefore (x y : Nat × FigureSet) : Bool :=
  x.2.stamp < y.2.stamp || (x.2.stamp == y.2.stamp && x.1 < y.1)

/-- The entry a full table gives up first (R59). -/
def earliest (first : Nat × FigureSet) (rest : List (Nat × FigureSet)) : Nat × FigureSet :=
  rest.foldl (fun best e => if displacedBefore e best then e else best) first

/-- Stores heard figures for a driver (R58, R59). -/
def storeReleased (d : Nat) (f : FigureSet) (table : List (Nat × FigureSet)) : List (Nat × FigureSet) :=
  if table.any (fun e => e.1 == d) then table.map (fun e => if e.1 = d then (d, f) else e)
  else if table.length < Config.releasedMax then table ++ [(d, f)]
  else
    match table with
    | [] => [(d, f)]
    | e :: rest =>
      let out := earliest e rest
      if f.stamp < out.2.stamp then table else table.filter (fun x => x.1 != out.1) ++ [(d, f)]

/-! ### The merge -/

/-- The figures in use, and their source, from the carried figures and the table's entry (R61). -/
def mergeFigures (stale minute : Nat) (carried : FigureSet) (entry : Option FigureSet) : FigureSet × Source :=
  match entry with
  | none => (carried, .carried)
  | some e =>
    if !figuresLive stale minute e then (carried, .carried)
    else if carried.stamp < e.stamp then (e, .released)
    else if e.stamp = carried.stamp then
      (⟨carried.stamp, max carried.drive e.drive, max carried.duty e.duty, max carried.cont e.cont,
        max carried.week e.week, max carried.span e.span⟩, .both)
    else (carried, .carried)

/-! ### The computation -/

/-- How a computation ends (R62). -/
inductive DutyOutcome where
  | stale
  | short (figure : DutyFigure)
  | pass (result : DutyResult)
  deriving DecidableEq, Repr

/-- The raw elapsed time, signed (R63). -/
def rawElapsed (t : Nat) (f : FigureSet) : Int := (t : Int) - f.stamp

/-- The elapsed time E (R63). -/
def elapsed (t : Nat) (f : FigureSet) : Nat := t - f.stamp

/-- The room before a break (R64). -/
def breakRoom (lim : Limits) (f : FigureSet) : Nat := lim.cont - f.cont

/-- The break count n: a ceiling division (R64). -/
def breakCount (lim : Limits) (f : FigureSet) (p : Nat) : Nat :=
  if p ≤ breakRoom lim f then 0 else (p - breakRoom lim f + (lim.cont - 1)) / lim.cont

/-- The projected figures (R65). -/
structure Projection where
  drive : Nat
  duty : Nat
  week : Nat
  span : Nat
  breaks : Nat
  deriving DecidableEq, Repr

def project (lim : Limits) (f : FigureSet) (plan : Plan) (t : Nat) : Projection :=
  let e := elapsed t f
  let n := breakCount lim f plan.p
  ⟨f.drive + plan.p, f.duty + e + plan.p + plan.q, f.week + plan.p, f.span + e + plan.p + plan.q + n * lim.breakMin, n⟩

/-- The margin of each figure (R66). -/
def Projection.margin (lim : Limits) (x : Projection) : DutyFigure → Int
  | .drive => (lim.drive : Int) - x.drive
  | .duty => (lim.duty : Int) - x.duty
  | .week => (lim.week : Int) - x.week
  | .span => (lim.span : Int) - x.span

/-- The limiting figure: the first of DRIVE, DUTY, WEEK, SPAN with the smallest margin (R66). -/
def limitingFigure (m : DutyFigure → Int) : DutyFigure :=
  [DutyFigure.duty, .week, .span].foldl (fun best x => if m x < m best then x else best) .drive

/-- The latest release minute, stopping at the clock maximum (R67). -/
def latestRelease (t : Nat) (m : DutyFigure → Int) : Nat :=
  min (t + (min (m .duty) (m .span)).toNat) Config.clockMax

/-- The five stages (R62 to R67). -/
def dutyCompute (lim : Limits) (f : FigureSet) (plan : Plan) (t : Nat) : DutyOutcome :=
  if (lim.stale : Int) < rawElapsed t f then .stale
  else
    let x := project lim f plan t
    let m := x.margin lim
    let fig := limitingFigure m
    if m fig < 0 then .short fig
    else .pass ⟨m fig, fig, latestRelease t m, x.breaks, if m .duty ≤ m .span then .duty else .span⟩

/-- The finding of a failing computation (R38). -/
def DutyOutcome.findings : DutyOutcome → List Finding
  | .stale => [⟨.staleFigures, [], none⟩]
  | .short fig => [⟨.dutyShort, [], some fig⟩]
  | .pass _ => []

/-- The duty result of a pass. -/
def DutyOutcome.result? : DutyOutcome → Option DutyResult
  | .pass r => some r
  | _ => none

/-- The onward figures, or none where the figures are stale (R72). -/
def onwardFigures (lim : Limits) (f : FigureSet) (plan : Plan) (t : Nat) : Option FigureSet :=
  if (lim.stale : Int) < rawElapsed t f then none
  else
    let x := project lim f plan t
    let cont :=
      if x.breaks = 0 then f.cont + plan.p else (plan.p - breakRoom lim f) - (x.breaks - 1) * lim.cont
    some ⟨min (t + plan.p + plan.q + x.breaks * lim.breakMin) Config.clockMax,
      min x.drive 1440, min x.duty 1440, min cont 1440, min x.week 10080, min x.span 1440⟩

/-- The plan of a handover or a void: P = Q = 0 (R72). -/
def noPlan : Plan := ⟨0, 0⟩

end Sys2Proof.Machine
end

