-- ==== Sys2Proof/Machine/Papers.lean ====
section
/-! DEFINITION. Papers and dangerous-goods checks (chapter 2): the tests of PAPERS-CLOSE, AMEND and RELEASE on a record. -/

namespace Sys2Proof.Machine

/-- A finding that names compartments. -/
def findingAt (c : FindingCode) (comps : List Nat) : Finding := ⟨c, comps, none⟩

/-- Only the first 8 findings of a check are kept (R38). -/
def keepFindings (fs : List Finding) : List Finding := fs.take Config.findingMax

/-- Puts an entry at the place its compartment number gives (R36). -/
def insertEntry (e : PaperEntry) : List PaperEntry → List PaperEntry
  | [] => [e]
  | x :: rest => if x.comp < e.comp then x :: insertEntry e rest else e :: x :: rest

/-- The stricter of two relations (R33). -/
def Relation.stricter : Relation → Relation → Relation
  | .separate, _ => .separate
  | _, .separate => .separate
  | .apart, _ => .apart
  | _, .apart => .apart
  | .allowed, .allowed => .allowed

/-- The relation of two classes: the stricter of the two cells, ALLOWED with class 0 (R33). -/
def Configuration.relationOf (cfg : Configuration) (a b : Nat) : Relation :=
  if a = 0 ∨ b = 0 then .allowed
  else (cfg.relation.getD (16 * a + b) .allowed).stricter (cfg.relation.getD (16 * b + a) .allowed)

/-- The switch-load mark of an entry (R46). -/
def switchLoadMark (cfg : Configuration) (product : Product) (previous : Option Nat) : Bool :=
  if product.high then false
  else
    match previous with
    | none => true
    | some p =>
      match cfg.product p with
      | some q => q.high
      | none => true

/-- Test 1: the list is not empty (R40). -/
def testNoEntries (r : LoadRecord) : List Finding :=
  if r.papers.isEmpty then [findingAt .noEntries []] else []

/-- Test 2: each entry's class is allowed (R40). -/
def testClasses (r : LoadRecord) : List Finding :=
  (r.papers.filter (fun e => !r.permit.classes.getLsbD e.cls)).map (fun e => findingAt .classNotPermitted [e.comp])

/-- The declared dangerous litres (R41). -/
def dangerousLitres (papers : List PaperEntry) : Nat :=
  ((papers.filter (fun e => e.cls != 0)).map PaperEntry.declared).sum

/-- Test 3: the dangerous litres do not exceed the permit's maximum (R41). -/
def testDangerous (r : LoadRecord) (papers : List PaperEntry) : List Finding :=
  if r.permit.maxDangerous < dangerousLitres papers then [findingAt .dangerousOver []] else []

/-- Compartments c and c + 1 are both of one tank (R42). -/
def sameTank (r : LoadRecord) (c d : Nat) : Bool :=
  match r.comp? c, r.comp? d with
  | some x, some y => x.tank == y.tank
  | _, _ => false

/-- Test 4: no two consecutive compartments of one tank related APART or SEPARATE (R42). -/
def testApart (cfg : Configuration) (r : LoadRecord) : List Finding :=
  [1, 2, 3, 4, 5, 6, 7].filterMap (fun c =>
    match r.entry? c, r.entry? (c + 1) with
    | some x, some y =>
      if sameTank r c (c + 1) && cfg.relationOf x.cls y.cls != .allowed then some (findingAt .apart [c, c + 1]) else none
    | _, _ => none)

/-- The pairs of a list, the earlier element first. -/
def pairsOf {α : Type} : List α → List (α × α)
  | [] => []
  | x :: rest => rest.map (fun y => (x, y)) ++ pairsOf rest

/-- Test 5: no two compartments related SEPARATE (R43). -/
def testSeparate (cfg : Configuration) (r : LoadRecord) : List Finding :=
  (pairsOf r.papers).filterMap (fun (x, y) =>
    if cfg.relationOf x.cls y.cls = .separate then some (findingAt .separate [x.comp, y.comp]) else none)

/-- Test 6: the plan is present (R44). -/
def testPlan (r : LoadRecord) : List Finding := if r.plan.isNone then [findingAt .noPlan []] else []

/-- The duty computation of a record, if it has a plan (R44, R54). -/
def recordDuty (cfg : Configuration) (r : LoadRecord) (t : Nat) : Option DutyOutcome :=
  r.plan.map (fun plan => dutyCompute cfg.limits r.current.figures plan t)

/-- Test 7: the duty check (R44, R54). -/
def testDuty (cfg : Configuration) (r : LoadRecord) (t : Nat) : List Finding :=
  match recordDuty cfg r t with
  | some o => o.findings
  | none => []

/-- The seven close tests in their order (R39). -/
def closeFindings (cfg : Configuration) (r : LoadRecord) (t : Nat) : List Finding :=
  keepFindings (testNoEntries r ++ testClasses r ++ testDangerous r r.papers ++ testApart cfg r ++ testSeparate cfg r ++
    testPlan r ++ testDuty cfg r t)

/-! ### The release comparison -/

/-- The allowance of an entry: the larger of TOL_MIN and the ceiling of declared × TOL_PERMILLE / 1000 (R53). -/
def allowance (cfg : Configuration) (declared : Nat) : Nat :=
  max cfg.tolMin ((declared * cfg.tolPermille + 999) / 1000)

/-- The difference without sign (R53). -/
def absDiff (x y : Nat) : Nat := (x - y) + (y - x)

/-- The metered litres of an entry's compartment (R53). -/
def meteredOf (r : LoadRecord) (n : Nat) : Nat :=
  match r.comp? n with
  | some c => c.metered
  | none => 0

/-- Test 4: no compartment carries the overfill mark, taken in order (R52). -/
def testOverfill (r : LoadRecord) : List Finding :=
  [1, 2, 3, 4, 5, 6, 7, 8].filterMap (fun n =>
    match r.comp? n with
    | some c => if c.overfill then some (findingAt .overfill [n]) else none
    | none => none)

/-- Test 5: every entry's compartment has metered something (R53). -/
def testPoured (r : LoadRecord) : List Finding :=
  (r.papers.filter (fun e => meteredOf r e.comp == 0)).map (fun e => findingAt .notPoured [e.comp])

/-- Test 6: every poured entry is within tolerance (R53). -/
def testTolerance (cfg : Configuration) (r : LoadRecord) : List Finding :=
  (r.papers.filter (fun e =>
    meteredOf r e.comp != 0 && allowance cfg e.declared < absDiff (meteredOf r e.comp) e.declared)).map
    (fun e => findingAt .outOfTolerance [e.comp])

/-- The seven release tests in their order (R51). -/
def releaseFindings (cfg : Configuration) (r : LoadRecord) (holds : HoldSet) (probe : Probe) (t : Nat) : List Finding :=
  keepFindings
    ((if holds.order || holds.watch then [findingAt .hold []] else []) ++
      (if holds.duplicate then [findingAt .duplicate []] else []) ++
      (if probe = .wet then [findingAt .probeWet []] else []) ++
      testOverfill r ++ testPoured r ++ testTolerance cfg r ++ testDuty cfg r t)

end Sys2Proof.Machine
end

