-- ==== Sys2Proof/Machine/Flags.lean ====
section
/-! DEFINITION. The flags the bay host sees: the attention set with its reported marks (R198, R199), the lane result
(R31), the record's findings (R5) and the cause set (R211). -/

namespace Sys2Proof.Machine

/-- Adds a reason: at most one instance of each, its reported mark clear (R198). -/
def addReasonTo (r : Reason) : List (Reason × Bool) → List (Reason × Bool)
  | [] => [(r, false)]
  | (q, m) :: rest => if q = r then (q, false) :: rest else (q, m) :: addReasonTo r rest

/-- Adds a reason to the attention set (R198). -/
def State.attend (s : State) (r : Reason) : State := s.setAttention (addReasonTo r s.attention)

/-- Sets every reported mark (R199). -/
def State.markReported (s : State) : State := s.setAttention (s.attention.map (fun p => (p.1, true)))

/-- Clears every reported mark (R199). -/
def State.clearReported (s : State) : State := s.setAttention (s.attention.map (fun p => (p.1, false)))

/-- Takes the reported reasons out (R199). -/
def State.dropReported (s : State) : State := s.setAttention (s.attention.filter (fun p => !p.2))

/-- Sets the lane result and adds LANE_DONE (R31). -/
def State.setResult (s : State) (ℓ : LaneId) (e : ResultEvent) (o : ResultOutcome) : State :=
  (s.modLane ℓ (fun l => { l with result := some (e, o) })).attend (.laneDone ℓ)

/-- Two findings are equal for R5: the same rule code and the same compartment numbers, whatever figure they name. -/
def Finding.same (f g : Finding) : Bool := f.code == g.code && f.comps == g.comps

/-- A finding joins a list once, and none past 8 (R5). -/
def joinFinding (fs : List Finding) (f : Finding) : List Finding :=
  if fs.any f.same then fs else if fs.length < Config.findingMax then fs ++ [f] else fs

/-- Findings join the record's list in their order (R5). -/
def State.joinFindings (s : State) (ℓ : LaneId) (new : List Finding) : State :=
  s.modRecord ℓ (fun r => { r with findings := new.foldl joinFinding r.findings })

/-- Bit `i` of a mask of Bools, the first at bit 0. -/
def maskOf : List Bool → Nat
  | [] => 0
  | b :: rest => (if b then 1 else 0) + 2 * maskOf rest

/-- The causes as the READ-CAUSE mask (11.4). -/
def CauseSet.mask (c : CauseSet) : Nat := maskOf [c.powerOn, c.resetPin, c.restart]

/-- Takes the members of `gone` out of `c` (R211). -/
def CauseSet.less (c gone : CauseSet) : CauseSet :=
  ⟨c.powerOn && !gone.powerOn, c.resetPin && !gone.resetPin, c.restart && !gone.restart⟩

/-- No cause. -/
def CauseSet.none : CauseSet := ⟨false, false, false⟩

end Sys2Proof.Machine
end

