-- ==== Sys2Proof/Machine/SendQueue.lean ====
section
/-! DEFINITION. The Send Queue: its places, its order and the removal of a notice that is not begun (R129, R130). -/

namespace Sys2Proof.Machine

/-- The notice in a place, if it holds one (R129). -/
def State.noticeAt (s : State) (p : Place) : Option SendEntry :=
  s.line.sendQueue.find? (fun e => e.notice.place == p)

/-- Puts a notice at the back of its kind (R129). -/
def insertSend (e : SendEntry) : List SendEntry → List SendEntry
  | [] => [e]
  | x :: rest => if x.notice.kind ≤ e.notice.kind then x :: insertSend e rest else e :: x :: rest

def State.setSendQueue (s : State) (q : List SendEntry) : State := s.setLine { s.line with sendQueue := q }

/-- Queues a notice in its place; a place that holds one takes no second (R129). -/
def State.queueNotice (s : State) (n : Notice) : State :=
  if (s.noticeAt n.place).isSome then s else s.setSendQueue (insertSend ⟨n, false⟩ s.line.sendQueue)

/-- The place holds a begun notice (R130). -/
def State.begunAt (s : State) (p : Place) : Bool :=
  match s.noticeAt p with
  | some e => e.begun
  | none => false

/-- Takes whatever the place holds (R135). -/
def State.takeNotice (s : State) (p : Place) : State :=
  s.setSendQueue (s.line.sendQueue.filter (fun e => e.notice.place != p))

/-- The transmitter drives the notice of a place (R131). -/
def State.driving (s : State) (p : Place) : Bool :=
  match s.line.transmitter with
  | some t => t.place == p
  | none => false

/-- The transmitter stops driving (R130, R132). -/
def State.stopDriving (s : State) : State := s.setLine { s.line with transmitter := none }

/-- Removes the notice of a place unless it is begun; a notice caught in its first header is no longer driven (R130). -/
def State.removeNotice (s : State) (p : Place) : State :=
  if s.begunAt p then s
  else
    let s1 := if s.driving p then s.stopDriving else s
    s1.takeNotice p

/-- Marks the notice of a place begun (R130). -/
def State.markBegun (s : State) (p : Place) : State :=
  s.setSendQueue (s.line.sendQueue.map (fun e => if e.notice.place = p then { e with begun := true } else e))

/-- A RELEASE of the lane waits, in its place or owed (R10, R27, R135). -/
def State.releaseWaiting (s : State) (ℓ : LaneId) : Bool :=
  (s.noticeAt (.release ℓ)).isSome || (s.lane ℓ).owedRelease.isSome

/-- Queues a withdrawn RELEASE, or owes it while another RELEASE holds the lane's place (R14, R21, R135). -/
def State.queueWithdrawn (s : State) (ℓ : LaneId) (d : Nat) : State :=
  if (s.noticeAt (.release ℓ)).isSome then s.modLane ℓ (fun l => { l with owedRelease := some d })
  else s.queueNotice (.release ℓ .withdrawn d none)

end Sys2Proof.Machine
end

