-- ==== Sys2Proof/Machine/Pour.lean ====
section
/-! DEFINITION. The pour channels' shared operations (chapter 4): the view count, offer rounds, giving a draw up, the phase
decision, suspension and the end of a pour. -/

namespace Sys2Proof.Machine

/-- The grant flag: set in GRANTED, clear in every other draw state (R88). -/
def Channel.grant (ch : Channel) : Bool := ch.draw == .granted

/-- The headers, in ascending number. -/
def headersAll : List Nat := [0, 1, 2, 3, 4, 5, 6, 7]

/-- Channel `c` is configured on header `h`. -/
def State.onHeader (s : State) (c : ChanId) (h : Nat) : Bool :=
  match s.chanCfg c with
  | some cfg => cfg.header == h
  | none => false

/-- The own channels on a header whose grant flag is set (R145). -/
def State.ownGrants (s : State) (h : Nat) : Nat :=
  ChanId.all.countP (fun c => s.onHeader c h && (s.chan c).grant)

/-- The pairs naming a header in a row's draw set (R145). -/
def PeerRow.drawsOn (r : PeerRow) (h : Nat) : Nat := r.draws.countP (fun p => p.2 == some h)

/-- The pairs naming a header in all valid rows (R145). -/
def PeerView.peerDraws (v : PeerView) (h : Nat) : Nat :=
  (v.rows.map (fun p => if p.2.valid then p.2.drawsOn h else 0)).sum

/-- The view count for a header (R145). -/
def State.viewCount (s : State) (h : Nat) : Nat := s.ownGrants h + s.view.peerDraws h

/-- The own channels on a header that have asked and not yet heard (R89). -/
def State.asking (s : State) (h : Nat) : Nat :=
  ChanId.all.countP (fun c => s.onHeader c h && ((s.chan c).draw == .asked || (s.chan c).draw == .sent))

/-- The channel is in WAIT with no draw notice outstanding (R89). -/
def Channel.wantsDraw (ch : Channel) : Bool := ch.state == .pouring && ch.phase == some .wait && ch.draw == .none

/-- Offers a draw to one channel of a round (R89). -/
def State.offerOne (h : Nat) (s : State) (c : ChanId) : State :=
  if s.onHeader c h && (s.chan c).wantsDraw && s.view.resync.isNone && s.viewCount h + s.asking h < s.headerLimit h then
    (s.queueNotice (.draw true c h)).modChan c (fun ch => { ch with draw := .asked })
  else s

/-- An offer round for a header: its channels in ascending number (R89). -/
def State.offerRound (s : State) (h : Nat) : State := ChanId.all.foldl (State.offerOne h) s

/-- Reports each header whose view count is smaller than it was in `before`; a round is held for it (R145). -/
def State.reportFalls (before s : State) : State :=
  headersAll.foldl (fun t h => if s.viewCount h < before.viewCount h then t.offerRound h else t) s

/-- The header a channel feeds. -/
def State.headerOf (s : State) (c : ChanId) : Nat :=
  match s.chanCfg c with
  | some cfg => cfg.header
  | none => 0

/-- Queues a DRAW-OFF, or owes it while a begun DRAW-ON holds the channel's place; the state is RETURNING (R88, R91). -/
def State.returnDraw (s : State) (c : ChanId) : State :=
  let s1 := s.modChan c (fun ch => { ch with draw := .returning })
  if s.begunAt (.draw c) then s1 else (s1.removeNotice (.draw c)).queueNotice (.draw false c (s.headerOf c))

/-- A channel gives up its draw (R91). -/
def State.giveUpDraw (s : State) (c : ChanId) : State :=
  match (s.chan c).draw with
  | .granted => s.returnDraw c
  | .sent => s.returnDraw c
  | .asked =>
    if s.begunAt (.draw c) then s.modChan c (fun ch => { ch with draw := .returning })
    else (s.removeNotice (.draw c)).modChan c (fun ch => { ch with draw := .none })
  | .none => s
  | .returning => s

/-- The assigned compartment with its paper entry's switch-load mark. -/
def State.assignedComp (s : State) (c : ChanId) : Option (Comp × Bool) :=
  match (s.chan c).assigned with
  | none => none
  | some (ℓ, n) =>
    match (s.lane ℓ).record with
    | none => none
    | some r =>
      match r.comp? n with
      | none => none
      | some comp => some (comp, match r.entry? n with | some e => e.switchLoad | none => false)

/-- The metered litres of the assigned compartment. -/
def State.meteredAt (s : State) (c : ChanId) : Nat :=
  match s.assignedComp c with
  | some (comp, _) => comp.metered
  | none => 0

/-- The assigned compartment's entry carries the switch-load mark (R47). -/
def State.switchLoaded (s : State) (c : ChanId) : Bool :=
  match s.assignedComp c with
  | some (_, mark) => mark
  | none => false

/-- The pour litres: whole litres of the pulse count (R82). -/
def State.pourLitres (s : State) (c : ChanId) : Nat :=
  match s.chanCfg c with
  | some cfg => (s.chan c).pulses / cfg.k
  | none => 0

/-- The phase the quantities give (R84). -/
def State.phaseOf (s : State) (c : ChanId) : Phase :=
  match s.chanCfg c with
  | none => .slow
  | some cfg =>
    if s.meteredAt c < cfg.startVol then .start
    else if (s.chan c).slow.getD 0 ≤ (s.pourLitres c : Int) || s.switchLoaded c || s.headerLimit cfg.header == 0 then .slow
    else if (s.chan c).grant then .full
    else .wait

/-- The permit level of a phase (R86). -/
def Phase.level : Phase → PermitLevel
  | .full => .high
  | _ => .low

/-- Decides the phase of a POURING channel; the permit follows, entering WAIT holds a round, and leaving WAIT or FULL for
another phase than FULL gives the draw up (R84, R86, R89, R91). -/
def State.decidePhase (s : State) (c : ChanId) : State :=
  let old := (s.chan c).phase
  let new := s.phaseOf c
  let s1 := s.modChan c (fun ch => { ch with phase := some new, permit := new.level })
  if old = some new then s1
  else if new = .wait then s1.offerRound (s.headerOf c)
  else if new ≠ .full ∧ (old = some .wait ∨ old = some .full) then State.reportFalls s (s1.giveUpDraw c)
  else s1

/-- The suspension causes standing against a channel (R93). -/
structure Causes where
  stop : Bool
  ground : Bool
  hold : Bool
  deriving DecidableEq, Repr

/-- ORDER or WATCH stands on a lane: the cause HOLD (R16, R93). -/
def HoldSet.suspends (h : HoldSet) : Bool := h.order || h.watch

/-- The cause STOP stands (R93). -/
def State.stopStands (s : State) : Bool := !s.lists.stops.isEmpty || (s.joined && s.pins.stopChain)

/-- The causes as the state gives them (R93). -/
def State.causes (s : State) (c : ChanId) : Causes where
  stop := s.stopStands
  ground := match (s.chan c).assigned with
    | some (ℓ, _) => s.ground ℓ == .lost
    | none => false
  hold := match (s.chan c).assigned with
    | some (ℓ, _) => (s.lane ℓ).holds.suspends
    | none => false

/-- Some cause stands. -/
def Causes.any (x : Causes) : Bool := x.stop || x.ground || x.hold

/-- Suspends a POURING channel (R94). -/
def State.suspend (s : State) (c : ChanId) : State :=
  let s1 := s.modChan c (fun ch => { ch with state := .suspended, phase := none, permit := .off })
  let s2 := s1.giveUpDraw c
  (s2.modChan c (fun ch => { ch with noFlow := none })).attend (.suspended c)

/-- Suspends the channel if it is POURING and a cause stands (R94). -/
def State.suspendIfStanding (s : State) (c : ChanId) : State :=
  if (s.chan c).state = .pouring ∧ (s.causes c).any then s.suspend c else s

/-- Each change of a cause reaches every channel it concerns: those POURING against which one now stands are suspended, and
the falls of the view count are reported (R93, R94, R145). -/
def State.applyCauses (s : State) : State := State.reportFalls s (ChanId.all.foldl State.suspendIfStanding s)

/-- The steps by which the pour of a POURING or SUSPENDED channel ends (R97, R98). -/
def State.settlePour (e : EndStatus) (s : State) (c : ChanId) : State :=
  if (s.chan c).state = .pouring ∨ (s.chan c).state = .suspended then
    let s1 := s.modChan c (fun ch => { ch with state := .settling, phase := none, permit := .off })
    let s2 := s1.giveUpDraw c
    s2.modChan c (fun ch =>
      { ch with noFlow := none, pourEnd := some e, pourFinish := some s.minute, settle := some s.settleMs })
  else s

/-- Ends the pour of one channel; a fall of the view count is reported (R98, R145). -/
def State.endPour (s : State) (c : ChanId) (e : EndStatus) : State := State.reportFalls s (State.settlePour e s c)

/-- The channel returns to IDLE, its assignment released and its quantities absent (R79, R100). -/
def State.idleChannel (s : State) (c : ChanId) : State :=
  s.modChan c (fun ch => { ch with state := .idle, assigned := none, preset := none, slow := none, close := none })

/-- The compartment takes a rise in pour litres (R82). -/
def State.addMetered (s : State) (c : ChanId) (rise : Nat) : State :=
  match (s.chan c).assigned with
  | none => s
  | some (ℓ, n) => s.modRecord ℓ (fun r => r.modComp n (fun comp => { comp with metered := comp.metered + rise }))

/-- Counts a pulse toward the pour and moves the compartment's metered litres with it (R81, R82). -/
def State.countPulse (s : State) (c : ChanId) : State :=
  let s1 := s.modChan c (fun ch => { ch with pulses := min (ch.pulses + 1) Config.pulseMax })
  s1.addMetered c (s1.pourLitres c - s.pourLitres c)

end Sys2Proof.Machine
end

