-- ==== Sys2Proof/Machine/LogOps.lean ====
section
/-! DEFINITION. The Delivery Log's shared operations (chapter 8): the slot table, reservations, the Log Write Queue, the log
memory, the start scan and the reading of a slot. -/

namespace Sys2Proof.Machine

/-! ### The slot table -/

/-- The table entry of a slot; an unlisted slot is FREE (R168). -/
def DeliveryLog.slot (l : DeliveryLog) (p : Nat) : SlotEntry := Assoc.get SlotEntry.free p l.table

/-- Writes a slot's table entry. -/
def DeliveryLog.setSlot (l : DeliveryLog) (p : Nat) (e : SlotEntry) : DeliveryLog :=
  { l with table := Assoc.put SlotEntry.free p e l.table }

/-- The number of FREE slots: every slot is FREE, RESERVED, OPEN or CLOSED (R168). -/
def DeliveryLog.freeSlots (l : DeliveryLog) : Nat := Config.slots - l.table.countP (fun e => e.2.state != .free)

/-- The lowest position from `n` on that is FREE in a rising table. -/
def firstFree (n : Nat) : Assoc SlotEntry → Nat
  | [] => n
  | (k, e) :: rest => if k = n ∧ e.state ≠ .free then firstFree (n + 1) rest else n

/-- The log can offer a FREE slot: one is FREE and the sequence counter is not exhausted (R7, R170). -/
def DeliveryLog.canReserve (l : DeliveryLog) : Bool := 0 < l.freeSlots && l.nextSeq ≤ Config.seqMax

/-- LOG_LOW each time the FREE count falls from 32 to 31 (R187). -/
def State.lowCheck (before s : State) : State :=
  if before.log.freeSlots = Config.lowSlots ∧ s.log.freeSlots + 1 = Config.lowSlots then s.attend .logLow else s

/-- Reserves the lowest FREE slot with the counter's sequence number (R170, R172): the state, the position, the number. -/
def State.reserve (s : State) : State × Nat × Nat :=
  let p := firstFree 0 s.log.table
  let n := s.log.nextSeq
  let s1 := s.setLog { s.log.setSlot p ⟨.reserved, some n, 1⟩ with nextSeq := n + 1 }
  (State.lowCheck s s1, p, n)

/-- Drops a reservation: the slot returns to FREE (R172). -/
def State.dropReservation (s : State) (p : Nat) : State := s.setLog (s.log.setSlot p .free)

/-- The slot becomes OPEN as the header stage is handed over (R173). -/
def State.openSlot (s : State) (p : Nat) : State :=
  s.setLog (s.log.setSlot p { s.log.slot p with state := .opened })

/-- A load that ends under LOG_FAULT takes its slot out of OPEN: CLOSED if a stage had been written, else FREE (R173). The
slot is the load's while it bears the record's sequence number (R168): one trimmed and taken again is another load's. -/
def State.leaveSlot (s : State) (p seq : Nat) : State :=
  if s.log.state = .logFault ∧ (s.log.slot p).seq = some seq ∧ (s.log.slot p).state = .opened then
    if 1 < (s.log.slot p).next then s.setLog (s.log.setSlot p { s.log.slot p with state := .closed })
    else s.setLog (s.log.setSlot p .free)
  else s

/-- Puts an element at its place in a list rising by `key`. -/
def insertBy {α : Type} (key : α → Nat) (x : α) : List α → List α
  | [] => [x]
  | y :: rest => if key x < key y then x :: y :: rest else y :: insertBy key x rest

/-- A list in rising order of `key`. -/
def sortBy {α : Type} (key : α → Nat) (xs : List α) : List α := xs.foldr (insertBy key) []

/-- The slots that are not FREE, in rising order of sequence number (R183, R185). -/
def DeliveryLog.bySequence (l : DeliveryLog) : List (Nat × SlotEntry) := sortBy (fun p => p.2.seq.getD 0) l.table

/-- The slots in use: the OPEN and CLOSED ones, oldest first (R183). -/
def DeliveryLog.inUse (l : DeliveryLog) : List (Nat × SlotEntry) :=
  l.bySequence.filter (fun p => p.2.state == .opened || p.2.state == .closed)

/-! ### The Log Write Queue -/

/-- The lane's stages pending in the queue (R19). -/
def State.pendingStages (s : State) (ℓ : LaneId) : Nat := s.log.queue.countP (fun w => w.owner == .lane ℓ)

/-- A stage cannot be produced by a request now: LOG_BUSY (R19). -/
def State.stagesFull (s : State) (ℓ : LaneId) : Bool := !(s.lane ℓ).backlog.isEmpty || 2 ≤ s.pendingStages ℓ

/-- A stage joins the back of the queue (R177). -/
def State.enqueueStage (s : State) (w : StageWrite) : State := s.setLog { s.log with queue := s.log.queue ++ [w] }

/-- The slot and sequence number of a lane's record. -/
def Lane.slotOf (l : Lane) : Nat × Nat :=
  match l.record with
  | some r => (r.slot, r.seq)
  | none => (0, 0)

/-- A lane hands over a stage: discarded under LOG_FAULT, queued while fewer than two are pending, else it waits in the
backlog (R19). -/
def State.handStage (s : State) (ℓ : LaneId) (st : Stage) : State :=
  if s.log.state = .logFault then s
  else if s.stagesFull ℓ then s.modLane ℓ (fun l => { l with backlog := l.backlog ++ [st] })
  else s.enqueueStage ⟨(s.lane ℓ).slotOf.1, (s.lane ℓ).slotOf.2, st, .lane ℓ⟩

/-- When a pending write completes, the oldest stage of the backlog is passed to the queue (R19). -/
def State.passBacklog (s : State) (ℓ : LaneId) : State :=
  match (s.lane ℓ).backlog with
  | [] => s
  | st :: rest =>
    (s.modLane ℓ (fun l => { l with backlog := rest })).enqueueStage
      ⟨(s.lane ℓ).slotOf.1, (s.lane ℓ).slotOf.2, st, .lane ℓ⟩

/-- The write of the front entry has begun (R178, R181). -/
def DeliveryLog.writingStage (l : DeliveryLog) : Bool :=
  match l.writing with
  | some (.stage ..) => true
  | _ => false

/-- The entry is an outcome stage of the lane. -/
def StageWrite.isOutcomeOf (w : StageWrite) (ℓ : LaneId) : Bool := w.owner == .lane ℓ && w.stage.kind == .outcome

/-- The entries of the queue whose write has not begun (R181). -/
def DeliveryLog.unbegun (l : DeliveryLog) : List StageWrite := if l.writingStage then l.queue.drop 1 else l.queue

/-- The lane's outcome stage is still waiting and its write has not begun (R29, R181). -/
def DeliveryLog.canWithdraw (l : DeliveryLog) (ℓ : LaneId) : Bool := l.unbegun.any (fun w => w.isOutcomeOf ℓ)

/-- The lane's outcome stage leaves the queue (R181). -/
def State.withdrawOutcome (s : State) (ℓ : LaneId) : State :=
  s.setLog { s.log with
    queue := (if s.log.writingStage then s.log.queue.take 1 else []) ++
      s.log.unbegun.filter (fun w => !w.isOutcomeOf ℓ) }

/-! ### The memory -/

/-- The number of an area in the memory (R169). -/
def areaKey (slot area : Nat) : Nat := slot * areasPerSlot + area

/-- The image an area holds; an unlisted area is blank (R169, R213). -/
def readArea (m : Assoc (List Byte)) (key : Nat) : List Byte := Assoc.get [] key m

/-- Writes an area's image. -/
def writeArea (m : Assoc (List Byte)) (key : Nat) (image : List Byte) : Assoc (List Byte) :=
  Assoc.put [] key (normImage image) m

/-- The images of a slot, with their areas. -/
def slotImages (m : Assoc (List Byte)) (p : Nat) : List (Nat × List Byte) :=
  (m.filter (fun e => e.1 / areasPerSlot == p)).map (fun e => (e.1 % areasPerSlot, e.2))

/-- Blanks every area of a slot. -/
def clearSlot (m : Assoc (List Byte)) (p : Nat) : Assoc (List Byte) := m.filter (fun e => e.1 / areasPerSlot != p)

/-- What an area holds after a write to it that was abandoned: blank, its former content, or an image that fails (R182).
The free value chooses. -/
def cutImage (n key : Nat) (former : List Byte) : List Byte :=
  match Config.cutShort n key with
  | .blank => []
  | .former => former
  | .torn image =>
    let x := fitImage (key % areasPerSlot) image
    if verifies x then former else x

/-- What an area holds after a write whose verify failed: anything but what was written (R178, R179). -/
def failedImage (n key : Nat) (former written : List Byte) : List Byte :=
  let x := match Config.cutShort n key with
    | .blank => []
    | .former => former
    | .torn image => fitImage (key % areasPerSlot) image
  if x = written then [] else x

/-- Every area of the slots' listed keys, cut short. -/
def cutAreas (n : Nat) (keys : List Nat) (m : Assoc (List Byte)) : Assoc (List Byte) :=
  keys.foldl (fun acc k => writeArea acc k (cutImage n k (readArea m k))) m

/-- The areas of a slot. -/
def slotKeys (p : Nat) : List Nat := (List.range areasPerSlot).map (areaKey p)

/-- The area the newest verifying papers image of a slot does not hold: X for the first image (R175). -/
def papersArea (m : Assoc (List Byte)) (p seq : Nat) : Nat :=
  let x := readArea m (areaKey p areaPapersX)
  let y := readArea m (areaKey p areaPapersY)
  let xOk := verifies x && imageSeq x == seq
  let yOk := verifies y && imageSeq y == seq
  if xOk && (!yOk || imageStage y < imageStage x) then areaPapersY else areaPapersX

/-- The area a stage is written into (R169, R175). -/
def stageArea (m : Assoc (List Byte)) (w : StageWrite) : Nat :=
  match w.stage.kind with
  | .header => areaHeader
  | .papers => papersArea m w.slot w.seq
  | .amend => papersArea m w.slot w.seq
  | .driver => areaDriver
  | .pour c p => areaPour c p
  | .outcome => areaOutcome

/-- The image of a stage under a stage number (R169). -/
def StageWrite.image (w : StageWrite) (number : Nat) : List Byte :=
  normImage (frameStage w.stage.kind.code w.seq number w.stage.content)

/-- The memory with a stage written: a HEADER stage blanks the slot's other areas in the same write (R169). -/
def storeStage (m : Assoc (List Byte)) (w : StageWrite) (area : Nat) (image : List Byte) : Assoc (List Byte) :=
  writeArea (if w.stage.kind = .header then clearSlot m w.slot else m) (areaKey w.slot area) image

/-! ### The start scan (R188 to R190) -/

/-- What the scan has built so far; `fault` once a write of the scan has failed twice. -/
structure ScanState where
  table : Assoc SlotEntry
  memory : Assoc (List Byte)
  fault : Bool
  deriving DecidableEq, Repr

/-- The largest of some numbers, 0 for none. -/
def maxOf (xs : List Nat) : Nat := xs.foldl max 0

/-- The INTERRUPTED outcome content (R176, R189). -/
def interruptedContent : List Byte := outcomeContent 3 none none [] none

/-- Reads and places one slot, completing it where it is OPEN (R188, R189). DESIGN CHOICE (log entry 30): the highest stage
number of a slot is taken over its verifying areas. -/
def scanSlot (mark n : Nat) (faultAt : Option Nat) (acc : ScanState) (p : Nat) : ScanState :=
  let imgs := slotImages acc.memory p
  let good := imgs.filter (fun e => verifies e.2)
  let seq := maxOf (good.map (fun e => imageSeq e.2))
  let own := good.filter (fun e => imageSeq e.2 == seq)
  let top := maxOf (own.map (fun e => imageStage e.2))
  let torn := (imgs.filter (fun e => !verifies e.2 && top < imageStage e.2)).map (fun e => areaKey p e.1)
  if imgs.isEmpty then acc
  else if good.isEmpty then
    if acc.fault then acc
    else if faultAt = some p then
      { acc with fault := true, memory := cutAreas n (imgs.map (fun e => areaKey p e.1)) acc.memory }
    else { acc with memory := clearSlot acc.memory p }
  else if seq ≤ mark then acc
  else if own.any (fun e => e.1 == areaOutcome && imageStage e.2 == top) then
    { acc with table := Assoc.put .free p ⟨.closed, some seq, top + 1⟩ acc.table }
  else if acc.fault then { acc with table := Assoc.put .free p ⟨.closed, some seq, top + 1⟩ acc.table }
  else if faultAt = some p then
    { table := Assoc.put .free p ⟨.closed, some seq, top + 1⟩ acc.table
      memory := cutAreas n (torn ++ [areaKey p areaOutcome]) acc.memory
      fault := true }
  else
    { table := Assoc.put .free p ⟨.closed, some seq, top + 2⟩ acc.table
      memory := writeArea (torn.foldl (fun m k => writeArea m k []) acc.memory) (areaKey p areaOutcome)
        (frameStage StageKind.outcome.code seq (top + 1) interruptedContent)
      fault := false }

/-- The slot positions the memory lists anything for, in rising order. -/
def usedPositions (m : Assoc (List Byte)) : List Nat := (m.map (fun e => e.1 / areasPerSlot)).dedup

/-- The whole scan: every slot read and placed. -/
def scanAll (mark n : Nat) (faultAt : Option Nat) (memory : Assoc (List Byte)) : ScanState :=
  (usedPositions memory).foldl (scanSlot mark n faultAt) ⟨[], memory, false⟩

/-- The memory a scan leaves when a reset abandons it after `k` of the used positions: the slots before are completed, the
write or the erase in progress at that slot is cut short, and nothing after it is touched (R182, R189). -/
def scanCut (mark n k : Nat) (memory : Assoc (List Byte)) : Assoc (List Byte) :=
  let used := usedPositions memory
  ((used.take (k + 1)).foldl (scanSlot mark n used[k]?) ⟨[], memory, false⟩).memory

/-- A reset abandons the write in progress, or the start scan with the erase or the write it was making; a trim mark's place
keeps the previous mark (R182, R186, R189). Nothing is in progress while the reset pin is held (R209). -/
def State.abandonWrite (s : State) : State :=
  match s.log.writing with
  | none =>
    if s.log.state = .scanning ∧ s.inReset = false then
      (s.setLog { s.log with
        memory := scanCut (readMark s.log.markImage) s.freeCount (Config.scanReached s.freeCount) s.log.memory }).nextFree
    else s
  | some (.mark _ _) => s.setLog { s.log with writing := none }
  | some (.stage area _ _) =>
    match s.log.queue with
    | [] => s.setLog { s.log with writing := none }
    | w :: _ =>
      let keys := if area = areaHeader then slotKeys w.slot else [areaKey w.slot area]
      (s.setLog { s.log with writing := none, memory := cutAreas s.freeCount keys s.log.memory }).nextFree

/-- The log at the end of its start scan (R170, R190). -/
def DeliveryLog.scanned (l : DeliveryLog) (n : Nat) (faultAt : Option Nat) : DeliveryLog :=
  let mark := readMark l.markImage
  let r := scanAll mark n faultAt l.memory
  let highest := maxOf (r.table.map (fun e => e.2.seq.getD 0))
  { l with
    state := if r.fault then .logFault else .ready
    table := r.table
    memory := r.memory
    trimMark := mark
    nextSeq := max highest mark + 1 }

/-! ### Reading a slot (R183, R184) -/

/-- The areas READ-LOG shows: of the two papers areas the standing image, with the one behind it where the standing image
fails; in rising stage number. DESIGN CHOICE (log entry 33): a failing papers area under the lower number stays hidden while
the newer verifies. DESIGN CHOICE (log entry 34): what a write that failed twice left in an area is shown DAMAGED. -/
def shownAreas (l : DeliveryLog) (p : Nat) : List (Nat × List Byte) :=
  if (l.slot p).next ≤ 1 then []
  else
    let imgs := slotImages l.memory p
    let x := readArea l.memory (areaKey p areaPapersX)
    let y := readArea l.memory (areaKey p areaPapersY)
    let newer := if imageStage x < imageStage y then areaPapersY else areaPapersX
    let older := if newer = areaPapersY then areaPapersX else areaPapersY
    let hide := !x.isEmpty && !y.isEmpty && verifies (readArea l.memory (areaKey p newer))
    sortBy (fun e => imageStage e.2) (imgs.filter (fun e => !(hide && e.1 == older)))

/-- One shown area: kind, stage number, DAMAGED flag, length, content. -/
def shownBytes (image : List Byte) : List Byte :=
  if verifies image then
    be 1 (imageKind image) ++ be 4 (imageStage image) ++ flag false ++ be 2 (imageContent image).length ++
      imageContent image
  else be 1 (imageKind image) ++ be 4 (imageStage image) ++ flag true ++ be 2 0

/-- The READ-LOG body for a slot in use (11.4). -/
def readLogBody (l : DeliveryLog) (p : Nat) : List Byte :=
  let e := l.slot p
  let areas := shownAreas l p
  be 1 l.state.code ++ be 2 l.freeSlots ++ be 2 l.inUse.length ++ be 4 l.trimMark ++ be 2 p ++
    be 1 (if e.state = .closed then 3 else 2) ++ be 4 (e.seq.getD 0) ++ be 1 areas.length ++
    areas.flatMap (fun a => shownBytes a.2)

end Sys2Proof.Machine
end

