-- ==== Sys2Proof/Machine/LaneOps.lean ====
section
/-! DEFINITION. The lanes' shared operations (chapters 1, 3, 5, 7, 8): hold members, the duty timer, contests, claims and
their endings, the way out of CLOSING, LOG_FAULT, and the matching of holds and of the watch. -/

namespace Sys2Proof.Machine

/-! ### Hold members -/

/-- The lane states that admit a member (R15). -/
def LaneState.admitsMember : LaneState → HoldMember → Bool
  | .claiming, .order => true
  | .claiming, .watch => true
  | .opened, .order => true
  | .opened, .watch => true
  | .opened, .duplicate => true
  | .loading, _ => true
  | _, _ => false

def HoldSet.has (h : HoldSet) : HoldMember → Bool
  | .order => h.order | .watch => h.watch | .duty => h.duty | .duplicate => h.duplicate

def HoldSet.put (h : HoldSet) (m : HoldMember) (v : Bool) : HoldSet :=
  match m with
  | .order => { h with order := v }
  | .watch => { h with watch := v }
  | .duty => { h with duty := v }
  | .duplicate => { h with duplicate := v }

/-- Sets a member where the lane admits it and does not hold it yet: its finding joins the record, HOLD_SET is added, and
the causes it stands for reach the channels (R15, R16, R93). -/
def State.setHold (s : State) (ℓ : LaneId) (m : HoldMember) (f : Finding) : State :=
  if (s.lane ℓ).state.admitsMember m ∧ ¬ (s.lane ℓ).holds.has m then
    let s1 := ((s.modLane ℓ (fun l => { l with holds := l.holds.put m true })).joinFindings ℓ [f]).attend (.holdSet ℓ)
    if m = .order ∨ m = .watch then s1.applyCauses else s1
  else s

/-- Takes a member out (R15). -/
def State.clearHold (s : State) (ℓ : LaneId) (m : HoldMember) : State :=
  s.modLane ℓ (fun l => { l with holds := l.holds.put m false })

/-- The finding of ORDER and WATCH (R15). -/
def holdFinding : Finding := findingAt .hold []

/-- The finding of DUPLICATE (R15). -/
def duplicateFinding : Finding := findingAt .duplicate []

/-- DUTY_SHORT naming a figure (R15, R38). -/
def dutyFinding (f : DutyFigure) : Finding := ⟨.dutyShort, [], some f⟩

/-! ### The duty timer -/

/-- WARN, and STALE, as configured (R56). -/
def State.warn (s : State) : Nat :=
  match s.unit.config with
  | some cfg => cfg.limits.warn
  | none => 0

/-- Whether the clock has reached L − WARN (R69). -/
def State.dutyNearAt (s : State) (latest : Nat) : Bool := latest ≤ s.minute + s.warn

/-- Arms the duty timer from a duty result and tests the clock once (R68). -/
def State.armTimer (s : State) (ℓ : LaneId) (r : DutyResult) : State :=
  let near := s.dutyNearAt r.latest
  let s1 := s.modLane ℓ (fun l => { l with dutyTimer := some ⟨r.latest, r.setBy, near⟩ })
  let s2 := if near then s1.attend (.dutyNear ℓ) else s1
  if r.latest < s.minute then
    (s2.setHold ℓ .duty (dutyFinding r.setBy)).modLane ℓ (fun l => { l with dutyTimer := none })
  else s2

/-- Stops the duty timer (R71). -/
def State.stopTimer (s : State) (ℓ : LaneId) : State := s.modLane ℓ (fun l => { l with dutyTimer := none })

/-- The onward figures of the lane's current driver at this minute (R72, R73). -/
def State.onward (s : State) (ℓ : LaneId) (plan : Plan) : Option FigureSet :=
  match s.unit.config, (s.lane ℓ).record with
  | some cfg, some r => onwardFigures cfg.limits r.current.figures plan s.minute
  | _, _ => none

/-! ### Contests (R155) -/

/-- The driver a CONTEST in the lane's place names. -/
def State.contestDriver (s : State) (ℓ : LaneId) : Option Nat :=
  match s.noticeAt (.contest ℓ) with
  | some ⟨.contest _ d _, _⟩ => some d
  | _ => none

/-- The holding form for a driver the lane holds (R155). -/
def Lane.holdingForm (l : Lane) (d : Nat) : HoldingForm :=
  if l.state = .claiming then .claimWindow
  else if l.driver? = some d then .settled
  else .reclaimWindow

/-- Queues a CONTEST for a driver, its holding form fixed now (R155). -/
def State.placeContest (s : State) (ℓ : LaneId) (d : Nat) : State :=
  s.queueNotice (.contest ℓ d ((s.lane ℓ).holdingForm d))

/-- Queues a CONTEST for a driver, or owes it while the place holds one for another (R155). DESIGN CHOICE (log entry 29): a
lane that comes to owe for a second driver owes for the later one alone. -/
def State.queueContest (s : State) (ℓ : LaneId) (d : Nat) : State :=
  match s.contestDriver ℓ with
  | none => s.placeContest ℓ d
  | some d' => if d' = d then s else s.modLane ℓ (fun l => { l with owedContest := some d })

/-- Queues the owed CONTEST into a free place if the lane still holds its driver, else drops it (R155). -/
def State.queueOwedContest (s : State) (ℓ : LaneId) : State :=
  match (s.lane ℓ).owedContest with
  | none => s
  | some d =>
    if (s.noticeAt (.contest ℓ)).isSome then s
    else
      let s1 := s.modLane ℓ (fun l => { l with owedContest := none })
      if (s.lane ℓ).holdsDriver d then s1.placeContest ℓ d else s1

/-- The lane has stopped holding a driver: a CONTEST for him that is not begun leaves the place, an owed one is dropped, and
a place freed so takes another owed one (R155; log entry 13). -/
def State.dropContest (s : State) (ℓ : LaneId) (d : Nat) : State :=
  if (s.lane ℓ).holdsDriver d then s
  else
    let s1 := if s.contestDriver ℓ = some d then s.removeNotice (.contest ℓ) else s
    let s2 := s1.modLane ℓ (fun l =>
      { l with owedContest := if l.owedContest = some d then none else l.owedContest })
    s2.queueOwedContest ℓ

/-! ### Claims (R10 to R14, R21) -/

/-- The progress of the lane's claim or reclaim. -/
def Lane.progress? (l : Lane) : Option Claim :=
  match l.claim with
  | some c => some c
  | none => l.reclaim.map Reclaim.claim

/-- Changes the progress of the lane's claim or reclaim. -/
def Lane.modProgress (l : Lane) (f : Claim → Claim) : Lane :=
  match l.claim with
  | some c => { l with claim := some (f c) }
  | none => { l with reclaim := l.reclaim.map (fun r => { r with claim := f r.claim }) }

/-- The vehicle of the lane's record. -/
def Lane.vehicle (l : Lane) : Nat :=
  match l.record with
  | some r => r.vehicle
  | none => 0

/-- A WAITING claim or reclaim places its CLAIM once no resync, no RELEASE of the lane and no begun CLAIM holds it back
(R10, R21, R130). -/
def State.testClaim (s : State) (ℓ : LaneId) : State :=
  match (s.lane ℓ).progress? with
  | none => s
  | some c =>
    if c.step = .waiting ∧ s.view.resync = none ∧ ¬ s.releaseWaiting ℓ ∧ ¬ s.begunAt (.claim ℓ) then
      (s.queueNotice (.claim ℓ (s.lane ℓ).claim.isNone c.driver (s.lane ℓ).vehicle)).modLane ℓ
        (fun l => l.modProgress (fun c => { c with step := .queued }))
    else s

/-- The CLAIM of an ended claim or reclaim leaves the queue; one that is begun stays, and the lane remembers it for R135. A
begun CLAIM found while the progress is WAITING belongs to an earlier claim. -/
def State.removeClaim (s : State) (ℓ : LaneId) (c : Claim) (pure : Bool) : State :=
  if s.begunAt (.claim ℓ) then
    if c.step = .waiting then s else s.modLane ℓ (fun l => { l with lostClaim := some ⟨c.driver, pure⟩ })
  else s.removeNotice (.claim ℓ)

/-- A withdrawn claim returns the lane to VACANT (R14). -/
def State.withdrawClaim (s : State) (ℓ : LaneId) (o : ResultOutcome) : State :=
  match (s.lane ℓ).claim with
  | none => s
  | some c =>
    let slot := (s.lane ℓ).slotOf.1
    let s1 := s.removeClaim ℓ c false
    let s2 := if c.announced then s1.queueWithdrawn ℓ c.driver else s1
    let s3 := s2.dropReservation slot
    let s4 := s3.modLane ℓ (fun l =>
      { l with record := none, claim := none, holds := .empty, state := .vacant })
    (s4.setResult ℓ .claim o).dropContest ℓ c.driver

/-- The steps of a reclaim's failure, without its result (R21). -/
def State.endReclaim (s : State) (ℓ : LaneId) : State :=
  match (s.lane ℓ).reclaim with
  | none => s
  | some r =>
    let pure := (s.lane ℓ).driver? == some r.claim.driver
    let s1 := s.removeClaim ℓ r.claim pure
    let s2 := if !pure && r.claim.announced then s1.queueWithdrawn ℓ r.claim.driver else s1
    let s3 := s2.modLane ℓ (fun l => { l with reclaim := none })
    s3.dropContest ℓ r.claim.driver

/-- A reclaim fails (R21). -/
def State.failReclaim (s : State) (ℓ : LaneId) : State := (s.endReclaim ℓ).setResult ℓ .reclaim .driverElsewhere

/-! ### The way out of CLOSING (R26 to R30) -/

/-- The OUTCOME stage of a lane's load (R176). -/
def outcomeStage (r : LoadRecord) (c : Closing) : Stage :=
  ⟨.outcome, outcomeContent (match c.outcome with | .released => 1 | .voided => 2) (some c.minute) r.duty r.findings
    c.figures⟩

/-- A voided lane hands its outcome over once no channel is assigned to it; none is produced under LOG_FAULT (R26). -/
def State.handVoided (s : State) (ℓ : LaneId) : State :=
  match (s.lane ℓ).closing, (s.lane ℓ).record with
  | some c, some r =>
    if c.outcome = .voided ∧ c.handed = false ∧ ¬ s.laneBusy ℓ ∧ s.log.state ≠ .logFault then
      (s.modLane ℓ (fun l => { l with closing := some { c with handed := true } })).handStage ℓ (outcomeStage r c)
    else s
  | _, _ => s

/-- The outcome of a CLOSING lane is on record, or waived for a void under LOG_FAULT (R27). -/
def State.outcomeDone (s : State) (c : Closing) : Bool :=
  c.written || (c.outcome == .voided && s.log.state == .logFault)

/-- The steps by which a lane leaves CLOSING (R27, R28). -/
def State.leaveClosing (s : State) (ℓ : LaneId) (c : Closing) (r : LoadRecord) : State :=
  let s1 := if c.outcome = .released then
      s.modLane ℓ (fun l => { l with dispatch := true, pulse := some Config.pulseMs })
    else s
  let s2 := s1.queueNotice (.release ℓ .endOfLoad r.current.driver c.figures)
  let s3 := s2.leaveSlot r.slot r.seq
  let s4 := s3.modLane ℓ (fun l =>
    { l with
      record := none
      holds := .empty
      state := .vacant
      closing := none
      reclaim := none
      dutyTimer := none
      backlog := [] })
  let s5 := s4.setResult ℓ .close (match c.outcome with | .released => .released | .voided => .voided)
  s5.dropContest ℓ r.current.driver

/-- Tests whether a CLOSING lane may hand over its outcome or leave (R26, R27). -/
def State.testClosing (s : State) (ℓ : LaneId) : State :=
  let s1 := s.handVoided ℓ
  match (s1.lane ℓ).closing, (s1.lane ℓ).record with
  | some c, some r =>
    if ¬ s1.laneBusy ℓ ∧ s1.outcomeDone c ∧ ¬ s1.releaseWaiting ℓ then s1.leaveClosing ℓ c r else s1
  | _, _ => s1

/-- The lane returns from CLOSING to LOADING, its kept figures discarded and its timer re-armed (R29, R30). -/
def State.returnToLoading (s : State) (ℓ : LaneId) : State :=
  let s1 := s.modLane ℓ (fun l => { l with state := .loading, closing := none })
  match (s1.lane ℓ).record with
  | some r =>
    match r.duty with
    | some d => s1.armTimer ℓ d
    | none => s1
  | none => s1

/-- A channel whose pour stage is written or discarded returns to IDLE and its lane is told (R100). -/
def State.finishChannel (s : State) (c : ChanId) : State :=
  match (s.chan c).assigned with
  | some (ℓ, _) => (s.idleChannel c).testClosing ℓ
  | none => s.idleChannel c

/-- A channel in ENDED returns to IDLE. -/
def State.finishIfEnded (s : State) (c : ChanId) : State :=
  if (s.chan c).state = .ended then s.finishChannel c else s

/-- A lane learns of LOG_FAULT: its backlog is emptied, and a release not yet written is taken back (R19, R30, R180). -/
def State.laneLogFault (s : State) (ℓ : LaneId) : State :=
  let s1 := s.modLane ℓ (fun l => { l with backlog := [] })
  match (s1.lane ℓ).closing with
  | some c =>
    if c.outcome = .released ∧ c.written = false then (s1.returnToLoading ℓ).setResult ℓ .close .logFault else s1
  | none => s1

/-- The log enters LOG_FAULT (R180). -/
def State.enterLogFault (s : State) : State :=
  let s1 := s.setLog { s.log with state := .logFault, queue := [], writing := none, pendingMark := none }
  let s2 := (s1.laneLogFault .a).laneLogFault .b
  let s3 := ChanId.all.foldl State.finishIfEnded s2
  ((s3.testClosing .a).testClosing .b).attend .logFault

/-! ### Matching holds and the watch (R29, R120, R122, R123) -/

/-- A Hold List entry matches the lane's current driver or vehicle (R120). -/
def HoldEntry.matchesRecord (e : HoldEntry) (r : LoadRecord) : Bool :=
  match e.kind with
  | .driver => e.key == r.current.driver
  | .vehicle => e.key == r.vehicle

/-- An ORDER reaches a lane that is CLOSING for a release: taken back while its outcome can be withdrawn (R29). -/
def State.orderReachesClosing (s : State) (ℓ : LaneId) : State :=
  if s.log.canWithdraw ℓ then
    (((s.withdrawOutcome ℓ).returnToLoading ℓ).setHold ℓ .order holdFinding).setResult ℓ .close .held
  else s

/-- Re-matches a lane against the Hold List (R120). -/
def State.matchLane (s : State) (ℓ : LaneId) : State :=
  match (s.lane ℓ).record with
  | none => s
  | some r =>
    let hit := s.lists.holds.any (fun e => e.matchesRecord r)
    match (s.lane ℓ).state with
    | .vacant => s
    | .closing =>
      match (s.lane ℓ).closing with
      | some c => if hit ∧ c.outcome = .released then s.orderReachesClosing ℓ else s
      | none => s
    | _ => if hit then s.setHold ℓ .order holdFinding else s.clearHold ℓ .order

/-- A change of the Hold List re-matches every lane (R120). -/
def State.matchLanes (s : State) : State := (s.matchLane .a).matchLane .b

/-- The watch names the driver, or the vehicle where the event names one (R122). -/
def Watch.hits (w : Watch) (driver : Nat) (vehicle : Option Nat) : Bool :=
  match w.kind with
  | .driver => w.key == driver
  | .vehicle => vehicle == some w.key

/-- Matches the watch on an event: the latch, the count, WATCH (R122). -/
def State.matchWatch (s : State) (driver : Nat) (vehicle : Option Nat) (l : Latch) : State :=
  match s.lists.watch with
  | none => s
  | some w =>
    if w.hits driver vehicle then
      (s.setLists { s.lists with latch := some l, matchCount := min (s.lists.matchCount + 1) 255 }).attend .watch
    else s

/-- Matches the watch on an own accept: in STOP mode WATCH is set on the lane too (R122, R123). -/
def State.matchOwn (s : State) (ℓ : LaneId) (driver vehicle : Nat) (e : WatchEvent) : State :=
  let s1 := s.matchWatch driver (some vehicle) ⟨s.unit.address, ℓ, e, s.minute⟩
  match s.lists.watch with
  | none => s1
  | some w => if w.hits driver (some vehicle) ∧ w.stopMode then s1.setHold ℓ .watch holdFinding else s1

end Sys2Proof.Machine
end

