-- ==== Sys2Proof/Machine/Operands.lean ====
section
/-! DEFINITION. The operands of the requests (11.3, 11.4): the fields read from the operand bytes, and their ranges (R213).
A field outside its range reads as `none` and its owner refuses at the check its rule gives. -/

namespace Sys2Proof.Machine

/-- A field's value when it lies in a range. -/
def inRange (lo hi n : Nat) : Bool := lo ≤ n && n ≤ hi

/-- The lane a byte names, when the lane exists (R1, R213). -/
def State.laneOperand (s : State) (ops : List Byte) (off : Nat) : Option LaneId :=
  match LaneId.ofCode? (field ops off 1) with
  | some ℓ => if s.laneExists ℓ then some ℓ else none
  | none => none

/-- The channel a byte names, with its entry, when the channel is present (R75). -/
def State.chanOperand (s : State) (ops : List Byte) (off : Nat) : Option (ChanId × ChannelCfg) :=
  match ChanId.ofIndex? (field ops off 1) with
  | some c =>
    match s.chanCfg c with
    | some cfg => some (c, cfg)
    | none => none
  | none => none

/-- Carried figures are each within range; a stamp has 32 bits, so every stamp is (R55). -/
def FigureSet.inRange (f : FigureSet) : Bool :=
  f.drive ≤ 1440 && f.duty ≤ 1440 && f.cont ≤ 1440 && f.week ≤ 10080 && f.span ≤ 1440

/-- A trip plan field: `none` out of range, `some none` absent (R3, R39, R213). -/
def planField (ops : List Byte) (off : Nat) : Option (Option Plan) :=
  match field ops off 1 with
  | 0 => some none
  | 1 =>
    let p := field ops (off + 1) 2
    let q := field ops (off + 3) 2
    if p ≤ 1440 && q ≤ 720 then some (some ⟨p, q⟩) else none
  | _ => none

/-- One compartment place, its result at zero (R3, R4). -/
def compField (ops : List Byte) (off : Nat) : Option Comp :=
  let capacity := field ops off 2
  let tank := field ops (off + 2) 1
  if inRange 100 20000 capacity && inRange 1 2 tank then some ⟨capacity, tank, 0, 0, none, false⟩ else none

/-- `n` compartment places from an offset; places beyond the count are not read (R213). -/
def compFields (ops : List Byte) (off : Nat) : Nat → Option (List Comp)
  | 0 => some []
  | n + 1 =>
    match compField ops off, compFields ops (off + 3) n with
    | some c, some rest => some (c :: rest)
    | _, _ => none

/-- The fields of CHECK-IN after its lane (11.3, R7 check 4). -/
structure CheckInFields where
  driver : Nat
  figures : FigureSet
  vehicle : Nat
  permit : Permit
  comps : List Comp
  plan : Option Plan
  deriving DecidableEq, Repr

def checkInFields (ops : List Byte) : Option CheckInFields :=
  let d := field ops 1 4
  let f := FigureSet.read ops 5
  let v := field ops 19 4
  let maxDangerous := field ops 25 4
  let n := field ops 29 1
  if numberOk d && f.inRange && numberOk v && maxDangerous ≤ 80000 && inRange 1 8 n then
    match compFields ops 30 n, planField ops 54 with
    | some comps, some plan => some ⟨d, f, v, ⟨BitVec.ofNat 16 (field ops 23 2), maxDangerous⟩, comps, plan⟩
    | _, _ => none
  else none

/-- The driver and carried figures of RE-DRIVER (R20 check 3). -/
def reDriverFields (ops : List Byte) : Option (Nat × FigureSet) :=
  let d := field ops 1 4
  let f := FigureSet.read ops 5
  if numberOk d && f.inRange then some (d, f) else none

/-- Key kind and key (R117, R121). -/
def keyFields (ops : List Byte) : Option (KeyKind × Nat) :=
  match KeyKind.ofCode? (field ops 0 1) with
  | some k => if numberOk (field ops 1 4) then some (k, field ops 1 4) else none
  | none => none

/-! ### The CONFIGURE block (R74, R207, 11.4) -/

/-- A presence flag: `none` out of range (R213). -/
def presence (n : Nat) : Option Bool :=
  match n with
  | 0 => some false
  | 1 => some true
  | _ => none

/-- A product entry: `none` out of range, `some none` absent (R32). -/
def productField (ops : List Byte) (off : Nat) : Option (Option Product) :=
  match presence (field ops off 1) with
  | none => none
  | some false => some none
  | some true =>
    match Packing.ofCode? (field ops (off + 4) 1) with
    | none => none
    | some g =>
      if inRange 1 9999 (field ops (off + 1) 2) && field ops (off + 3) 1 ≤ 15 && field ops (off + 5) 1 ≤ 1 then
        some (some ⟨field ops (off + 1) 2, field ops (off + 3) 1, g, field ops (off + 5) 1 == 0⟩)
      else none

/-- The reach a code gives, naming only lanes that exist under the lane count (R74). -/
def reachField (lanes n : Nat) : Option Reach :=
  match n with
  | 1 => if 1 ≤ lanes then some .a else none
  | 2 => if 2 ≤ lanes then some .b else none
  | 3 => if 2 ≤ lanes then some .both else none
  | _ => none

/-- A channel entry (R74). -/
def channelField (lanes : Nat) (products : List (Option Product)) (ops : List Byte) (off : Nat) :
    Option (Option ChannelCfg) :=
  match presence (field ops off 1) with
  | none => none
  | some false => some none
  | some true =>
    match reachField lanes (field ops (off + 3) 1) with
    | none => none
    | some reach =>
      let product := field ops (off + 2) 1
      let x : ChannelCfg := ⟨field ops (off + 1) 1, product, reach, field ops (off + 4) 1, field ops (off + 5) 2,
        field ops (off + 7) 2, field ops (off + 9) 1⟩
      if x.header ≤ 7 && (products.getD product none).isSome && inRange 1 200 x.k && x.startVol ≤ 1000 &&
          x.slowVol ≤ 2000 && x.closeLead ≤ 100 then
        some (some x)
      else none

/-- `n` entries, `step` bytes apart, each read by `f`. -/
def fieldsFrom {α : Type} (f : Nat → Option α) (step : Nat) : Nat → Nat → Option (List α)
  | _, 0 => some []
  | off, n + 1 =>
    match f off, fieldsFrom f step (off + step) n with
    | some x, some rest => some (x :: rest)
    | _, _ => none

/-- A cell of the class relation by its two-bit code; 3 is out of range (11.4). -/
def Relation.ofCode? : Nat → Option Relation
  | 0 => some .allowed | 1 => some .apart | 2 => some .separate | _ => none

/-- The cell with number `i` = 16 a + b: two bits in byte i / 4 of the table, the first cell in the top two (11.4). DEDUCED
(log entry 35): the quotient is taken of the whole sum, as the table has 64 bytes. -/
def relationCell (ops : List Byte) (i : Nat) : Option Relation :=
  Relation.ofCode? (field ops (191 + i / 4) 1 / 4 ^ (3 - i % 4) % 4)

/-- The limits, each in its range (00_scope.md, Configured settings). -/
def limitsField (ops : List Byte) : Option Limits :=
  let l : Limits := ⟨field ops 14 2, field ops 16 2, field ops 18 2, field ops 20 1, field ops 21 2, field ops 23 2,
    field ops 25 1, field ops 26 2⟩
  if inRange 60 1440 l.drive && inRange 60 1440 l.duty && inRange 30 720 l.cont && inRange 5 120 l.breakMin &&
      inRange 60 1440 l.span && inRange 600 10080 l.week && l.warn ≤ 120 && inRange 720 2880 l.stale then
    some l
  else none

/-- The CONFIGURE block: the configuration and the minute clock's value, or `none` where any field is out (R207). -/
def configureFields (ops : List Byte) : Option (Configuration × Nat) :=
  let lanes := field ops 0 1
  let refresh := field ops 1 1
  let window := field ops 2 2
  let noFlow := field ops 4 1
  let settle := field ops 5 1
  let headers := (List.range 8).map (fun h => field ops (6 + h) 1)
  let permille := field ops 28 1
  let tolMin := field ops 29 2
  if lanes ≤ 2 && inRange 1 10 refresh && inRange 200 2000 window && inRange 5 120 noFlow && inRange 1 10 settle &&
      headers.all (· ≤ 16) && permille ≤ 50 && tolMin ≤ 500 then
    match limitsField ops, fieldsFrom (productField ops) 6 95 16, fieldsFrom (relationCell ops) 1 0 256 with
    | some limits, some products, some relation =>
      match fieldsFrom (channelField lanes products ops) 10 35 6 with
      | some channels =>
        some (⟨lanes, refresh, window, noFlow, settle, headers, limits, permille, tolMin, channels, products, relation⟩,
          field ops 31 4)
      | none => none
    | _, _, _ => none
  else none

end Sys2Proof.Machine
end

