-- ==== Sys2Proof/Machine/LaneRequests.lean ====
section
/-! DEFINITION. What the owners of the lane and papers requests do (chapters 1 and 2): each gives the state and the reply.
The port's own refusals come before (R196). -/

namespace Sys2Proof.Machine

/-- A reply: a result and a body (R194). -/
structure Reply where
  result : ResultCode
  body : List Byte
  deriving DecidableEq, Repr

/-- A refusal: an empty body and no change (R194, R196). -/
def refuse (s : State) (c : ResultCode) : State × Reply := (s, ⟨c, []⟩)

/-- A reply of OK. -/
def okReply (s : State) (body : List Byte) : State × Reply := (s, ⟨.ok, body⟩)

/-- A reply of FINDINGS, whose findings join the record's list (R5, R38). -/
def findingsReply (s : State) (ℓ : LaneId) (fs : List Finding) : State × Reply :=
  (s.joinFindings ℓ fs, ⟨.findings, findingsBytes fs⟩)

/-- A valid peer row shows the driver (R144). -/
def PeerLane.shows (l : PeerLane) (d : Nat) : Bool :=
  l.state != .vacant && (l.driver == some d || l.reclaim == some d)

def PeerView.shows (v : PeerView) (d : Nat) : Bool :=
  v.rows.any (fun p => p.2.valid && (p.2.laneA.shows d || p.2.laneB.shows d))

/-- STALE as configured (R56). -/
def State.stale (s : State) : Nat :=
  match s.unit.config with
  | some cfg => cfg.limits.stale
  | none => 0

/-- The merge of carried figures for a driver (R61). -/
def State.merge (s : State) (d : Nat) (f : FigureSet) : FigureSet × Source :=
  mergeFigures s.stale s.minute f (releasedOf s.released d)

/-- The record an accepted CHECK-IN creates (R3, R4, R9). -/
def newRecord (s : State) (x : CheckInFields) (slot seq : Nat) : LoadRecord where
  seq := seq
  slot := slot
  openMinute := s.minute
  first := ⟨x.driver, (s.merge x.driver x.figures).1, (s.merge x.driver x.figures).2⟩
  second := none
  vehicle := x.vehicle
  permit := x.permit
  comps := x.comps
  plan := x.plan
  papers := []
  findings := []
  duty := none

/-- An accepted CHECK-IN (R9). -/
def State.acceptCheckIn (s : State) (ℓ : LaneId) (x : CheckInFields) : State :=
  let r := s.reserve
  let s1 := r.1.modLane ℓ (fun l =>
    { l with
      state := .claiming
      record := some (newRecord s x r.2.1 r.2.2)
      claim := some ⟨x.driver, .waiting, false, none⟩ })
  ((s1.matchLane ℓ).matchOwn ℓ x.driver x.vehicle .checkIn).testClaim ℓ

/-- CHECK-IN (R7, R9). -/
def ownCheckIn (ops : List Byte) (s : State) : State × Reply :=
  if !s.joined then refuse s .badState
  else
    match s.laneOperand ops 0 with
    | none => refuse s .badValue
    | some ℓ =>
      if (s.lane ℓ).state ≠ .vacant then refuse s .badState
      else
        match checkInFields ops with
        | none => refuse s .badValue
        | some x =>
          if (s.lane (otherLane ℓ)).holdsDriver x.driver then refuse s .laneDriver
          else if s.view.shows x.driver then refuse s .driverElsewhere
          else if s.log.state = .logFault then refuse s .logFault
          else if !s.log.canReserve then refuse s .logFull
          else okReply (s.acceptCheckIn ℓ x) (be 4 s.log.nextSeq ++ be 1 (s.merge x.driver x.figures).2.code)

/-- An accepted RE-DRIVER (R20). -/
def State.acceptReDriver (s : State) (ℓ : LaneId) (d : Nat) (f : FigureSet) : State :=
  let m := s.merge d f
  let s1 := s.modLane ℓ (fun l => { l with reclaim := some ⟨⟨d, .waiting, false, none⟩, m.1, m.2⟩ })
  (s1.matchOwn ℓ d (s.lane ℓ).vehicle .reDriver).testClaim ℓ

/-- RE-DRIVER (R20). -/
def ownReDriver (ops : List Byte) (s : State) : State × Reply :=
  if !s.joined then refuse s .badState
  else
    match s.laneOperand ops 0 with
    | none => refuse s .badValue
    | some ℓ =>
      match (s.lane ℓ).record with
      | none => refuse s .badState
      | some r =>
        if ¬ ((s.lane ℓ).state = .opened ∨ (s.lane ℓ).state = .loading) ∨ (s.lane ℓ).reclaim.isSome then
          refuse s .badState
        else
          match reDriverFields ops with
          | none => refuse s .badValue
          | some (d, f) =>
            if d ≠ r.current.driver ∧ r.second.isSome then refuse s .badState
            else if (s.lane (otherLane ℓ)).holdsDriver d then refuse s .laneDriver
            else if d ≠ r.current.driver ∧ s.view.shows d then refuse s .driverElsewhere
            else okReply (s.acceptReDriver ℓ d f) (be 1 (s.merge d f).2.code)

/-- PAPER-ENTRY (R35, R36). -/
def ownPaperEntry (ops : List Byte) (s : State) : State × Reply :=
  if !s.joined then refuse s .badState
  else
    match s.laneOperand ops 0, s.unit.config with
    | some ℓ, some cfg =>
      match (s.lane ℓ).record with
      | none => refuse s .badState
      | some r =>
        let n := field ops 1 1
        if (s.lane ℓ).state ≠ .opened then refuse s .badState
        else
          match r.comp? n with
          | none => refuse s .badValue
          | some comp =>
            if (r.entry? n).isSome then refuse s .entryExists
            else
              match cfg.product (field ops 2 1) with
              | none => refuse s .badValue
              | some product =>
                let un := field ops 3 2
                let cls := field ops 5 1
                match inRange 1 9999 un && cls ≤ 15, Packing.ofCode? (field ops 6 1) with
                | true, some packing =>
                  let declared := field ops 7 2
                  let prev := field ops 9 1
                  if un ≠ product.un ∨ cls ≠ product.cls ∨ packing ≠ product.packing then refuse s .productMismatch
                  else if !inRange 1 comp.capacity declared then refuse s .badValue
                  else if prev ≠ 255 ∧ (cfg.product prev).isNone then refuse s .badValue
                  else
                    let previous := if prev = 255 then none else some prev
                    let e : PaperEntry := ⟨n, field ops 2 1, un, cls, packing, declared, previous,
                      switchLoadMark cfg product previous, false⟩
                    okReply (s.modRecord ℓ (fun r => { r with papers := insertEntry e r.papers }))
                      (be 1 (r.papers.length + 1))
                | _, _ => refuse s .badValue
    | _, _ => refuse s .badValue

/-- PAPER-DELETE (R37). -/
def ownPaperDelete (ops : List Byte) (s : State) : State × Reply :=
  if !s.joined then refuse s .badState
  else
    match s.laneOperand ops 0 with
    | none => refuse s .badValue
    | some ℓ =>
      match (s.lane ℓ).record with
      | none => refuse s .badState
      | some r =>
        let n := field ops 1 1
        if (s.lane ℓ).state ≠ .opened then refuse s .badState
        else if (r.entry? n).isNone then refuse s .badValue
        else
          let kept := r.papers.filter (fun e => e.comp != n)
          okReply (s.modRecord ℓ (fun r => { r with papers := kept })) (be 1 kept.length)

/-- PAPERS-CLOSE (R18, R39). -/
def ownPapersClose (ops : List Byte) (s : State) : State × Reply :=
  if !s.joined then refuse s .badState
  else
    match s.laneOperand ops 0, s.unit.config with
    | some ℓ, some cfg =>
      match (s.lane ℓ).record with
      | none => refuse s .badState
      | some r0 =>
        if (s.lane ℓ).state ≠ .opened then refuse s .badState
        else if s.stagesFull ℓ then refuse s .logBusy
        else
          match planField ops 1 with
          | none => refuse s .badValue
          | some given =>
            let r := { r0 with plan := given.orElse (fun _ => r0.plan) }
            let s1 := s.modLane ℓ (fun l => { l with record := some r })
            match closeFindings cfg r s.minute, (recordDuty cfg r s.minute).bind DutyOutcome.result? with
            | [], some d =>
              let s2 := s1.modLane ℓ (fun l => { l with state := .loading, record := some { r with duty := some d } })
              okReply ((s2.handStage ℓ ⟨.papers, papersContent r⟩).armTimer ℓ d) (dutyBytes (some d))
            | fs, _ => findingsReply s1 ℓ fs
    | _, _ => refuse s .badValue

/-- A channel is assigned to the compartment (R48, R77). -/
def State.compBusy (s : State) (ℓ : LaneId) (n : Nat) : Bool := ChanId.all.any (fun c => (s.chan c).atComp ℓ n)

/-- AMEND (R48 to R50). -/
def ownAmend (ops : List Byte) (s : State) : State × Reply :=
  if !s.joined then refuse s .badState
  else
    match s.laneOperand ops 0 with
    | none => refuse s .badValue
    | some ℓ =>
      match (s.lane ℓ).record with
      | none => refuse s .badState
      | some r =>
        let n := field ops 1 1
        let litres := field ops 2 2
        if (s.lane ℓ).state ≠ .loading then refuse s .badState
        else
          match r.entry? n, r.comp? n with
          | some e, some comp =>
            if s.compBusy ℓ n then refuse s .compartmentBusy
            else if ¬ (inRange 1 comp.capacity litres ∨ (litres = 0 ∧ comp.metered = 0)) then refuse s .badValue
            else if s.stagesFull ℓ then refuse s .logBusy
            else
              let e' := { e with declared := litres, amended := true }
              let papers :=
                if litres = 0 then r.papers.filter (fun x => x.comp != n)
                else r.papers.map (fun x => if x.comp = n then e' else x)
              match testDangerous r papers with
              | [] =>
                let r' := { r with papers := papers }
                let s1 := s.modLane ℓ (fun l => { l with record := some r' })
                okReply (s1.handStage ℓ ⟨.amend, papersContent r'⟩)
                  (if litres = 0 then be 1 n ++ be 9 0 else e'.bytes)
              | fs => findingsReply s ℓ fs
          | _, _ => refuse s .badValue

/-- RELEASE (R24, R51). -/
def ownRelease (ops : List Byte) (s : State) : State × Reply :=
  if !s.joined then refuse s .badState
  else
    match s.laneOperand ops 0, s.unit.config with
    | some ℓ, some cfg =>
      match (s.lane ℓ).record with
      | none => refuse s .badState
      | some r =>
        if (s.lane ℓ).state ≠ .loading ∨ (s.lane ℓ).reclaim.isSome then refuse s .badState
        else if s.log.state = .logFault then refuse s .logFault
        else if s.laneBusy ℓ then refuse s .badState
        else if s.stagesFull ℓ then refuse s .logBusy
        else
          match releaseFindings cfg r (s.lane ℓ).holds (s.probe ℓ) s.minute,
              (recordDuty cfg r s.minute).bind DutyOutcome.result? with
          | [], some d =>
            let r' := { r with duty := some d }
            let c : Closing := ⟨.released, s.minute, s.onward ℓ (r.plan.getD noPlan), true, false⟩
            let s1 := s.modLane ℓ (fun l =>
              { l with state := .closing, record := some r', dutyTimer := none, closing := some c })
            okReply (s1.handStage ℓ (outcomeStage r' c)) []
          | fs, _ => findingsReply s ℓ fs
    | _, _ => refuse s .badValue

/-- A channel of a voided lane is told of the void (R25, R79). -/
def State.voidChannel (ℓ : LaneId) (s : State) (c : ChanId) : State :=
  if (s.chan c).atLane ℓ then
    if (s.chan c).state = .armed then s.idleChannel c else State.settlePour .voided s c
  else s

/-- An accepted VOID in OPEN or LOADING (R25). -/
def State.acceptVoid (s : State) (ℓ : LaneId) : State :=
  let s1 := s.endReclaim ℓ
  let s2 := s1.modLane ℓ (fun l => { l with state := .closing, dutyTimer := none })
  let c : Closing := ⟨.voided, s.minute, s.onward ℓ noPlan, false, false⟩
  let s3 := s2.modLane ℓ (fun l => { l with closing := some c })
  (State.reportFalls s3 (ChanId.all.foldl (State.voidChannel ℓ) s3)).testClosing ℓ

/-- A channel of the lane is SETTLING (R25). -/
def State.laneSettling (s : State) (ℓ : LaneId) : Bool :=
  ChanId.all.any (fun c => (s.chan c).atLane ℓ && (s.chan c).state == .settling)

/-- VOID (R25). -/
def ownVoid (ops : List Byte) (s : State) : State × Reply :=
  if !s.joined then refuse s .badState
  else
    match s.laneOperand ops 0 with
    | none => refuse s .badValue
    | some ℓ =>
      match (s.lane ℓ).state with
      | .vacant => refuse s .badState
      | .closing => refuse s .badState
      | .claiming => okReply (s.withdrawClaim ℓ .voided) []
      | _ => if s.laneSettling ℓ then refuse s .badState else okReply (s.acceptVoid ℓ) []

/-- UNHOLD-WATCH (R104, R124). -/
def ownUnholdWatch (ops : List Byte) (s : State) : State × Reply :=
  if !s.joined then refuse s .badState
  else
    match s.laneOperand ops 0 with
    | none => refuse s .badValue
    | some ℓ => if (s.lane ℓ).holds.watch then okReply (s.clearHold ℓ .watch) [] else refuse s .badState

end Sys2Proof.Machine
end

