-- ==== Sys2Proof/Machine/PourRequests.lean ====
section
/-! DEFINITION. What the Pour Channels do with POUR-ARM, POUR-STOP and POUR-RESUME (chapter 4). -/

namespace Sys2Proof.Machine

/-- The lane lies within the reach (R74). -/
def Reach.covers : Reach → LaneId → Bool
  | .both, _ => true
  | .a, .a => true
  | .b, .b => true
  | _, _ => false

/-- The quantities an accepted POUR-ARM fixes: preset, slow threshold, close threshold (R78). -/
def armQuantities (cfg : ChannelCfg) (declared metered : Nat) : Nat × Int × Nat :=
  let preset := declared - metered
  (preset, (preset : Int) - cfg.slowVol, max (preset - cfg.closeLead) 1)

/-- An accepted POUR-ARM (R78). -/
def State.acceptArm (s : State) (c : ChanId) (ℓ : LaneId) (n : Nat) (q : Nat × Int × Nat) : State :=
  s.modChan c (fun ch =>
    { ch with
      state := .armed
      assigned := some (ℓ, n)
      preset := some q.1
      slow := some q.2.1
      close := some q.2.2
      pulses := 0 })

/-- POUR-ARM (R75, R77, R78). -/
def ownPourArm (ops : List Byte) (s : State) : State × Reply :=
  if !s.joined then refuse s .badState
  else
    match s.chanOperand ops 0 with
    | none => refuse s .badValue
    | some (c, cfg) =>
      match s.laneOperand ops 1 with
      | none => refuse s .badValue
      | some ℓ =>
        match (s.lane ℓ).record with
        | none => refuse s .badState
        | some r =>
          let n := field ops 2 1
          if (s.lane ℓ).state ≠ .loading then refuse s .badState
          else if (s.lane ℓ).holds ≠ HoldSet.empty then refuse s .held
          else if (s.chan c).state ≠ .idle then refuse s .channelBusy
          else if !cfg.reach.covers ℓ then refuse s .notReachable
          else
            match r.comp? n with
            | none => refuse s .badValue
            | some comp =>
              match r.entry? n with
              | none => refuse s .productMismatch
              | some e =>
                if e.product ≠ cfg.product then refuse s .productMismatch
                else if s.compBusy ℓ n then refuse s .compartmentBusy
                else if 4 ≤ comp.pours then refuse s .pourLimit
                else if e.declared ≤ comp.metered then refuse s .badValue
                else if s.probe ℓ = .wet then refuse s .probeWet
                else
                  let q := armQuantities cfg e.declared comp.metered
                  okReply (s.acceptArm c ℓ n q) (be 2 q.1 ++ beSigned q.2.1 ++ be 2 q.2.2)

/-- POUR-STOP (R75, R79). -/
def ownPourStop (ops : List Byte) (s : State) : State × Reply :=
  if !s.joined then refuse s .badState
  else
    match s.chanOperand ops 0 with
    | none => refuse s .badValue
    | some (c, _) =>
      match (s.chan c).state with
      | .armed => okReply (s.idleChannel c) []
      | .pouring => okReply (s.endPour c .stopped) []
      | .suspended => okReply (s.endPour c .stopped) []
      | .idle => refuse s .badState
      | .settling => refuse s .badState
      | .ended => refuse s .badState

/-- The phase code (11.4). -/
def Phase.code : Phase → Nat
  | .start => 0 | .wait => 1 | .full => 2 | .slow => 3

/-- The channel begins or resumes POURING: the no-flow timer runs and the phase is decided (R80, R96). -/
def State.startPouring (s : State) (c : ChanId) : State :=
  (s.modChan c (fun ch => { ch with state := .pouring, noFlow := some s.noFlowMs })).decidePhase c

/-- The probe condition of the channel's assigned lane is WET. -/
def State.probeWetAt (s : State) (c : ChanId) : Bool :=
  match (s.chan c).assigned with
  | some (ℓ, _) => s.probe ℓ == .wet
  | none => false

/-- POUR-RESUME (R75, R96). -/
def ownPourResume (ops : List Byte) (s : State) : State × Reply :=
  if !s.joined then refuse s .badState
  else
    match s.chanOperand ops 0 with
    | none => refuse s .badValue
    | some (c, _) =>
      if (s.chan c).state ≠ .suspended then refuse s .badState
      else if s.probeWetAt c then refuse s .probeWet
      else if (s.causes c).any then refuse s .stillStopped
      else if !s.pins.coupled.get c then refuse s .stillStopped
      else
        let s1 := s.startPouring c
        okReply s1 (be 1 (match (s1.chan c).phase with | some p => p.code | none => 255))

end Sys2Proof.Machine
end

