-- ==== Sys2Proof/Machine/ListRequests.lean ====
section
/-! DEFINITION. What the Stop and Hold Lists do with STOP-DROP, HOLD-ISSUE, HOLD-CANCEL, HOLD-DROP, WATCH-SET and
WATCH-CLEAR (chapter 5). -/

namespace Sys2Proof.Machine

/-- The stop member of an address (5.2). -/
def Lists.stop (l : Lists) (a : Nat) : StopMember := Assoc.get .absent a l.stops

/-- Writes the stop member of an address. -/
def Lists.setStop (l : Lists) (a : Nat) (m : StopMember) : Lists := { l with stops := Assoc.put .absent a m l.stops }

/-- Own-Issued Order slot `n` (R116). -/
def Lists.order (l : Lists) (n : Nat) : OrderSlot := Assoc.get .free n l.orders

/-- Writes an Own-Issued Order slot. -/
def Lists.setOrder (l : Lists) (n : Nat) (o : OrderSlot) : Lists := { l with orders := Assoc.put .free n o l.orders }

/-- The entry is (origin, order number). -/
def HoldEntry.isFor (e : HoldEntry) (origin order : Nat) : Bool := e.origin == origin && e.order == order

/-- The Hold List entry (origin, order number), if there is one (R110). -/
def Lists.hold? (l : Lists) (origin order : Nat) : Option HoldEntry := l.holds.find? (fun e => e.isFor origin order)

/-- Takes the entry (origin, order number) out. -/
def Lists.dropHold (l : Lists) (origin order : Nat) : Lists :=
  { l with holds := l.holds.filter (fun e => !e.isFor origin order) }

/-- The FREE order slots, lowest first (R117). -/
def Lists.freeOrders (l : Lists) : List Nat := (List.range 8).filter (fun n => l.order n == .free)

/-- The steps of an accepted HOLD-ISSUE (R117). -/
def State.acceptHoldIssue (s : State) (n : Nat) (kind : KeyKind) (key reason : Nat) : State :=
  let image : HoldEntry := ⟨s.unit.address, n, kind, key, reason, false, 0⟩
  let l := s.lists.setOrder n (.active kind key reason)
  let s1 := s.setLists { l with holds := l.holds ++ [image] }
  (s1.queueNotice (.hold true n kind key reason)).matchLanes

/-- HOLD-ISSUE (R104, R117). -/
def ownHoldIssue (ops : List Byte) (s : State) : State × Reply :=
  if !s.joined then refuse s .badState
  else
    match keyFields ops with
    | none => refuse s .badValue
    | some (kind, key) =>
      match s.lists.freeOrders with
      | [] => refuse s .listFull
      | n :: _ =>
        if Config.holdMax ≤ s.lists.holds.length then refuse s .listFull
        else okReply (s.acceptHoldIssue n kind key (field ops 5 1)) (be 1 n)

/-- The steps of an accepted HOLD-CANCEL (R118). A begun ISSUE is sent whole first, and the CANCEL is queued when it
completes. -/
def State.acceptHoldCancel (s : State) (n : Nat) (kind : KeyKind) (key reason : Nat) : State :=
  let s1 := (s.setLists (s.lists.dropHold s.unit.address n)).matchLanes
  let s2 := s1.setLists (s1.lists.setOrder n (.cancelling kind key reason))
  let s3 := s2.removeNotice (.hold n)
  s3.queueNotice (.hold false n kind key reason)

/-- HOLD-CANCEL (R104, R118). -/
def ownHoldCancel (ops : List Byte) (s : State) : State × Reply :=
  if !s.joined then refuse s .badState
  else if 7 < field ops 0 1 then refuse s .badValue
  else
    match s.lists.order (field ops 0 1) with
    | .active kind key reason => okReply (s.acceptHoldCancel (field ops 0 1) kind key reason) []
    | .free => refuse s .badValue
    | .cancelling .. => refuse s .badValue

/-- HOLD-DROP (R104, R115). -/
def ownHoldDrop (ops : List Byte) (s : State) : State × Reply :=
  if !s.joined then refuse s .badState
  else
    let origin := field ops 0 1
    let n := field ops 1 1
    if 31 < origin ∨ origin = s.unit.address ∨ 7 < n then refuse s .badValue
    else
      match s.lists.hold? origin n with
      | none => refuse s .badValue
      | some e =>
        if !e.orphan then refuse s .notOrphan
        else
          let l := s.lists.dropHold origin n
          okReply (s.setLists l).matchLanes (be 1 l.holds.length)

/-- STOP-DROP (R104, R109). -/
def ownStopDrop (ops : List Byte) (s : State) : State × Reply :=
  if !s.joined then refuse s .badState
  else
    let a := field ops 0 1
    if 31 < a ∨ a = s.unit.address then refuse s .badValue
    else
      match s.lists.stop a with
      | .absent => refuse s .badValue
      | .live => refuse s .notOrphan
      | .orphan =>
        let l := s.lists.setStop a .absent
        okReply (s.setLists l) (be 1 l.stops.length)

/-- The watch mode: NOTE or STOP (11.3). -/
def watchMode (n : Nat) : Option Bool :=
  match n with
  | 0 => some false
  | 1 => some true
  | _ => none

/-- WATCH-SET (R104, R121). -/
def ownWatchSet (ops : List Byte) (s : State) : State × Reply :=
  if !s.joined then refuse s .badState
  else
    match keyFields ops, watchMode (field ops 5 1) with
    | some (kind, key), some mode =>
      okReply (s.setLists { s.lists with watch := some ⟨kind, key, mode⟩, latch := none, matchCount := 0 }) []
    | _, _ => refuse s .badValue

/-- WATCH-CLEAR (R104, R121). -/
def ownWatchClear (s : State) : State × Reply :=
  if !s.joined then refuse s .badState else okReply (s.setLists { s.lists with watch := none }) []

end Sys2Proof.Machine
end

