-- ==== Sys2Proof/Machine/Reads.lean ====
section
/-! DEFINITION. The reads of the bay host and TRIM-LOG: the answers' bodies (11.4), and what each read records. -/

namespace Sys2Proof.Machine

/-! ### READ-LANE (R201) -/

/-- The lane state code: the order of the lane state table (11.4). -/
def LaneState.code : LaneState → Nat
  | .vacant => 0 | .claiming => 1 | .opened => 2 | .loading => 3 | .closing => 4

def ClaimStep.code : ClaimStep → Nat
  | .waiting => 0 | .queued => 1 | .sent => 2 | .heard => 3

def ResultEvent.code : ResultEvent → Nat
  | .claim => 1 | .reclaim => 2 | .close => 3

def ResultOutcome.code : ResultOutcome → Nat
  | .ok => 1 | .driverElsewhere => 2 | .voided => 3 | .released => 4 | .held => 5 | .logFault => 6

def groundCode : Ground → Nat
  | .ok => 0 | .lost => 1

def probeCode : Probe → Nat
  | .dry => 0 | .wet => 1

/-- The progress of a claim or a reclaim; the step and the flag carry nothing when there is none (log entry 7). -/
def Lane.progressBytes (l : Lane) : List Byte :=
  match l.claim, l.reclaim with
  | some c, _ => be 1 1 ++ be 1 c.step.code ++ flag c.announced ++ be 4 c.driver
  | none, some r => be 1 2 ++ be 1 r.claim.step.code ++ flag r.claim.announced ++ be 4 r.claim.driver
  | none, none => be 1 0 ++ unused 2 ++ be 4 0

/-- The hold set as a mask (11.4). -/
def HoldSet.mask (h : HoldSet) : Nat := maskOf [h.order, h.watch, h.duty, h.duplicate]

/-- The lane result: event and outcome; the outcome byte carries nothing while the result is absent (R201; log entry 7). -/
def resultBytes : Option (ResultEvent × ResultOutcome) → List Byte
  | some (e, o) => be 1 e.code ++ be 1 o.code
  | none => be 1 0 ++ unused 1

/-- A running timer's remaining ms; the bytes carry nothing when it is stopped (log entry 7). -/
def remainingBytes : Option Nat → List Byte
  | some ms => be 2 ms
  | none => unused 2

/-- The duty timer: armed flag, L, figure, warned flag. -/
def timerBytes : Option DutyTimer → List Byte
  | some t => flag true ++ be 4 t.latest ++ be 1 t.figure.code ++ flag t.warned
  | none => flag false ++ unused 4 ++ be 1 0 ++ unused 1

/-- A compartment's result: 7 bytes. -/
def Comp.resultBytes (c : Comp) : List Byte := be 4 c.metered ++ be 1 c.pours ++ be 1 (endCode c.lastEnd) ++ flag c.overfill

/-- The record as READ-LANE carries it. -/
def LoadRecord.readBytes (r : LoadRecord) : List Byte :=
  be 4 r.seq ++ be 4 r.openMinute ++ be 1 (if r.second.isSome then 2 else 1) ++
    padTo 38 (r.first.bytes ++ (match r.second with | some d => d.bytes | none => [])) ++
    be 4 r.vehicle ++ be 2 r.permit.classes.toNat ++ be 4 r.permit.maxDangerous ++ compsBytes r.comps ++
    planBytes r.plan ++ papersBytes r.papers ++ padTo 56 (r.comps.flatMap Comp.resultBytes) ++
    findingsBytes r.findings ++ dutyBytes r.duty

/-- The READ-LANE body (R201, 11.4). -/
def State.laneBody (s : State) (ℓ : LaneId) : List Byte :=
  let l := s.lane ℓ
  be 1 ℓ.code ++ be 1 l.state.code ++ l.progressBytes ++ be 1 l.holds.mask ++ resultBytes l.result ++
    be 1 (groundCode (s.ground ℓ)) ++ be 1 (probeCode (s.probe ℓ)) ++ flag l.dispatch ++ remainingBytes l.pulse ++
    be 1 (s.pendingStages ℓ) ++ be 1 l.backlog.length ++ timerBytes l.dutyTimer ++
    (match l.record with
      | some r => flag true ++ r.readBytes
      | none => flag false)

/-- READ-LANE (R1, R201). -/
def ownReadLane (ops : List Byte) (s : State) : State × Reply :=
  match s.laneOperand ops 0 with
  | none => refuse s .badValue
  | some ℓ => okReply s (s.laneBody ℓ)

/-! ### READ-CHANNEL (R103, R202) -/

/-- The channel state code: the order of the channel state table (11.4). -/
def ChannelState.code : ChannelState → Nat
  | .idle => 0 | .armed => 1 | .pouring => 2 | .suspended => 3 | .settling => 4 | .ended => 5

/-- The draw state code: the order of the draw state table (11.4). -/
def DrawState.code : DrawState → Nat
  | .none => 0 | .asked => 1 | .sent => 2 | .granted => 3 | .returning => 4

def PermitLevel.code : PermitLevel → Nat
  | .off => 0 | .low => 1 | .high => 2

/-- The causes as a mask (11.4). -/
def Causes.mask (x : Causes) : Nat := maskOf [x.stop, x.ground, x.hold]

/-- The metered litres and the pour count of the assigned compartment (R202). -/
def State.assignedBytes (s : State) (c : ChanId) : List Byte :=
  match s.assignedComp c with
  | some (comp, _) => be 4 comp.metered ++ be 1 comp.pours
  | none => unused 5

/-- The READ-CHANNEL body (R103, R202, 11.4). -/
def State.channelBody (s : State) (c : ChanId) : List Byte :=
  let ch := s.chan c
  be 1 c.index ++ be 1 ch.state.code ++ be 1 (match ch.phase with | some p => p.code | none => 255) ++
    (match ch.assigned with
      | some (ℓ, n) => be 1 ℓ.code ++ be 1 n
      | none => be 1 255 ++ be 1 0) ++
    be 2 (ch.preset.getD 0) ++ beSigned (ch.slow.getD 0) ++ be 2 (ch.close.getD 0) ++ be 3 ch.pulses ++
    be 3 (s.pourLitres c) ++ be 1 ch.draw.code ++ flag ch.grant ++ be 1 (s.causes c).mask ++ be 2 ch.stray ++
    be 1 (endCode ch.lastEnd) ++ flag (s.pins.coupled.get c) ++ flag (s.pins.pressed.get c) ++ be 1 ch.permit.code ++
    s.assignedBytes c

/-- READ-CHANNEL (R75, R202). -/
def ownReadChannel (ops : List Byte) (s : State) : State × Reply :=
  match s.chanOperand ops 0 with
  | none => refuse s .badValue
  | some (c, _) => okReply s (s.channelBody c)

/-! ### READ-PEERS (R125, R167) -/

/-- The row of an address (R142). -/
def PeerView.row (v : PeerView) (a : Nat) : PeerRow := Assoc.get .reset a v.rows

/-- Writes the row of an address. -/
def PeerView.setRow (v : PeerView) (a : Nat) (r : PeerRow) : PeerView := { v with rows := Assoc.put .reset a r v.rows }

/-- The address is listed by the stepping of READ-PEERS (R167). -/
def State.qualifies (s : State) (a : Nat) : Bool :=
  a == s.unit.address || (s.view.row a).valid || s.lists.stop a != .absent || s.lists.holds.any (fun e => e.origin == a)

/-- The next index (R167). -/
def State.nextIndex (s : State) (a : Nat) : Option Nat :=
  (List.range 32).find? (fun b => a < b && s.qualifies b)

def StopMember.code : StopMember → Nat
  | .absent => 0 | .live => 1 | .orphan => 2

/-- A lane of a row: 13 bytes. -/
def PeerLane.bytes (l : PeerLane) : List Byte :=
  be 1 l.state.code ++ be 4 (l.driver.getD 0) ++ be 4 (l.vehicle.getD 0) ++ be 4 (l.reclaim.getD 0)

/-- A Hold List entry as READ-PEERS carries it, with its missed count. -/
def HoldEntry.bytes (e : HoldEntry) : List Byte :=
  be 1 e.order ++ be 1 e.kind.code ++ be 4 e.key ++ be 1 e.reason ++ flag e.orphan ++ be 1 e.missed

/-- An Own-Issued Order slot: 7 bytes. -/
def OrderSlot.bytes : OrderSlot → List Byte
  | .free => be 1 0 ++ unused 6
  | .active kind key reason => be 1 1 ++ be 1 kind.code ++ be 4 key ++ be 1 reason
  | .cancelling kind key reason => be 1 2 ++ be 1 kind.code ++ be 4 key ++ be 1 reason

/-- A flag and the remaining ms of the timer behind it. -/
def timedFlag (t : Option Nat) : List Byte := flag t.isSome ++ remainingBytes t

/-- The answer for another address (R167). DESIGN CHOICE (log entry 31): the draw pairs stand in ascending channel number,
where R167 gives no order. -/
def State.peerBody (s : State) (a : Nat) : List Byte :=
  let r := s.view.row a
  let holds := s.lists.holds.filter (fun e => e.origin == a)
  flag r.valid ++ be 1 r.missed ++ present 4 (be 4) r.lastHeard ++ r.laneA.bytes ++ r.laneB.bytes ++
    be 1 r.draws.length ++ padTo 12 (r.draws.flatMap (fun p => be 1 p.1 ++ be 1 (p.2.getD 0))) ++ flag r.stop ++
    flag r.resync ++ be 1 (s.lists.stop a).code ++ be 1 holds.length ++ holds.flatMap HoldEntry.bytes

/-- The answer for the own address (R167). -/
def State.ownBody (s : State) : List Byte :=
  be 1 (s.lists.stop s.unit.address).code ++ (List.range 8).flatMap (fun n => (s.lists.order n).bytes) ++
    timedFlag s.view.resync ++ timedFlag s.view.joining ++
    headersAll.flatMap (fun h => be 1 (s.viewCount h) ++ be 1 (s.ownGrants h))

/-- READ-PEERS (R167). -/
def ownReadPeers (ops : List Byte) (s : State) : State × Reply :=
  let a := field ops 0 1
  if 31 < a then refuse s .badValue
  else
    okReply s (be 1 a ++ be 1 ((s.nextIndex a).getD 255) ++ (if a = s.unit.address then s.ownBody else s.peerBody a))

/-! ### READ-ATTENTION and READ-CAUSE (R199, R211) -/

/-- The bit of a reason in the reason set (11.4; log entry 14). -/
def Reason.bit : Reason → Nat
  | .laneDone ℓ => ℓ.code
  | .holdSet ℓ => 2 + ℓ.code
  | .dutyNear ℓ => 4 + ℓ.code
  | .channelEnd c => 6 + c.index
  | .stray c => 12 + c.index
  | .suspended c => 18 + c.index
  | .lineLoss => 24
  | .lineFault => 25
  | .holdListFull => 26
  | .orphan => 27
  | .watch => 28
  | .logLow => 29
  | .logFault => 30

/-- The attention set holds the reason with bit `i`. -/
def State.attends (s : State) (i : Nat) : Bool := s.attention.any (fun p => p.1.bit == i)

def WatchEvent.code : WatchEvent → Nat
  | .checkIn => 0 | .reDriver => 1 | .claim => 2 | .release => 3

/-- The Watch Latch after its presence flag: 7 bytes. -/
def Latch.bytes (l : Latch) : List Byte := be 1 l.bay ++ be 1 l.lane.code ++ be 1 l.event.code ++ be 4 l.minute

/-- The READ-ATTENTION body (R199, 11.4). -/
def State.attentionBody (s : State) : List Byte :=
  be 4 (maskOf ((List.range 31).map s.attends)) ++ present 7 Latch.bytes s.lists.latch ++ be 1 s.lists.matchCount ++
    be 1 s.line.abortRun ++ flag s.line.faulted ++ be 1 s.unit.state.code ++ be 1 s.log.state.code

/-- READ-ATTENTION: every reason in the set is marked reported (R199). -/
def ownReadAttention (s : State) : State × Reply := (s.markReported, ⟨.ok, s.attentionBody⟩)

/-- The READ-CAUSE body (R211, 11.4). -/
def State.causeBody (s : State) : List Byte :=
  be 1 s.unit.causes.mask ++ be 1 s.unit.state.code ++ be 1 s.log.state.code ++ be 1 s.unit.address ++
    be 1 s.unit.rate ++ flag s.unit.config.isSome ++ present 4 (be 4) s.unit.clock

/-- READ-CAUSE: the members answered leave at the delivery (R211). -/
def ownReadCause (s : State) : State × Reply :=
  (s.setUnit { s.unit with reported := s.unit.causes }, ⟨.ok, s.causeBody⟩)

/-! ### READ-LOG and TRIM-LOG (R183 to R186) -/

/-- What READ-LOG answers from the log as it stands (R183). -/
def State.logReply (s : State) (index : Nat) : Reply :=
  if s.log.state = .scanning then ⟨.logBusy, []⟩
  else
    match s.log.inUse[index]? with
    | none => ⟨.badValue, []⟩
    | some (p, _) => ⟨.ok, readLogBody s.log p⟩

/-- READ-LOG as it is taken: a refusal is answered at once, else the read waits for the memory's turn (R183, R194). -/
def ownReadLog (ops : List Byte) (s : State) : State × Option Reply :=
  let index := field ops 0 2
  if (s.logReply index).result = .ok then (s.setPort { s.port with reading := some ⟨index, true⟩ }, none)
  else (s, some (s.logReply index))

/-- The CLOSED slots a walk frees: from the oldest upward, up to `n`, to the first that is not CLOSED (R185). -/
def trimWalk (n : Nat) (slots : List (Nat × SlotEntry)) : List (Nat × SlotEntry) :=
  (slots.take n).takeWhile (fun p => p.2.state == .closed)

/-- Frees the walked slots. -/
def DeliveryLog.freeSlotsOf (l : DeliveryLog) (gone : List (Nat × SlotEntry)) : DeliveryLog :=
  gone.foldl (fun acc p => acc.setSlot p.1 .free) l

/-- The walk of an accepted TRIM-LOG, and the mark it leaves to be written (R185, R186). -/
def State.trim (s : State) (gone : List (Nat × SlotEntry)) : State :=
  match gone.getLast? with
  | none => s
  | some last =>
    let mark := last.2.seq.getD 0
    s.setLog { s.log.freeSlotsOf gone with trimMark := mark, pendingMark := some mark }

/-- TRIM-LOG (R185, R186). -/
def ownTrimLog (ops : List Byte) (s : State) : State × Reply :=
  let n := field ops 0 2
  if Config.slots < n then refuse s .badValue
  else
    match s.log.state with
    | .scanning => refuse s .logBusy
    | .logFault => refuse s .logFault
    | .ready =>
      let gone := trimWalk n s.log.bySequence
      let s1 := s.trim gone
      okReply s1 (be 2 gone.length ++ be 2 s1.log.freeSlots)

end Sys2Proof.Machine
end

