-- ==== Sys2Proof/Machine/Startup.lean ====
section
/-! DEFINITION. Start-up and resets (chapter 10): entering JOINING, the three resets, and CONFIGURE and RESTART. -/

namespace Sys2Proof.Machine

/-! ### JOINING -/

/-- Queues the STOP that states the own input where it differs from the announced direction (R106). -/
def State.queueStop (s : State) : State :=
  if s.pins.stopChain = s.lists.announcedAssert then s else s.queueNotice (.stop s.pins.stopChain)

/-- The own address joins or leaves the stop set with its input (R105). -/
def State.setOwnStop (s : State) : State :=
  s.setLists (s.lists.setStop s.unit.address (if s.pins.stopChain then .live else .absent))

/-- The station enters JOINING (R105, R163, R204). -/
def State.enterJoining (s : State) : State :=
  let s1 := s.setUnit { s.unit with state := .joining }
  let s2 := s1.setView { s1.view with
    refresh := some s.refreshMs
    resync := some (2 * s.refreshMs)
    joining := some (2 * s.refreshMs) }
  let s3 := s2.queueNotice .status
  if s3.pins.stopChain then s3.setOwnStop.queueStop else s3

/-! ### Resets -/

/-- What the strap pins show (R205). -/
def State.showStraps (s : State) (address : Fin 32) (rate : Fin 4) : State :=
  s.setPins { s.pins with strapAddress := address.val, strapRate := rate.val }

/-- Reads the strap pins (R205). -/
def State.readStraps (s : State) : State :=
  s.setUnit { s.unit with address := s.pins.strapAddress, rate := s.pins.strapRate }

/-- The lane's dispatch-permit output goes OFF. -/
def Lane.off (l : Lane) : Lane := { l with dispatch := false, pulse := none }

/-- The channel's permit output goes OFF. -/
def Channel.off (ch : Channel) : Channel := { ch with permit := .off }

/-- The exchange in progress is abandoned (R191). -/
def State.abandonExchange (s : State) : State :=
  (s.setPort .reset).setUnit { s.unit with reported := .none }

/-- The line is released: neither a notice nor a break is driven (R126, R209). -/
def State.releaseLine (s : State) : State := s.setLine { s.line with transmitter := none, breakLeft := 0 }

/-- Every output goes OFF, and the write and the exchange in progress are abandoned (R209 step 1). -/
def State.outputsOff (s : State) : State :=
  let s1 := ((s.modLane .a Lane.off).modLane .b Lane.off).releaseLine
  let s2 := { s1 with channels := s1.channels.map Channel.off }
  s2.abandonExchange.abandonWrite

/-- Every block takes its values after reset, and the log begins its start scan; the memory is kept (R209 steps 3, 6). -/
def State.clearBlocks (s : State) : State :=
  { s with
    lanes := ⟨.reset, .reset⟩
    channels := .all .reset
    released := []
    lists := .reset
    line := .reset
    view := .reset
    log := .scan s.log.memory s.log.markImage
    port := .reset
    attention := [] }

/-- The configuration is cleared and the minute clock stops with its value absent (R209 step 2). -/
def State.clearConfig (s : State) : State :=
  s.setUnit { s.unit with state := .unconfigured, config := none, clock := none, phase := 0, subMs := 0 }

/-- Changes the cause set (R211). -/
def State.setCauses (s : State) (c : CauseSet) : State := s.setUnit { s.unit with causes := c, reported := .none }

/-- A power-on reset (R209). -/
def State.powerOnReset (s : State) : State :=
  (s.outputsOff.clearConfig.clearBlocks.setCauses ⟨true, false, false⟩).readStraps

/-- Steps 2 to 6 of a reset through the pin (R209). -/
def State.pinReset (s : State) : State :=
  (s.clearConfig.clearBlocks.setCauses { s.unit.causes with resetPin := true }).readStraps

/-- A RESTART carried out: the configuration and the clock are kept (R210). -/
def State.restartReset (s : State) : State :=
  let s1 := (s.outputsOff.clearBlocks.setCauses { s.unit.causes with restart := true }).readStraps
  s1.setUnit { s1.unit with state := if s1.unit.config.isSome then .starting else .unconfigured }

/-! ### Requests -/

/-- CONFIGURE (R206, R207). -/
def ownConfigure (ops : List Byte) (s : State) : State × Reply :=
  if s.unit.state ≠ .unconfigured then refuse s .badState
  else if s.log.state = .scanning then refuse s .logBusy
  else
    match configureFields ops with
    | none => refuse s .badValue
    | some (cfg, minute) =>
      let s1 := s.setUnit { s.unit with config := some cfg, clock := some minute, phase := 0, subMs := 0 }
      okReply s1.enterJoining (be 1 s.unit.address ++ be 1 s.unit.rate)

/-- RESTART as it is taken: it is carried out at the end of its exchange (R195, R210). -/
def ownRestart (s : State) : State × Reply := okReply (s.setPort { s.port with restartDue := true }) []

end Sys2Proof.Machine
end

