-- ==== Sys2Proof/Machine/Port.lean ====
section
/-! DEFINITION. The Bay Panel Port (chapter 9): taking a request, handing it to its owner, the exchange's steps and its
delivery; and one meaning for each request. -/

namespace Sys2Proof.Machine

/-- The outcome every meaning here gives: the station goes on. -/
abbrev Result := Host.Outcome State Fault Refusal

/-- The requests handed on while the station is UNCONFIGURED (R196). -/
def Request.unconfiguredOk : Request → Bool
  | .configure => true
  | .readCause => true
  | .readLog => true
  | .trimLog => true
  | .restart => true
  | _ => false

/-- A state with its reply, as an owner that answers at once gives it. -/
def atOnce (r : State × Reply) : State × Option Reply := (r.1, some r.2)

/-- The owner of a request carries it out; only READ-LOG may leave its reply for later (R194, R196). -/
def askOwner (r : Request) (ops : List Byte) (s : State) : State × Option Reply :=
  match r with
  | .checkIn => atOnce (ownCheckIn ops s)
  | .reDriver => atOnce (ownReDriver ops s)
  | .paperEntry => atOnce (ownPaperEntry ops s)
  | .paperDelete => atOnce (ownPaperDelete ops s)
  | .papersClose => atOnce (ownPapersClose ops s)
  | .amend => atOnce (ownAmend ops s)
  | .release => atOnce (ownRelease ops s)
  | .void => atOnce (ownVoid ops s)
  | .unholdWatch => atOnce (ownUnholdWatch ops s)
  | .pourArm => atOnce (ownPourArm ops s)
  | .pourStop => atOnce (ownPourStop ops s)
  | .pourResume => atOnce (ownPourResume ops s)
  | .holdIssue => atOnce (ownHoldIssue ops s)
  | .holdCancel => atOnce (ownHoldCancel ops s)
  | .holdDrop => atOnce (ownHoldDrop ops s)
  | .stopDrop => atOnce (ownStopDrop ops s)
  | .watchSet => atOnce (ownWatchSet ops s)
  | .watchClear => atOnce (ownWatchClear s)
  | .readLane => atOnce (ownReadLane ops s)
  | .readChannel => atOnce (ownReadChannel ops s)
  | .readPeers => atOnce (ownReadPeers ops s)
  | .readAttention => atOnce (ownReadAttention s)
  | .readLog => ownReadLog ops s
  | .readCause => atOnce (ownReadCause s)
  | .trimLog => atOnce (ownTrimLog ops s)
  | .configure => atOnce (ownConfigure ops s)
  | .restart => atOnce (ownRestart s)

/-- A taken request passes the port's own check and reaches its owner (R196). -/
def serve (r : Request) (ops : List Byte) (s : State) : State × Option Reply :=
  if s.unit.state = .unconfigured ∧ r.unconfiguredOk = false then (s, some ⟨.notConfigured, []⟩)
  else askOwner r ops s

/-- The answer is formed: the port is ANSWERING (R191, R194). -/
def State.answerWith (s : State) (a : Answer) : State := s.setPort { s.port with step := .answering, answer := some a }

/-- The port holds a whole request whose reply is not formed yet (R191). -/
def State.acting (s : State) : State := s.setPort { s.port with step := .acting }

/-- A request of the exchange in progress is carried out (R194). -/
def State.carryOut (s : State) (r : Request) (ops : List Byte) : State :=
  match serve r ops s with
  | (s1, some reply) => s1.answerWith ⟨some r, reply.result, reply.body⟩
  | (s1, none) => s1.acting

/-- The last byte of a request arrives: a wrong check word is answered BAD_FRAME, a request behind a waiting read is held,
and any other is carried out (R192, R195). Only a whole request in RECEIVING is one. -/
def State.takeRequest (s : State) (r : Request) (ops : List Byte) (check : CheckWord) : State :=
  if s.inReset ∨ s.port.step ≠ .receiving ∨ ops.length ≠ r.operands then s
  else if check ≠ requestCheck r ops then s.answerWith ⟨none, .badFrame, []⟩
  else if s.port.reading.isSome then s.acting.setPort { s.acting.port with held := some ⟨r, ops, true⟩ }
  else s.carryOut r ops

/-! ### The requests -/

/-- CHECK-IN (R7, R9). -/
def execCheckIn (ops : List Byte) (check : CheckWord) (s : State) : Result := .next (s.takeRequest .checkIn ops check)
/-- RE-DRIVER (R20). -/
def execReDriver (ops : List Byte) (check : CheckWord) (s : State) : Result := .next (s.takeRequest .reDriver ops check)
/-- PAPER-ENTRY (R35, R36). -/
def execPaperEntry (ops : List Byte) (check : CheckWord) (s : State) : Result :=
  .next (s.takeRequest .paperEntry ops check)
/-- PAPER-DELETE (R37). -/
def execPaperDelete (ops : List Byte) (check : CheckWord) (s : State) : Result :=
  .next (s.takeRequest .paperDelete ops check)
/-- PAPERS-CLOSE (R18, R39). -/
def execPapersClose (ops : List Byte) (check : CheckWord) (s : State) : Result :=
  .next (s.takeRequest .papersClose ops check)
/-- AMEND (R48 to R50). -/
def execAmend (ops : List Byte) (check : CheckWord) (s : State) : Result := .next (s.takeRequest .amend ops check)
/-- RELEASE (R24, R51). -/
def execRelease (ops : List Byte) (check : CheckWord) (s : State) : Result := .next (s.takeRequest .release ops check)
/-- VOID (R25). -/
def execVoid (ops : List Byte) (check : CheckWord) (s : State) : Result := .next (s.takeRequest .void ops check)
/-- UNHOLD-WATCH (R124). -/
def execUnholdWatch (ops : List Byte) (check : CheckWord) (s : State) : Result :=
  .next (s.takeRequest .unholdWatch ops check)
/-- POUR-ARM (R77, R78). -/
def execPourArm (ops : List Byte) (check : CheckWord) (s : State) : Result := .next (s.takeRequest .pourArm ops check)
/-- POUR-STOP (R79). -/
def execPourStop (ops : List Byte) (check : CheckWord) (s : State) : Result := .next (s.takeRequest .pourStop ops check)
/-- POUR-RESUME (R96). -/
def execPourResume (ops : List Byte) (check : CheckWord) (s : State) : Result :=
  .next (s.takeRequest .pourResume ops check)
/-- HOLD-ISSUE (R117). -/
def execHoldIssue (ops : List Byte) (check : CheckWord) (s : State) : Result :=
  .next (s.takeRequest .holdIssue ops check)
/-- HOLD-CANCEL (R118). -/
def execHoldCancel (ops : List Byte) (check : CheckWord) (s : State) : Result :=
  .next (s.takeRequest .holdCancel ops check)
/-- HOLD-DROP (R115). -/
def execHoldDrop (ops : List Byte) (check : CheckWord) (s : State) : Result := .next (s.takeRequest .holdDrop ops check)
/-- STOP-DROP (R109). -/
def execStopDrop (ops : List Byte) (check : CheckWord) (s : State) : Result := .next (s.takeRequest .stopDrop ops check)
/-- WATCH-SET (R121). -/
def execWatchSet (ops : List Byte) (check : CheckWord) (s : State) : Result := .next (s.takeRequest .watchSet ops check)
/-- WATCH-CLEAR (R121). -/
def execWatchClear (ops : List Byte) (check : CheckWord) (s : State) : Result :=
  .next (s.takeRequest .watchClear ops check)
/-- READ-LANE (R201). -/
def execReadLane (ops : List Byte) (check : CheckWord) (s : State) : Result := .next (s.takeRequest .readLane ops check)
/-- READ-CHANNEL (R202). -/
def execReadChannel (ops : List Byte) (check : CheckWord) (s : State) : Result :=
  .next (s.takeRequest .readChannel ops check)
/-- READ-PEERS (R167). -/
def execReadPeers (ops : List Byte) (check : CheckWord) (s : State) : Result :=
  .next (s.takeRequest .readPeers ops check)
/-- READ-ATTENTION (R199). -/
def execReadAttention (ops : List Byte) (check : CheckWord) (s : State) : Result :=
  .next (s.takeRequest .readAttention ops check)
/-- READ-LOG (R183). -/
def execReadLog (ops : List Byte) (check : CheckWord) (s : State) : Result := .next (s.takeRequest .readLog ops check)
/-- READ-CAUSE (R211). -/
def execReadCause (ops : List Byte) (check : CheckWord) (s : State) : Result :=
  .next (s.takeRequest .readCause ops check)
/-- TRIM-LOG (R185). -/
def execTrimLog (ops : List Byte) (check : CheckWord) (s : State) : Result := .next (s.takeRequest .trimLog ops check)
/-- CONFIGURE (R206). -/
def execConfigure (ops : List Byte) (check : CheckWord) (s : State) : Result :=
  .next (s.takeRequest .configure ops check)
/-- RESTART (R195, R210). -/
def execRestart (ops : List Byte) (check : CheckWord) (s : State) : Result := .next (s.takeRequest .restart ops check)

/-- A code byte outside the table of section 9.2 is answered at once (R193). -/
def execUnknownRequest (code : Byte) (s : State) : Result :=
  .next (if s.inReset ∨ s.port.step ≠ .receiving ∨ requestCodes.contains code.toNat then s
    else s.answerWith ⟨none, .unknownRequest, []⟩)

/-! ### The exchange -/

/-- The level of the chip select. -/
def State.selectPort (s : State) (active : Bool) : State := s.setPins { s.pins with chipSelect := active }

/-- The chip select goes active: an exchange begins (R191, R195). -/
def execExchangeBegin (s : State) : Result :=
  .next (if s.pins.chipSelect then s
    else
      let s1 := s.selectPort true
      if s.inReset then s1
      else
        s1.setPort { s1.port with
          step := if s.port.held.isSome then .done else .receiving
          answer := none
          restartDue := false })

/-- The exchange ends: the answer, or the rest of it, is discarded, and what waits goes on without an exchange (R195); the
reported marks are cleared (R199) and no cause leaves (R211). -/
def State.endExchange (s : State) : State :=
  let s1 := s.setPort { s.port with
    step := .idle
    answer := none
    reading := s.port.reading.map (fun r => { r with live := false })
    held := s.port.held.map (fun h => { h with live := false })
    restartDue := false }
  s1.clearReported.setUnit { s.unit with reported := .none }

/-- The chip select goes inactive (R191, R195). The strap pins are read where the exchange carried a RESTART (R205). -/
def execExchangeEnd (address : Fin 32) (rate : Fin 4) (s : State) : Result :=
  .next (if !s.pins.chipSelect then s
    else
      let s1 := (s.selectPort false).showStraps address rate
      if s.inReset then s1
      else if s.port.restartDue then s1.endExchange.restartReset
      else s1.endExchange)

/-- What a delivered answer empties (R199, R211). -/
def State.delivered (s : State) (a : Answer) : State :=
  match a.request, a.result with
  | some .readAttention, .ok => s.dropReported
  | some .readCause, .ok => s.setUnit { s.unit with causes := s.unit.causes.less s.unit.reported, reported := .none }
  | _, _ => s

/-- The last bit of the answer's check word is clocked out (R195). -/
def execAnswerDelivered (s : State) : Result :=
  .next (if s.inReset ∨ s.port.step ≠ .answering then s
    else
      match s.port.answer with
      | none => s
      | some a => (s.setPort { s.port with step := .done, answer := none }).delivered a)

/-- A held request whose exchange has ended is carried out and its answer discarded as it is formed; a RESTART is carried
out at that moment (R195). -/
def State.carryOutUnheard (s : State) (r : Request) (ops : List Byte) : State :=
  match r with
  | .restart => s.restartReset
  | _ =>
    let s1 := (serve r ops s).1
    let s2 := s1.setPort { s1.port with reading := s1.port.reading.map (fun x => { x with live := false }) }
    s2.clearReported.setUnit { s2.unit with reported := .none }

/-- Hands the held request over (R195). -/
def State.handOver (s : State) : State :=
  match s.port.held with
  | none => s
  | some h =>
    let s1 := s.setPort { s.port with held := none }
    if h.live then s1.carryOut h.request h.ops else s1.carryOutUnheard h.request h.ops

/-- The memory serves the waiting read, ahead of the queued stages and behind a pending mark write (R183, R194). -/
def State.logReadReady (s : State) : Bool :=
  !s.inReset && s.port.reading.isSome && s.log.writing.isNone && s.log.pendingMark.isNone

/-- The read is answered in its exchange, or its answer is discarded where that has ended (R195). -/
def State.answerRead (s : State) (r : Reading) : State :=
  let s1 := s.setPort { s.port with reading := none }
  let reply := s.logReply r.index
  if r.live then s1.answerWith ⟨some .readLog, reply.result, reply.body⟩ else s1

/-- The log memory serves a waiting READ-LOG and the held request goes to its owner (R183, R195). -/
def execLogReadServed (address : Fin 32) (rate : Fin 4) (s : State) : Result :=
  .next (match s.port.reading with
    | none => s
    | some r => if s.logReadReady then ((s.showStraps address rate).answerRead r).handOver else s)

end Sys2Proof.Machine
end

