-- ==== Sys2Proof/Machine/ChannelEvents.lean ====
section
/-! DEFINITION. What happens at the channels without a request (chapter 4): pulses, buttons, couplers, the lanes' ground and
probe inputs, the stop chain, and the no-flow and settle timers. An input's level is kept at every change; a change acts
where the station samples the input (R17, R75, R105). -/

namespace Sys2Proof.Machine

/-- The channel's inputs are sampled: it is present and the reset pin is not held (R75, R209). -/
def State.sampled (s : State) (c : ChanId) : Bool := !s.inReset && (s.chanCfg c).isSome

/-! ### Pulses -/

/-- The meter factor of a channel (R74). -/
def State.meterK (s : State) (c : ChanId) : Nat :=
  match s.chanCfg c with
  | some cfg => cfg.k
  | none => 1

/-- A stray pulse (R83). -/
def State.strayPulse (s : State) (c : ChanId) : State :=
  let n := (s.chan c).stray
  if Config.strayMax ≤ n then s
  else
    let s1 := s.modChan c (fun ch => { ch with stray := n + 1 })
    if (n + 1) % s.meterK c = 0 then s1.attend (.stray c) else s1

/-- A pulse has raised the pour litres to the close threshold (R87, R95). -/
def State.reachesClose (before s : State) (c : ChanId) : Bool :=
  before.pourLitres c < s.pourLitres c && ((s.chan c).close.getD 0) ≤ s.pourLitres c

/-- A pulse in POURING (R81, R82, R84, R87, R101). -/
def State.pouringPulse (s : State) (c : ChanId) : State :=
  let s1 := s.modChan c (fun ch => { ch with noFlow := some s.noFlowMs })
  let s2 := s1.countPulse c
  if State.reachesClose s s2 c then s2.endPour c .complete
  else if s.pourLitres c < s2.pourLitres c then s2.decidePhase c
  else s2

/-- A pulse in SUSPENDED (R81, R82, R95). -/
def State.suspendedPulse (s : State) (c : ChanId) : State :=
  let s1 := s.countPulse c
  if State.reachesClose s s1 c then s1.endPour c .complete else s1

/-- A meter pulse, by the channel's state (R81). -/
def State.pulse (s : State) (c : ChanId) : State :=
  match (s.chan c).state with
  | .pouring => s.pouringPulse c
  | .suspended => s.suspendedPulse c
  | .settling => s.countPulse c
  | .idle => s.strayPulse c
  | .armed => s.strayPulse c
  | .ended => s.strayPulse c

/-- METER-PULSE (R81 to R83, R87). -/
def execMeterPulse (c : ChanId) (s : State) : Result := .next (if s.sampled c then s.pulse c else s)

/-! ### The start button and the coupler -/

/-- The level of a start button. -/
def State.setPressed (s : State) (c : ChanId) (v : Bool) : State :=
  s.setPins { s.pins with pressed := s.pins.pressed.set c v }

/-- The level of a coupler input. -/
def State.setCoupled (s : State) (c : ChanId) (v : Bool) : State :=
  s.setPins { s.pins with coupled := s.pins.coupled.set c v }

/-- The ground condition of the channel's assigned lane is OK (R80). -/
def State.groundOkAt (s : State) (c : ChanId) : Bool :=
  match (s.chan c).assigned with
  | some (ℓ, _) => s.ground ℓ == .ok
  | none => true

/-- A press starts the pour of an ARMED channel (R80). -/
def State.mayStart (s : State) (c : ChanId) : Bool :=
  (s.chan c).state == .armed && s.pins.coupled.get c && s.groundOkAt c && !s.probeWetAt c && !(s.causes c).any

/-- The pour starts (R80). -/
def State.startPour (s : State) (c : ChanId) : State :=
  (s.modChan c (fun ch => { ch with pourStart := some s.minute })).startPouring c

/-- START-PRESS: the edge from released to pressed (R80). -/
def execStartPress (c : ChanId) (s : State) : Result :=
  .next (if s.pins.pressed.get c then s
    else
      let s1 := s.setPressed c true
      if s1.sampled c && s1.mayStart c then s1.startPour c else s1)

/-- The start button is released: nothing else happens (R80). -/
def execStartButtonRelease (c : ChanId) (s : State) : Result := .next (s.setPressed c false)

/-- The coupler is lost: a POURING channel ends UNCOUPLED (R95, R97). -/
def execCouplerLost (c : ChanId) (s : State) : Result :=
  .next (
    let s1 := s.setCoupled c false
    if s.pins.coupled.get c && s1.sampled c && (s1.chan c).state == .pouring then s1.endPour c .uncoupled else s1)

/-- The coupler is connected: nothing else happens (R80, R96). -/
def execCouplerConnected (c : ChanId) (s : State) : Result := .next (s.setCoupled c true)

/-! ### The lanes' inputs and the stop chain -/

/-- GROUND-CHANGE: the cause GROUND starts or stops standing (R17, R93, R94). -/
def execGroundChange (ℓ : LaneId) (g : Ground) (s : State) : Result :=
  .next (
    let s1 := s.setPins (s.pins.setGround ℓ g)
    if s.ground ℓ = g ∨ s.inReset then s1 else s1.applyCauses)

/-- A channel of the lane meets a probe that has gone WET (R97). -/
def State.wetChannel (ℓ : LaneId) (s : State) (c : ChanId) : State :=
  if (s.chan c).atLane ℓ then State.settlePour .probe s c else s

/-- PROBE-CHANGE: WET ends the running pours of the lane (R17, R95, R97). -/
def execProbeChange (ℓ : LaneId) (p : Probe) (s : State) : Result :=
  .next (
    let s1 := s.setPins (s.pins.setProbe ℓ p)
    if s.probe ℓ = p ∨ s.inReset ∨ p = .dry then s1
    else State.reportFalls s1 (ChanId.all.foldl (State.wetChannel ℓ) s1))

/-- The own stop input has changed: the own member, the STOP notice, and the cause STOP at every channel (R105, R106). -/
def State.stopChanged (s : State) : State :=
  let s1 := s.setOwnStop.removeNotice .stop
  s1.queueStop.applyCauses

/-- STOP-INPUT-CHANGE (R105, R106). -/
def execStopInputChange (asserted : Bool) (s : State) : Result :=
  .next (
    let s1 := s.setPins { s.pins with stopChain := asserted }
    if s.pins.stopChain = asserted ∨ s.lineOn = false then s1 else s1.stopChanged)

/-! ### The timers -/

/-- NO-FLOW-TIMER-EXPIRY (R97, R101). -/
def execNoFlowTimerExpiry (c : ChanId) (s : State) : Result :=
  .next (if !s.inReset && (s.chan c).noFlow.isSome && (s.chan c).state == .pouring then s.endPour c .noflow else s)

/-- The content of a pour stage: 25 bytes (R99, 11.5). -/
def pourContent (c : ChanId) (n number : Nat) (ch : Channel) (litres : Nat) (comp : Comp) : List Byte :=
  be 1 c.index ++ be 1 n ++ be 1 number ++ be 4 (ch.pourStart.getD 0) ++ be 4 (ch.pourFinish.getD 0) ++
    be 3 ch.pulses ++ be 3 litres ++ be 4 comp.metered ++ be 1 (endCode ch.pourEnd) ++ flag comp.overfill ++
    be 2 ch.stray

/-- The compartment after a pour (R98 steps 1 and 2). -/
def Comp.afterPour (comp : Comp) (e : Option EndStatus) : Comp :=
  { comp with
    pours := comp.pours + 1
    lastEnd := e
    overfill := comp.overfill || decide (comp.capacity < comp.metered) }

/-- Hands the pour stage over: it goes straight to the Log Write Queue, and is discarded under LOG_FAULT (R99, R100). -/
def State.handPour (s : State) (c : ChanId) (ℓ : LaneId) (n : Nat) (comp : Comp) : State :=
  if s.log.state = .logFault then s
  else
    s.enqueueStage ⟨(s.lane ℓ).slotOf.1, (s.lane ℓ).slotOf.2,
      ⟨.pour n comp.pours, pourContent c n comp.pours (s.chan c) (s.pourLitres c) comp⟩, .channel c⟩

/-- The steps on entering ENDED at a compartment (R98). -/
def State.endAt (s : State) (c : ChanId) (ℓ : LaneId) (n : Nat) (comp : Comp) : State :=
  let comp' := comp.afterPour (s.chan c).pourEnd
  let s1 := s.modRecord ℓ (fun r => r.modComp n (fun _ => comp'))
  s1.handPour c ℓ n comp'

/-- SETTLING ends: the channel enters ENDED, and under LOG_FAULT goes on to IDLE at once (R98, R100). -/
def State.settled (s : State) (c : ChanId) : State :=
  let s1 := s.modChan c (fun ch => { ch with state := .ended, settle := none })
  let s2 := match (s1.chan c).assigned, s1.assignedComp c with
    | some (ℓ, n), some (comp, _) => s1.endAt c ℓ n comp
    | _, _ => s1
  let s3 := s2.modChan c (fun ch => { ch with stray := 0, lastEnd := ch.pourEnd })
  let s4 := s3.attend (.channelEnd c)
  if s.log.state = .logFault then s4.finishChannel c else s4

/-- SETTLE-TIMER-EXPIRY (R98, R102). -/
def execSettleTimerExpiry (c : ChanId) (s : State) : Result :=
  .next (if !s.inReset && (s.chan c).settle.isSome && (s.chan c).state == .settling then s.settled c else s)

end Sys2Proof.Machine
end

