-- ==== Sys2Proof/Machine/LaneEvents.lean ====
section
/-! DEFINITION. What happens at the lanes without a request (chapters 1, 3, 5): the claim and reclaim windows, the dispatch
pulse, and what follows a minute advance or an origin's STATUS. A timer's expiry acts where that timer runs (log entry 15). -/

namespace Sys2Proof.Machine

/-! ### The claim window -/

/-- A claim succeeds (R11, R173). -/
def State.claimSucceeds (s : State) (ℓ : LaneId) (r : LoadRecord) : State :=
  let s1 := s.modLane ℓ (fun l => { l with state := .opened, claim := none })
  ((s1.openSlot r.slot).handStage ℓ ⟨.header, headerContent ℓ r⟩).setResult ℓ .claim .ok

/-- The lane's claim is HEARD and its timer runs. -/
def Lane.claimRuns (l : Lane) : Bool :=
  match l.claim with
  | some c => c.timer.isSome
  | none => false

/-- CLAIM-TIMER-EXPIRY (R11). -/
def execClaimTimerExpiry (ℓ : LaneId) (s : State) : Result :=
  .next (match (s.lane ℓ).record with
    | none => s
    | some r => if !s.inReset && (s.lane ℓ).claimRuns then s.claimSucceeds ℓ r else s)

/-! ### The reclaim window -/

/-- A pure reclaim succeeds (R23). -/
def State.pureReclaim (s : State) (ℓ : LaneId) : State :=
  ((s.clearHold ℓ .duplicate).modLane ℓ (fun l => { l with reclaim := none })).setResult ℓ .reclaim .ok

/-- Writes the record's duty result. -/
def State.setDuty (s : State) (ℓ : LaneId) (d : Option DutyResult) : State := s.modRecord ℓ (fun r => { r with duty := d })

/-- A recomputation that does not pass: the result is absent, the timer is stopped and DUTY is set with its finding (R71). -/
def State.failDuty (s : State) (ℓ : LaneId) (o : DutyOutcome) : State :=
  let s1 := (s.setDuty ℓ none).stopTimer ℓ
  match o.findings with
  | f :: _ => s1.setHold ℓ .duty f
  | [] => s1

/-- The recomputation for a new driver in LOADING (R22 step 5, R71). -/
def State.recompute (s : State) (ℓ : LaneId) : State :=
  match s.unit.config, (s.lane ℓ).record with
  | some cfg, some r =>
    match recordDuty cfg r s.minute with
    | some (.pass d) => (s.setDuty ℓ (some d)).armTimer ℓ d
    | some o => s.failDuty ℓ o
    | none => s
  | _, _ => s

/-- A change of driver succeeds (R22). -/
def State.changeDriver (s : State) (ℓ : LaneId) (r : LoadRecord) (rc : Reclaim) : State :=
  let old := r.current.driver
  let figures := s.onward ℓ noPlan
  let new : DriverEntry := ⟨rc.claim.driver, rc.figures, rc.source⟩
  let s1 := s.queueNotice (.release ℓ .handover old figures)
  let s2 := s1.modRecord ℓ (fun r => { r with second := some new })
  let s3 := s2.handStage ℓ ⟨.driver, driverContent new s.minute figures⟩
  let s4 := (s3.clearHold ℓ .duty).clearHold ℓ .duplicate
  let s5 := if (s.lane ℓ).state = .loading then s4.recompute ℓ else s4
  let s6 := (s5.matchLane ℓ).modLane ℓ (fun l => { l with reclaim := none })
  (s6.setResult ℓ .reclaim .ok).dropContest ℓ old

/-- RECLAIM-TIMER-EXPIRY (R22, R23). -/
def execReclaimTimerExpiry (ℓ : LaneId) (s : State) : Result :=
  .next (match (s.lane ℓ).record, (s.lane ℓ).reclaim with
    | some r, some rc =>
      if !s.inReset && rc.claim.timer.isSome then
        if rc.claim.driver = r.current.driver then s.pureReclaim ℓ else s.changeDriver ℓ r rc
      else s
    | _, _ => s)

/-! ### The dispatch pulse -/

/-- DISPATCH-PULSE-END (R28). -/
def execDispatchPulseEnd (ℓ : LaneId) (s : State) : Result :=
  .next (if !s.inReset && (s.lane ℓ).pulse.isSome then
      s.modLane ℓ (fun l => { l with dispatch := false, pulse := none })
    else s)

/-! ### The minute clock and what follows an advance -/

/-- 60 s have passed since the last advance and the clock is not at its maximum: an advance is due (R208). -/
def State.advanceDue (s : State) : Bool :=
  match s.unit.clock with
  | some m => !s.inReset && m < Config.clockMax && s.unit.phase == Config.minuteMs
  | none => false

/-- The minute that the tests of an advance are made at: the coming one while an advance is due. -/
def State.dueMinute (s : State) : Nat := if s.advanceDue then s.minute + 1 else s.minute

/-- The lane's timer raises its warning. -/
def State.warnDuty (s : State) (ℓ : LaneId) (t : DutyTimer) : State :=
  (s.modLane ℓ (fun l => { l with dutyTimer := some { t with warned := true } })).attend (.dutyNear ℓ)

/-- An armed timer whose warned flag is clear tests for its warning at minute `m` (R69). -/
def State.testNear (m : Nat) (s : State) (ℓ : LaneId) : State :=
  match (s.lane ℓ).dutyTimer with
  | none => s
  | some t => if !t.warned && t.latest ≤ m + s.warn then s.warnDuty ℓ t else s

/-- An armed timer tests for its hold at minute `m`: a warning still owed is raised with it (R70). -/
def State.testOver (m : Nat) (s : State) (ℓ : LaneId) : State :=
  match (s.lane ℓ).dutyTimer with
  | none => s
  | some t =>
    if t.latest < m then
      ((if t.warned then s else s.warnDuty ℓ t).setHold ℓ .duty (dutyFinding t.figure)).stopTimer ℓ
    else s

/-- The entries no longer live at minute `m` leave the table (R60). -/
def State.ageTable (m : Nat) (s : State) : State :=
  s.setReleased (s.released.filter (fun e => figuresLive s.stale m e.2))

/-- What an advance to minute `m` brings to its two owners: both tests of each armed duty timer, and the ageing (R208). -/
def State.advanced (m : Nat) (s : State) : State :=
  State.ageTable m (State.testOver m (State.testNear m (State.testOver m (State.testNear m s .a) .a) .b) .b)

/-- MINUTE-ADVANCE, one event with all that it brings; the clock stops at its maximum (R60, R69, R70, R208). -/
def execMinuteAdvance (s : State) : Result :=
  .next (match s.unit.clock with
    | none => s
    | some m =>
      if s.inReset ∨ Config.clockMax ≤ m then s
      else State.advanced (m + 1) (s.setUnit { s.unit with clock := some (m + 1), phase := 0 }))

/-- DUTY-NEAR: the part of an advance that is a lane's warning (R69; log entry 16). -/
def execDutyNear (ℓ : LaneId) (s : State) : Result :=
  .next (if s.inReset then s else State.testNear s.dueMinute s ℓ)

/-- DUTY-TIMER-EXPIRY: the part of an advance that is a lane's hold (R70; log entry 16). -/
def execDutyTimerExpiry (ℓ : LaneId) (s : State) : Result :=
  .next (if s.inReset then s else State.testOver s.dueMinute s ℓ)

/-- An advance is due at which the driver's entry in the Released-Driver Table is no longer live (R60). -/
def State.driverAged (s : State) (d : Nat) : Bool :=
  match releasedOf s.released d with
  | some f => s.advanceDue && !figuresLive s.stale s.dueMinute f
  | none => false

/-- RELEASED-DRIVER-AGEING: the part of an advance that is a driver's ageing, and nothing without one (R60; log entry 16). -/
def execReleasedDriverAgeing (d : Nat) (s : State) : Result :=
  .next (if s.driverAged d then s.setReleased (s.released.filter (fun e => e.1 != d)) else s)

/-! ### Hold entries that lapse -/

/-- The entry's missed count has reached 3: own and ORPHAN entries are not counted (R110, R113). -/
def State.holdLapsed (s : State) (e : HoldEntry) : Bool :=
  !s.inReset && !e.orphan && e.missed == 3 && e.origin != s.unit.address

/-- HOLD-ENTRY-LAPSE, the step that follows the STATUS at which the count reached 3 (R113; log entry 16). -/
def execHoldEntryLapse (origin order : Nat) (s : State) : Result :=
  .next (match s.lists.hold? origin order with
    | none => s
    | some e => if s.holdLapsed e then (s.setLists (s.lists.dropHold origin order)).matchLanes else s)

end Sys2Proof.Machine
end

