-- ==== Sys2Proof/Machine/LineEvents.lean ====
section
/-! DEFINITION. The Rack Line Port and the Peer View's timers (chapters 6 and 7): sending, reception, receive losses, the
refresh tick, row expiry, resync and joining. -/

namespace Sys2Proof.Machine

/-- Any dominant bit sets the idle count back to 0 (R131); it counts on from the end of the character (log entry 38). -/
def State.lineBusy (s : State) : State := s.setLine { s.line with idleCount := 0 }

/-! ### The STATUS body (R149) -/

/-- The lane state a STATUS shows (R149, 11.2). -/
def LaneState.shown : LaneState → PeerLaneState
  | .vacant => .vacant | .claiming => .claiming | .opened => .opened | .loading => .loading | .closing => .loading

/-- A lane as a STATUS reports it (R149). -/
def Lane.report (l : Lane) : PeerLane :=
  match l.record with
  | none => .blank
  | some r => ⟨l.state.shown, some r.current.driver, some r.vehicle, l.reclaim.map (fun x => x.claim.driver)⟩

/-- A lane block: 12 bytes (11.2). -/
def PeerLane.block (l : PeerLane) : List Byte :=
  be 4 (l.state.code * 2 ^ 30 + l.driver.getD 0) ++ be 4 (l.vehicle.getD 0) ++ be 4 (l.reclaim.getD 0)

/-- The lanes that exist, A first. -/
def State.reportedLanes (s : State) : List LaneId := [LaneId.a, LaneId.b].filter s.laneExists

/-- The own channels whose grant flag is set. DESIGN CHOICE (log entry 31): in ascending number, where R149 gives no order. -/
def State.grantedChannels (s : State) : List ChanId := ChanId.all.filter (fun c => (s.chan c).grant)

/-- The STATUS body as the station stands (R149, 11.2). DESIGN CHOICE (log entry 32): bits 5 to 2 of the flags byte are sent
0. -/
def State.statusBody (s : State) : List Byte :=
  let stop := s.lists.stop s.unit.address != .absent
  be 1 ((if stop then 128 else 0) + (if s.view.resync.isSome then 64 else 0) + s.reportedLanes.length) ++
    be 1 s.grantedChannels.length ++ s.reportedLanes.flatMap (fun ℓ => (s.lane ℓ).report.block) ++
    s.grantedChannels.flatMap (fun c => be 1 c.index ++ be 1 (s.headerOf c))

/-! ### Sending -/

/-- The levels of a notice as it starts (R127, R128, R149). -/
def State.levelsOf (s : State) (n : Notice) : List Level :=
  noticeLevels (frameNotice n.kind s.unit.address (n.body s.statusBody))

/-- The station may start a notice (R131). -/
def State.mayStartNotice (s : State) : Bool :=
  s.lineOn && s.line.transmitter.isNone && s.line.breakLeft == 0 && Config.idleGap ≤ s.line.idleCount

/-- TRANSMIT-START: the first notice in send order goes onto the line (R129, R131). -/
def execTransmitStart (s : State) : Result :=
  .next (match s.line.sendQueue with
    | [] => s
    | e :: _ =>
      if s.mayStartNotice then
        s.setLine { s.line with
          transmitter := some ⟨e.notice.place, s.levelsOf e.notice, false⟩
          idleCount := 0 }
      else s)

/-- ARBITRATION-LOST: in the header character only (R132). -/
def execArbitrationLost (s : State) : Result :=
  .next (match s.line.transmitter with
    | none => s
    | some t => if t.won ∨ s.inReset then s else s.stopDriving)

/-- NOTICE-BEGUN: the header character has been read back whole (R130, R132). -/
def execNoticeBegun (s : State) : Result :=
  .next (match s.line.transmitter with
    | none => s
    | some t =>
      if t.won ∨ s.inReset then s
      else (s.setLine { s.line with transmitter := some { t with won := true } }).markBegun t.place)

/-- One more abort (R134). -/
def State.countAbort (s : State) : State :=
  if s.line.abortRun + 1 = Config.abortMax then
    (s.setLine { s.line with abortRun := Config.abortMax, faulted := true }).attend .lineFault
  else s.setLine { s.line with abortRun := min (s.line.abortRun + 1) Config.abortMax }

/-- ABORT: the break is driven for 12 bit times, which the own receiver takes too, and the abort run rises (R133, R134, R138).
DESIGN CHOICE (log entry 37): the run rises as the break begins. -/
def execAbort (s : State) : Result :=
  .next (match s.line.transmitter with
    | none => s
    | some _ =>
      if s.inReset then s
      else (s.setLine { s.line with
          transmitter := none
          breakLeft := Config.breakBits
          receiver := none
          idleCount := 0 }).countAbort)

/-! ### Sent whole (R135) -/

/-- A withdrawn RELEASE for the driver waits in the lane's place (R135). -/
def State.withdrawnWaits (s : State) (ℓ : LaneId) (d : Nat) : Bool :=
  match s.noticeAt (.release ℓ) with
  | some ⟨.release _ .withdrawn d' _, _⟩ => d' == d
  | _ => false

/-- A CLAIM sent whole after its claim or reclaim ended without success (R135). -/
def State.lostClaimSent (s : State) (ℓ : LaneId) (lc : LostClaim) : State :=
  let s1 := s.modLane ℓ (fun l => { l with lostClaim := none })
  if s.withdrawnWaits ℓ lc.driver ∨ (lc.pure ∧ (s.lane ℓ).holdsDriver lc.driver) then s1
  else s1.queueWithdrawn ℓ lc.driver

/-- A CLAIM in progress has been sent whole: QUEUED becomes SENT (R10). -/
def Claim.sentWhole (c : Claim) : Claim := if c.step = .queued then { c with step := .sent, announced := true } else c

/-- A CLAIM of the lane has been sent whole (R10, R130, R135). -/
def State.claimSent (s : State) (ℓ : LaneId) : State :=
  let s1 := match (s.lane ℓ).lostClaim with
    | some lc => s.lostClaimSent ℓ lc
    | none => s.modLane ℓ (fun l => l.modProgress Claim.sentWhole)
  s1.testClaim ℓ

/-- A RELEASE of the lane has been sent whole: an owed one is queued first, and the lane then tests (R135). -/
def State.releaseSent (s : State) (ℓ : LaneId) : State :=
  let s1 := match (s.lane ℓ).owedRelease with
    | some d => (s.modLane ℓ (fun l => { l with owedRelease := none })).queueNotice (.release ℓ .withdrawn d none)
    | none => s
  (s1.testClaim ℓ).testClosing ℓ

/-- A DRAW-ON has been sent whole (R88). -/
def State.drawOnSent (s : State) (c : ChanId) : State :=
  match (s.chan c).draw with
  | .asked => s.modChan c (fun ch => { ch with draw := .sent })
  | .returning => s.queueNotice (.draw false c (s.headerOf c))
  | .none => s
  | .sent => s
  | .granted => s

/-- A DRAW-OFF has been sent whole (R88). -/
def State.drawOffSent (s : State) (c : ChanId) : State :=
  let s1 := s.modChan c (fun ch => { ch with draw := .none })
  if (s1.chan c).wantsDraw then s1.offerRound (s1.headerOf c) else s1

/-- A STOP has been sent whole: the announced direction becomes its own, and the input is compared with it (R106). -/
def State.stopSent (s : State) (assert : Bool) : State :=
  (s.setLists { s.lists with announcedAssert := assert }).queueStop

/-- A HOLD ISSUE has been sent whole: an owed CANCEL is queued (R118). -/
def State.issueSent (s : State) (n : Nat) : State :=
  match s.lists.order n with
  | .cancelling kind key reason => s.queueNotice (.hold false n kind key reason)
  | .free => s
  | .active .. => s

/-- The owner of a notice is told that it has been sent whole (R135). -/
def State.tellOwner (s : State) (n : Notice) : State :=
  match n with
  | .stop assert => s.stopSent assert
  | .contest ℓ _ _ => s.queueOwedContest ℓ
  | .claim ℓ _ _ _ => s.claimSent ℓ
  | .draw true c _ => s.drawOnSent c
  | .draw false c _ => s.drawOffSent c
  | .release ℓ _ _ _ => s.releaseSent ℓ
  | .hold true n _ _ _ => s.issueSent n
  | .hold false n _ _ _ => s.setLists (s.lists.setOrder n .free)
  | .status => s

/-- The notice leaves its place and the abort run ends (R134, R135). -/
def State.freePlace (s : State) (p : Place) : State :=
  let s1 := s.takeNotice p
  s1.setLine { s1.line with transmitter := none, idleCount := 0, abortRun := 0, faulted := false }

/-- SENT-WHOLE (R135). -/
def execSentWhole (s : State) : Result :=
  .next (match s.line.transmitter with
    | none => s
    | some t =>
      match s.noticeAt t.place with
      | none => s
      | some e => if !t.won ∨ s.inReset then s else (s.freePlace t.place).tellOwner e.notice)

/-! ### Receive losses (R141, R164) -/

/-- The claims that a loss returns: SENT to WAITING, and a QUEUED one whose CLAIM is not begun on entering resync (R10, R141,
R164). -/
def State.loseClaim (entering : Bool) (s : State) (ℓ : LaneId) : State :=
  match (s.lane ℓ).progress? with
  | none => s
  | some c =>
    let back (t : State) := t.modLane ℓ (fun l => l.modProgress (fun c => { c with step := .waiting }))
    if c.step = .sent then back s
    else if c.step = .queued ∧ entering ∧ ¬ s.begunAt (.claim ℓ) then back (s.removeNotice (.claim ℓ))
    else s

/-- A channel in SENT returns to NONE (R92). -/
def Channel.loseDraw (ch : Channel) : Channel := if ch.draw = .sent then { ch with draw := .none } else ch

/-- A receive loss reaches its four blocks (R92, R141, R164). -/
def State.receiveLost (s : State) : State :=
  let s1 := s.attend .lineLoss
  let s2 := s1.setView { s1.view with resync := some (max (s.view.resync.getD 0) s.refreshMs) }
  let s3 := State.loseClaim s.view.resync.isNone (State.loseClaim s.view.resync.isNone s2 .a) .b
  { s3 with channels := s3.channels.map Channel.loseDraw }

/-! ### Reception -/

/-- The receiver's partial notice, or none in WAITING; what brought it there had a dominant bit (R131, R137). -/
def State.setReceiver (s : State) (p : Option Partial) : State := s.setLine { s.line with receiver := p, idleCount := 0 }

/-- HEADER-CHARACTER-RECEIVED: a marked character; one that comes early is also a receive loss (R137, R139). -/
def execHeaderCharacterReceived (h : Byte) (s : State) : Result :=
  .next (if s.lineOn = false then s
    else if s.line.receiver.isSome then (s.setReceiver (some ⟨h, []⟩)).receiveLost
    else s.setReceiver (some ⟨h, []⟩))

/-- BREAK-RECEIVED: the partial notice is dropped without a loss (R138). -/
def execBreakReceived (s : State) : Result := .next (if s.lineOn then s.setReceiver none else s)

/-- The kind and the sender that a header names (R128). -/
def headerKind (h : Byte) : Nat := h.toNat / 32
def headerSender (h : Byte) : Nat := h.toNat % 32

/-- A whole notice is judged (R140). -/
def State.judge (s : State) (h : Byte) (length : Byte) (body : List Byte) (check : CheckWord) : State :=
  if check ≠ checkWord (h :: length :: body) then s.receiveLost
  else if headerKind h = 7 then s
  else if s.line.receiveQueue.length < Config.rxMax then
    s.setLine { s.line with receiveQueue := s.line.receiveQueue ++ [⟨headerKind h, headerSender h, body⟩] }
  else s.receiveLost

/-- NOTICE-RECEIVED: the length, the body bytes and the check word that follow the header held (R137, R139, R140). In WAITING
the unmarked characters are ignored, their dominant bits apart (R131, R137). A body shorter than its length has come in part,
without a check word: the receiver holds what it has taken. What does not go on from the bytes held is no such notice (log
entry 18). -/
def execNoticeReceived (length : Byte) (body : List Byte) (check : CheckWord) (s : State) : Result :=
  .next (if s.lineOn = false then s
    else
      match s.line.receiver with
      | none => s.lineBusy
      | some p =>
        if p.taken.isPrefixOf (length :: body) = false then s
        else if 48 < length.toNat then (s.setReceiver none).receiveLost
        else if length.toNat < body.length then s
        else if body.length < length.toNat then s.setReceiver (some ⟨p.header, length :: body⟩)
        else (s.setReceiver none).judge p.header length body check)

/-- What the receiver holds after a loss: an early marked character is the header of the next notice (R138, R139). -/
def lossLeaves : LossKind → Option Partial
  | .markedEarly h => some ⟨h, []⟩
  | _ => none

/-- The loss can come only while a notice is assembled; a framing error can come in either state (R138, R139). -/
def lossPossible (k : LossKind) (assembling : Bool) : Bool :=
  match k with
  | .framing => true
  | _ => assembling

/-- The idle count after a loss: 12 where the loss is the idle gap itself, whose twelfth bit time it stands for (R131, R139). -/
def lossIdle : LossKind → Nat
  | .idleWithin => Config.idleGap
  | _ => 0

/-- RECEIVE-LOSS (R141). -/
def execReceiveLoss (k : LossKind) (s : State) : Result :=
  .next (if s.lineOn && lossPossible k s.line.receiver.isSome then
      (s.setLine { s.line with receiver := lossLeaves k, idleCount := lossIdle k }).receiveLost
    else s)

/-! ### The Peer View's timers -/

/-- Changes every row. -/
def PeerView.mapRows (v : PeerView) (f : PeerRow → PeerRow) : PeerView :=
  { v with rows := v.rows.map (fun p => (p.1, f p.2)) }

/-- A refresh tick raises a valid row's missed count (R147). -/
def PeerRow.age (r : PeerRow) : PeerRow := if r.valid then { r with missed := min (r.missed + 1) 3 } else r

/-- The refresh of own order slot `n`: an ACTIVE slot without a waiting notice is announced again (R119). -/
def State.refreshOrder (s : State) (n : Nat) : State :=
  match s.lists.order n with
  | .active kind key reason => s.queueNotice (.hold true n kind key reason)
  | .free => s
  | .cancelling .. => s

/-- REFRESH-TICK (R119, R147). DESIGN CHOICE (log entry 36): the refreshes of the own orders are queued in ascending slot number,
where neither rule gives an order. A row whose count reaches 3 expires in a step of its own (log entry 16). -/
def execRefreshTick (s : State) : Result :=
  .next (if s.inReset ∨ s.view.refresh.isNone then s
    else
      let s1 := (List.range 8).foldl State.refreshOrder (s.queueNotice .status)
      s1.setView { s1.view.mapRows PeerRow.age with refresh := some s.refreshMs })

/-- The row after an expiry: its last-heard minute and its count of 3 are kept (R148). -/
def PeerRow.expire (r : PeerRow) : PeerRow := { PeerRow.reset with missed := 3, lastHeard := r.lastHeard }

/-- A LIVE entry of the origin becomes ORPHAN (R114). -/
def HoldEntry.orphaned (a : Nat) (e : HoldEntry) : HoldEntry := if e.origin = a then { e with orphan := true } else e

/-- The expiry orphans something (R148). -/
def Lists.orphans (l : Lists) (a : Nat) : Bool :=
  l.stop a == .live || l.holds.any (fun e => e.origin == a && !e.orphan)

/-- The lists after the expiry of a row (R108, R114). -/
def Lists.orphan (l : Lists) (a : Nat) : Lists :=
  let l1 := if l.stop a = .live then l.setStop a .orphan else l
  { l1 with holds := l1.holds.map (HoldEntry.orphaned a) }

/-- A row expires (R148). -/
def State.expireRow (s : State) (a : Nat) : State :=
  let s1 := s.setView (s.view.setRow a (s.view.row a).expire)
  let s2 := State.reportFalls s s1
  let s3 := s2.setLists (s2.lists.orphan a)
  if s.lists.orphans a then s3.attend .orphan else s3

/-- ROW-EXPIRY (R148). -/
def execRowExpiry (a : Nat) (s : State) : Result :=
  .next (if !s.inReset && (s.view.row a).valid && (s.view.row a).missed == 3 then s.expireRow a else s)

/-- RESYNC-TIMER-EXPIRY: a round for every header, then the WAITING claims test again (R166). -/
def execResyncTimerExpiry (s : State) : Result :=
  .next (if s.inReset ∨ s.view.resync.isNone then s
    else
      let s1 := s.setView { s.view with resync := none }
      ((headersAll.foldl State.offerRound s1).testClaim .a).testClaim .b)

/-- JOINING-TIMER-EXPIRY: the station enters ON_LINE and nothing else changes (R163, R212). -/
def execJoiningTimerExpiry (s : State) : Result :=
  .next (if s.inReset ∨ s.view.joining.isNone then s
    else (s.setView { s.view with joining := none }).setUnit { s.unit with state := .onLine })

end Sys2Proof.Machine
end

