-- ==== Sys2Proof/Machine/NoticesHeard.lean ====
section
/-! DEFINITION. The Peer View applies the oldest notice of the Receive Queue (chapter 7). Each command is one kind of notice;
it acts where the oldest notice is of that kind and sender, and leaves the state as it is otherwise (log entry 17). -/

namespace Sys2Proof.Machine

/-! ### Taking the oldest notice (R136, R146) -/

/-- The oldest notice, when it is of the kind (R136). -/
def State.front? (s : State) (kind : Nat) : Option Heard :=
  match s.line.receiveQueue with
  | [] => none
  | h :: _ => if s.lineOn && h.kind == kind then some h else none

/-- The notice leaves the queue (R136). -/
def State.dropFront (s : State) : State := s.setLine { s.line with receiveQueue := s.line.receiveQueue.drop 1 }

/-- The notice is an echo: its sender is the station (R146 step 2). -/
def State.isEcho (s : State) (h : Heard) : Bool := h.sender == s.unit.address

/-- An ORPHAN entry of the sender becomes LIVE, its missed count 0 (R114). -/
def HoldEntry.revived (a : Nat) (e : HoldEntry) : HoldEntry :=
  if e.origin = a ∧ e.orphan then { e with orphan := false, missed := 0 } else e

/-- The lists when a row is made valid (R108, R114, R146 step 3). -/
def Lists.revive (l : Lists) (a : Nat) : Lists :=
  let l1 := if l.stop a = .orphan then l.setStop a .live else l
  { l1 with holds := l1.holds.map (HoldEntry.revived a) }

/-- Steps 3 and 4 of R146 for the sender `a`. -/
def State.validate (s : State) (a : Nat) : State :=
  let r := s.view.row a
  let s1 := if r.valid then s else s.setLists (s.lists.revive a)
  let r1 := if r.valid then r
    else { PeerRow.reset with valid := true, stop := s.lists.stop a != .absent, lastHeard := r.lastHeard }
  s1.setView (s1.view.setRow a { r1 with missed := 0, lastHeard := s.unit.clock })

/-- Changes the row of `a`. -/
def State.modRow (s : State) (a : Nat) (f : PeerRow → PeerRow) : State :=
  s.setView (s.view.setRow a (f (s.view.row a)))

/-- The oldest notice of a kind from another station whose form fits is taken, its sender's row made valid, and its rule
applied; an echo, or a notice whose form fails, is taken and changes nothing else (R146). -/
def State.hear {α : Type} (s : State) (kind : Nat) (form : List Byte → Option α) (act : Nat → α → State → State) : State :=
  match s.front? kind with
  | none => s
  | some h =>
    match form h.body with
    | none => s.dropFront
    | some x => if s.isEcho h then s.dropFront else act h.sender x (s.dropFront.validate h.sender)

/-- As `hear`, for a kind whose echo is a command of its own (R146). -/
def State.hearOther {α : Type} (s : State) (kind : Nat) (form : List Byte → Option α) (act : Nat → α → State → State) :
    State :=
  match s.front? kind with
  | none => s
  | some h =>
    if s.isEcho h then s
    else
      match form h.body with
      | none => s.dropFront
      | some x => act h.sender x (s.dropFront.validate h.sender)

/-- The echo of a kind of its own (R146 step 2). -/
def State.hearEcho {α : Type} (s : State) (kind : Nat) (form : List Byte → Option α) (act : α → State → State) : State :=
  match s.front? kind with
  | none => s
  | some h =>
    if s.isEcho h then
      match form h.body with
      | none => s.dropFront
      | some x => act x s.dropFront
    else s

/-- The lane of a row. -/
def PeerRow.lane (r : PeerRow) : LaneId → PeerLane
  | .a => r.laneA | .b => r.laneB

def PeerRow.setLane (r : PeerRow) (ℓ : LaneId) (x : PeerLane) : PeerRow :=
  match ℓ with
  | .a => { r with laneA := x }
  | .b => { r with laneB := x }

/-! ### STOP (R107, R162) -/

/-- The stop set takes the station in or out, and the cause STOP reaches every channel (R93, R107). -/
def State.takeStop (s : State) (a : Nat) (assert : Bool) : State :=
  (s.setLists (s.lists.setStop a (if assert then .live else .absent))).applyCauses

/-- A STOP heard (R107, R162). -/
def actStop (a : Nat) (assert : Bool) (s : State) : State :=
  (s.modRow a (fun r => { r with stop := assert })).takeStop a assert

/-- STOP-HEARD (R107, R162). The own echo is not applied (R106). -/
def execStopHeard (s : State) : Result := .next (s.hear 0 parseStop actStop)

/-! ### CONTEST (R156) -/

/-- A lane meets a CONTEST for a driver (R13, R21, R156). -/
def State.contestLane (d : Nat) (s : State) (ℓ : LaneId) : State :=
  match (s.lane ℓ).claim with
  | some c => if c.driver = d then s.withdrawClaim ℓ .driverElsewhere else s
  | none =>
    let s1 := match (s.lane ℓ).reclaim with
      | some r => if r.claim.driver = d then s.failReclaim ℓ else s
      | none => s
    if (s1.lane ℓ).driver? = some d then s1.setHold ℓ .duplicate duplicateFinding else s1

/-- A CONTEST heard (R156). -/
def actContest (_ : Nat) (d : Nat) (s : State) : State := State.contestLane d (State.contestLane d s .a) .b

/-- CONTEST-HEARD (R156). The own echo is ignored. -/
def execContestHeard (s : State) : Result := .next (s.hear 1 parseContest actContest)

/-! ### CLAIM (R152 to R154) -/

/-- The lane of the row after a CLAIM (R152). -/
def PeerLane.claimed (l : PeerLane) (reclaim : Bool) (d v : Nat) : PeerLane :=
  if !reclaim then ⟨.claiming, some d, some v, none⟩
  else
    match l.state with
    | .opened => { l with reclaim := some d }
    | .loading => { l with reclaim := some d }
    | .claiming => ⟨.opened, l.driver, some v, some d⟩
    | .vacant => ⟨.opened, none, some v, some d⟩

/-- A lane that holds the driver settled contests the CLAIM (R153). -/
def State.contestSettled (s : State) (ℓ : LaneId) (d : Nat) : State :=
  if (s.lane ℓ).driver? = some d then s.queueContest ℓ d else s

/-- A lane meets another station's CLAIM for a driver (R11, R12, R21, R153). -/
def State.claimLane (d : Nat) (s : State) (ℓ : LaneId) : State :=
  match (s.lane ℓ).claim with
  | some c =>
    if c.driver ≠ d then s
    else if c.step = .heard then s.queueContest ℓ d
    else s.withdrawClaim ℓ .driverElsewhere
  | none =>
    match (s.lane ℓ).reclaim with
    | some r =>
      if r.claim.driver ≠ d then s.contestSettled ℓ d
      else if r.claim.step = .heard then s.queueContest ℓ d
      else (s.failReclaim ℓ).contestSettled ℓ d
    | none => s.contestSettled ℓ d

/-- A CLAIM heard (R122, R152, R153). -/
def actClaim (a : Nat) (x : LaneId × Bool × Nat × Nat) (s : State) : State :=
  let s1 := s.modRow a (fun r => r.setLane x.1 ((r.lane x.1).claimed x.2.1 x.2.2.1 x.2.2.2))
  let s2 := State.claimLane x.2.2.1 (State.claimLane x.2.2.1 s1 .a) .b
  s2.matchWatch x.2.2.1 (some x.2.2.2) ⟨a, x.1, .claim, s.minute⟩

/-- CLAIM-HEARD (R152, R153). -/
def execClaimHeard (s : State) : Result := .next (s.hearOther 2 parseClaim actClaim)

/-- The progress takes the echo: SENT, or WAITING or QUEUED with the announced flag set (R11, R154). -/
def Claim.takesEcho (c : Claim) (d : Nat) : Bool :=
  c.driver == d && (c.step == .sent || ((c.step == .waiting || c.step == .queued) && c.announced))

/-- The own CLAIM's echo starts the window; a repeat still in the queue is removed (R11, R154). A begun CLAIM met while the
progress is WAITING belongs to an earlier claim and stays (R130). -/
def actClaimEcho (x : LaneId × Bool × Nat × Nat) (s : State) : State :=
  match (s.lane x.1).progress? with
  | none => s
  | some c =>
    if c.takesEcho x.2.2.1 then
      (s.removeNotice (.claim x.1)).modLane x.1
        (fun l => l.modProgress (fun c => { c with step := .heard, timer := some s.windowMs }))
    else s

/-- CLAIM-ECHO (R11, R154). -/
def execClaimEcho (s : State) : Result := .next (s.hearEcho 2 parseClaim actClaimEcho)

/-! ### DRAW (R159 to R161) -/

/-- Takes the pair of a channel out of the row's draw set. -/
def PeerRow.dropDraw (r : PeerRow) (c : ChanId) : PeerRow := { r with draws := Assoc.put none c.index none r.draws }

/-- Adds a pair to the row's draw set. -/
def PeerRow.addDraw (r : PeerRow) (c : ChanId) (h : Nat) : PeerRow :=
  { r with draws := Assoc.put none c.index (some h) r.draws }

/-- A DRAW-ON heard is judged (R159); a DRAW-OFF takes the channel's pair out (R161). -/
def actDraw (a : Nat) (x : Bool × ChanId × Nat) (s : State) : State :=
  let s1 := s.modRow a (fun r => r.dropDraw x.2.1)
  let s2 := if x.1 && decide (s1.viewCount x.2.2 < s.headerLimit x.2.2) then
      s1.modRow a (fun r => r.addDraw x.2.1 x.2.2)
    else s1
  State.reportFalls s s2

/-- A DRAW of the direction: its own form check, so that a DRAW-ON row never takes a DRAW-OFF. -/
def parseDrawDir (on : Bool) (body : List Byte) : Option (Bool × ChanId × Nat) :=
  match parseDraw body with
  | some x => if x.1 = on then some x else none
  | none => none

/-- The oldest notice is a well-formed DRAW of the other direction, or HOLD of the other action: it belongs to another
command. -/
def State.frontIs (s : State) (kind : Nat) (p : List Byte → Bool) : Bool :=
  match s.front? kind with
  | some h => p h.body
  | none => false

/-- DRAW-ON-HEARD (R159). -/
def execDrawOnHeard (s : State) : Result :=
  .next (if s.frontIs 3 (fun b => (parseDrawDir false b).isSome) then s else s.hearOther 3 parseDraw actDraw)

/-- DRAW-OFF-HEARD (R161). The own echo changes nothing in the view. -/
def execDrawOffHeard (s : State) : Result :=
  .next (if s.frontIs 3 (fun b => (parseDrawDir true b).isSome) then s else s.hear 3 parseDraw actDraw)

/-- A grant reaches the channel (R90). -/
def State.grant (s : State) (c : ChanId) : State :=
  if (s.chan c).state = .pouring ∧ (s.chan c).phase = some .wait then
    if (s.chan c).draw = .returning then s
    else
      (s.removeNotice (.draw c)).modChan c (fun ch =>
        { ch with draw := .granted, phase := some .full, permit := .high })
  else if (s.chan c).draw = .none then s.returnDraw c
  else s

/-- A void reaches the channel (R90). DESIGN CHOICE (log entry 27): a void met in ASKED leaves the repeat DRAW-ON waiting in the
Send Queue, R90 removing it at a grant alone. -/
def State.void (s : State) (c : ChanId) : State :=
  if (s.chan c).state = .pouring ∧ (s.chan c).phase = some .wait ∧ (s.chan c).draw ≠ .returning then
    s.modChan c (fun ch => { ch with draw := .none })
  else s

/-- The own DRAW-ON's echo is judged (R90, R160). -/
def actDrawEcho (x : Bool × ChanId × Nat) (s : State) : State :=
  if (s.chan x.2.1).grant then s
  else if s.viewCount x.2.2 < s.headerLimit x.2.2 then s.grant x.2.1
  else s.void x.2.1

/-- DRAW-ON-ECHO (R90, R160). -/
def execDrawOnEcho (s : State) : Result :=
  .next (if s.frontIs 3 (fun b => (parseDrawDir false b).isSome) then s else s.hearEcho 3 parseDraw actDrawEcho)

/-! ### RELEASE (R157, R158) -/

/-- The lane of the row after a RELEASE (R157). -/
def PeerLane.released (l : PeerLane) (form : ReleaseForm) (d : Nat) : PeerLane :=
  match form with
  | .endOfLoad => .blank
  | .handover =>
    match l.reclaim with
    | some x => { l with driver := some x, reclaim := none }
    | none => if l.driver = some d then { l with driver := none } else l
  | .withdrawn =>
    if l.state = .claiming ∧ l.driver = some d then .blank
    else if l.reclaim = some d then { l with reclaim := none }
    else l

/-- Figures heard are stored (R58, R59). -/
def State.storeFigures (s : State) (d : Nat) (f : Option FigureSet) : State :=
  match f with
  | some f => s.setReleased (storeReleased d f s.released)
  | none => s

/-- A RELEASE heard (R157, R158). -/
def actRelease (a : Nat) (x : LaneId × ReleaseForm × Nat × Option FigureSet) (s : State) : State :=
  let s1 := s.modRow a (fun r => r.setLane x.1 ((r.lane x.1).released x.2.1 x.2.2.1))
  (s1.storeFigures x.2.2.1 x.2.2.2).matchWatch x.2.2.1 none ⟨a, x.1, .release, s.minute⟩

/-- RELEASE-HEARD (R157, R158). -/
def execReleaseHeard (s : State) : Result := .next (s.hearOther 4 parseRelease actRelease)

/-- RELEASE-ECHO: it is applied to the Released-Driver Table and to nothing else (R158). -/
def execReleaseEcho (s : State) : Result :=
  .next (s.hearEcho 4 parseRelease (fun x t => t.storeFigures x.2.2.1 x.2.2.2))

/-! ### HOLD (R111, R112, R162) -/

/-- The entry after a heard ISSUE (R111). -/
def HoldEntry.reissue (e : HoldEntry) (kind : KeyKind) (key reason : Nat) : HoldEntry :=
  { e with kind := kind, key := key, reason := reason, orphan := false, missed := 0 }

/-- A HOLD ISSUE heard (R111). -/
def State.hearIssue (s : State) (a n : Nat) (kind : KeyKind) (key reason : Nat) : State :=
  match s.lists.hold? a n with
  | some e =>
    let s1 := s.setLists { s.lists with
      holds := s.lists.holds.map (fun x => if x.isFor a n then x.reissue kind key reason else x) }
    if e.kind = kind ∧ e.key = key then s1 else s1.matchLanes
  | none =>
    if s.lists.holds.length < Config.holdMax then
      (s.setLists { s.lists with holds := s.lists.holds ++ [⟨a, n, kind, key, reason, false, 0⟩] }).matchLanes
    else s.attend .holdListFull

/-- A HOLD CANCEL heard (R112). -/
def State.hearCancel (s : State) (a n : Nat) : State :=
  match s.lists.hold? a n with
  | some _ => (s.setLists (s.lists.dropHold a n)).matchLanes
  | none => s

/-- A HOLD heard (R111, R112, R162). -/
def actHold (a : Nat) (x : Bool × Nat × KeyKind × Nat × Nat) (s : State) : State :=
  if x.1 then s.hearIssue a x.2.1 x.2.2.1 x.2.2.2.1 x.2.2.2.2 else s.hearCancel a x.2.1

/-- A HOLD body of the action. -/
def isHold (issue : Bool) (body : List Byte) : Bool :=
  match parseHold body with
  | some x => x.1 == issue
  | none => false

/-- HOLD-ISSUE-HEARD (R111). The own echo is not applied (R112). -/
def execHoldIssueHeard (s : State) : Result :=
  .next (if s.frontIs 5 (isHold false) then s else s.hear 5 parseHold actHold)

/-- HOLD-CANCEL-HEARD (R112). The own echo is not applied. -/
def execHoldCancelHeard (s : State) : Result :=
  .next (if s.frontIs 5 (isHold true) then s else s.hear 5 parseHold actHold)

/-! ### STATUS (R150, R151) -/

/-- A LIVE entry of the origin is one period older (R113). -/
def HoldEntry.age (a : Nat) (e : HoldEntry) : HoldEntry :=
  if e.origin = a ∧ e.orphan = false then { e with missed := min (e.missed + 1) 3 } else e

/-- A lane reports the driver OPEN or LOADING (R151). -/
def PeerLane.settles (l : PeerLane) (d : Nat) : Bool := (l.state == .opened || l.state == .loading) && l.driver == some d

/-- An own OPEN or LOADING lane is tested for a duplicate (R151). -/
def State.duplicateTest (x : StatusReport) (s : State) (ℓ : LaneId) : State :=
  match (s.lane ℓ).driver? with
  | none => s
  | some d =>
    if ((s.lane ℓ).state = .opened ∨ (s.lane ℓ).state = .loading) ∧ (x.laneA.settles d ∨ x.laneB.settles d) then
      s.setHold ℓ .duplicate duplicateFinding
    else s

/-- A STATUS heard (R107, R113, R150, R151). A hold entry whose count reaches 3 lapses in a step of its own (log entry 16). -/
def actStatus (a : Nat) (x : StatusReport) (s : State) : State :=
  let s1 := s.modRow a (fun r =>
    { r with
      laneA := x.laneA
      laneB := x.laneB
      draws := x.draws })
  let s2 := State.reportFalls s s1
  let s3 := (s2.modRow a (fun r => { r with stop := x.stop, resync := x.resync })).takeStop a x.stop
  let s4 := s3.setLists { s3.lists with holds := s3.lists.holds.map (HoldEntry.age a) }
  State.duplicateTest x (State.duplicateTest x s4 .a) .b

/-- STATUS-HEARD (R150, R151). The own echo is not applied (R149). -/
def execStatusHeard (s : State) : Result := .next (s.hear 6 parseStatus actStatus)

end Sys2Proof.Machine
end

