-- ==== Sys2Proof/Machine/LogEvents.lean ====
section
/-! DEFINITION. The log memory's own events (chapter 8), the end of the start scan, and the resets from outside (chapter 10). -/

namespace Sys2Proof.Machine

/-! ### Stage writes (R177 to R180) -/

/-- The memory is free to take a queued stage: READY, nothing being written, no mark write pending and no read waiting (R178,
R183, R186). -/
def State.memoryFree (s : State) : Bool :=
  !s.inReset && s.log.state == .ready && s.log.writing.isNone && s.log.pendingMark.isNone && s.port.reading.isNone

/-- LOG-WRITE-START: the front entry's write begins under the slot's next stage number (R178). -/
def execLogWriteStart (s : State) : Result :=
  .next (match s.log.queue with
    | [] => s
    | w :: _ =>
      if s.memoryFree then
        s.setLog { s.log with writing := some (.stage (stageArea s.log.memory w) (s.log.slot w.slot).next false) }
      else s)

/-- The slot's entry after a stage is written: the next stage number rises, and an OUTCOME closes it (R178). -/
def SlotEntry.written (e : SlotEntry) (number : Nat) (kind : StageKind) : SlotEntry :=
  { e with next := number + 1, state := if kind = .outcome then .closed else e.state }

/-- The log after a write that verified (R178). -/
def DeliveryLog.stored (l : DeliveryLog) (w : StageWrite) (area number : Nat) : DeliveryLog :=
  let l1 := l.setSlot w.slot ((l.slot w.slot).written number w.stage.kind)
  { l1 with
    memory := storeStage l.memory w area (w.image number)
    queue := l.queue.drop 1
    writing := none }

/-- The lane's outcome stage has been written (R27). -/
def State.outcomeWritten (s : State) (ℓ : LaneId) : State :=
  (s.modLane ℓ (fun l => { l with closing := l.closing.map (fun c => { c with written := true }) })).testClosing ℓ

/-- The owner of a written stage is told (R178). -/
def State.tellWritten (s : State) (w : StageWrite) : State :=
  match w.owner with
  | .channel c => s.finishIfEnded c
  | .lane ℓ => if w.stage.kind = .outcome then (s.passBacklog ℓ).outcomeWritten ℓ else s.passBacklog ℓ

/-- What the memory holds after a failed verify: the area holds anything but what was written, and a HEADER's slot is left as
far as its clearing had gone (R169, R178, R182; log entry 6). -/
def failedMemory (n : Nat) (m : Assoc (List Byte)) (w : StageWrite) (area : Nat) (image : List Byte) : Assoc (List Byte) :=
  let key := areaKey w.slot area
  let m1 := if w.stage.kind = .header then cutAreas n (slotKeys w.slot) m else m
  writeArea m1 key (failedImage n key (readArea m key) image)

/-- A verify has failed: the same stage is written once more, and a second failure is LOG_FAULT (R179, R180). -/
def State.verifyFailed (s : State) (w : StageWrite) (area number : Nat) (second : Bool) : State :=
  let s1 := (s.setLog { s.log with
    writing := some (.stage area number true)
    memory := failedMemory s.freeCount s.log.memory w area (w.image number) }).nextFree
  if second then s1.enterLogFault else s1

/-- LOG-WRITE-COMPLETE: the write in progress ends its verify (R178 to R180). -/
def execLogWriteComplete (verified : Bool) (s : State) : Result :=
  .next (match s.log.writing, s.log.queue with
    | some (.stage area number second), w :: _ =>
      if s.inReset then s
      else if verified then (s.setLog (s.log.stored w area number)).tellWritten w
      else s.verifyFailed w area number second
    | _, _ => s)

/-! ### The trim mark (R186) -/

/-- TRIM-MARK-WRITE-START: ahead of any queued stage and any waiting read (R186). -/
def execTrimMarkWriteStart (s : State) : Result :=
  .next (match s.log.pendingMark with
    | none => s
    | some v =>
      if s.inReset ∨ s.log.writing.isSome then s
      else s.setLog { s.log with writing := some (.mark v false), pendingMark := none })

/-- The number of the trim mark's own place, for the free value: one past the last area. -/
def markKey : Nat := Config.slots * areasPerSlot

/-- What the mark's place holds after its write has failed twice (log entry 6). -/
def failedMark (n : Nat) (former written : List Byte) : List Byte :=
  let x := match Config.cutShort n markKey with
    | .blank => []
    | .former => former
    | .torn image => image.take 6
  if x = written then [] else x

/-- TRIM-MARK-WRITE-COMPLETE: one rewrite, then LOG_FAULT (R186). -/
def execTrimMarkWriteComplete (verified : Bool) (s : State) : Result :=
  .next (match s.log.writing with
    | some (.mark v second) =>
      if s.inReset then s
      else if verified then s.setLog { s.log with writing := none, markImage := markBytes v }
      else if second then
        ((s.setLog { s.log with markImage := failedMark s.freeCount s.log.markImage (markBytes v) }).nextFree).enterLogFault
      else s.setLog { s.log with writing := some (.mark v true) }
    | _ => s)

/-! ### The end of the start scan (R190, R204) -/

/-- The scan's results stand, with the attention they add (R187, R190). -/
def State.endScan (s : State) (fault : Option Nat) : State :=
  let s1 := (s.setLog (s.log.scanned s.freeCount fault)).nextFree
  let s2 := if s1.log.freeSlots < Config.lowSlots then s1.attend .logLow else s1
  if s2.log.state = .logFault then s2.attend .logFault else s2

/-- SCAN-END: a STARTING station enters JOINING (R190, R204). -/
def execScanEnd (fault : Option Nat) (s : State) : Result :=
  .next (if s.inReset ∨ s.log.state ≠ .scanning then s
    else if s.unit.state = .starting then (s.endScan fault).enterJoining
    else s.endScan fault)

/-! ### Resets from outside (R209) -/

/-- POWER-ON (R205, R209). A reset pin held at power-on stays held. -/
def execPowerOn (address : Fin 32) (rate : Fin 4) (s : State) : Result := .next ((s.showStraps address rate).powerOnReset)

/-- RESET-PIN: step 1 of R209, in which the station stays while the pin is held. -/
def execResetPin (s : State) : Result :=
  .next (if s.inReset then s else s.outputsOff.setPins { s.pins with resetAsserted := true })

/-- RESET-PIN-RELEASE: steps 2 to 6 of R209. -/
def execResetPinRelease (address : Fin 32) (rate : Fin 4) (s : State) : Result :=
  .next (if s.inReset then
      ((s.setPins { s.pins with resetAsserted := false }).showStraps address rate).pinReset
    else s)

end Sys2Proof.Machine
end

