-- ==== Sys2Proof/Machine/Clock.lean ====
section
/-! DEFINITION. The time base (R208): what one bit time of the rack line (R126) does while no command waits, and the whole ms that
such bit times make up. Timers count down and stop at 0; the commands named for their expiry say that they have run out (log
entry 15). -/

namespace Sys2Proof.Machine

/-- A running timer 1 ms later. -/
def countDown (t : Option Nat) : Option Nat := t.map (· - 1)

def Claim.tick (c : Claim) : Claim := { c with timer := countDown c.timer }

/-- The lane's timers: the dispatch pulse and the claim windows (R11, R28). -/
def Lane.tick (l : Lane) : Lane :=
  { l with
    pulse := countDown l.pulse
    claim := l.claim.map Claim.tick
    reclaim := l.reclaim.map (fun r => { r with claim := r.claim.tick }) }

/-- The channel's timers (R101, R102). -/
def Channel.tick (ch : Channel) : Channel := { ch with noFlow := countDown ch.noFlow, settle := countDown ch.settle }

/-- The Peer View's timers (R147, R163, R164). -/
def PeerView.tick (v : PeerView) : PeerView :=
  { v with resync := countDown v.resync, joining := countDown v.joining, refresh := countDown v.refresh }

/-- The minute's phase moves while the clock runs (R208). -/
def StationUnit.tick (u : StationUnit) : StationUnit :=
  if u.clock.isSome then { u with phase := min (u.phase + 1) Config.minuteMs } else u

/-- One bit time of the port. A break is driven dominant to its end (R133). Otherwise the line reads recessive and the idle count
rises, the characters that others drive being commands of their own (R131; log entry 15). It stays while the own notice is driven,
and at 11 while a notice is assembled: the twelfth bit time is the loss that ends the partial notice (R139). -/
def RackLine.tick (l : RackLine) : RackLine :=
  if l.breakLeft ≠ 0 then { l with breakLeft := l.breakLeft - 1, idleCount := 0 }
  else if l.transmitter.isSome then l
  else if l.receiver.isSome ∧ Config.idleGap ≤ l.idleCount + 1 then l
  else { l with idleCount := l.idleCount + 1 }

/-- The port one bit time later, where it runs (R126). -/
def State.tickLine (s : State) : State := if s.lineOn then s.setLine s.line.tick else s

/-- 1 ms of the time base: the timers and the minute's phase. -/
def State.tickMs (s : State) : State :=
  { s with
    lanes := ⟨s.lanes.a.tick, s.lanes.b.tick⟩
    channels := s.channels.map Channel.tick
    view := s.view.tick
    unit := s.unit.tick }

/-- What lies beyond the last whole ms after one more bit time, in parts of a ms. -/
def State.nextParts (s : State) : Nat := s.unit.subMs + Config.bitParts s.unit.rate

/-- One bit time with no command waiting, and the ms that it completes. While the reset pin is held nothing runs (R209). -/
def State.tick (s : State) : State :=
  if s.inReset then s
  else if s.nextParts < Config.msParts then s.tickLine.setUnit { s.unit with subMs := s.nextParts }
  else (s.tickLine.setUnit { s.unit with subMs := s.nextParts - Config.msParts }).tickMs

end Sys2Proof.Machine
end

