-- ==== Sys2Proof/Machine/Dispatch.lean ====
section
/-! DEFINITION. One arm per command: its meaning. -/

namespace Sys2Proof.Machine

def exec (i : Instr) (s : State) : Host.Outcome State Fault Refusal :=
  match i with
  | .checkIn ops check => Sys2Proof.Machine.execCheckIn ops check s
  | .reDriver ops check => Sys2Proof.Machine.execReDriver ops check s
  | .paperEntry ops check => Sys2Proof.Machine.execPaperEntry ops check s
  | .paperDelete ops check => Sys2Proof.Machine.execPaperDelete ops check s
  | .papersClose ops check => Sys2Proof.Machine.execPapersClose ops check s
  | .amend ops check => Sys2Proof.Machine.execAmend ops check s
  | .release ops check => Sys2Proof.Machine.execRelease ops check s
  | .void ops check => Sys2Proof.Machine.execVoid ops check s
  | .unholdWatch ops check => Sys2Proof.Machine.execUnholdWatch ops check s
  | .pourArm ops check => Sys2Proof.Machine.execPourArm ops check s
  | .pourStop ops check => Sys2Proof.Machine.execPourStop ops check s
  | .pourResume ops check => Sys2Proof.Machine.execPourResume ops check s
  | .holdIssue ops check => Sys2Proof.Machine.execHoldIssue ops check s
  | .holdCancel ops check => Sys2Proof.Machine.execHoldCancel ops check s
  | .holdDrop ops check => Sys2Proof.Machine.execHoldDrop ops check s
  | .stopDrop ops check => Sys2Proof.Machine.execStopDrop ops check s
  | .watchSet ops check => Sys2Proof.Machine.execWatchSet ops check s
  | .watchClear ops check => Sys2Proof.Machine.execWatchClear ops check s
  | .readLane ops check => Sys2Proof.Machine.execReadLane ops check s
  | .readChannel ops check => Sys2Proof.Machine.execReadChannel ops check s
  | .readPeers ops check => Sys2Proof.Machine.execReadPeers ops check s
  | .readAttention ops check => Sys2Proof.Machine.execReadAttention ops check s
  | .readLog ops check => Sys2Proof.Machine.execReadLog ops check s
  | .readCause ops check => Sys2Proof.Machine.execReadCause ops check s
  | .trimLog ops check => Sys2Proof.Machine.execTrimLog ops check s
  | .configure ops check => Sys2Proof.Machine.execConfigure ops check s
  | .restart ops check => Sys2Proof.Machine.execRestart ops check s
  | .unknownRequest code => Sys2Proof.Machine.execUnknownRequest code s
  | .exchangeEnd address rate => Sys2Proof.Machine.execExchangeEnd address rate s
  | .answerDelivered => Sys2Proof.Machine.execAnswerDelivered s
  | .logReadServed address rate => Sys2Proof.Machine.execLogReadServed address rate s
  | .meterPulse ch => Sys2Proof.Machine.execMeterPulse ch s
  | .startPress ch => Sys2Proof.Machine.execStartPress ch s
  | .couplerLost ch => Sys2Proof.Machine.execCouplerLost ch s
  | .groundChange lane level => Sys2Proof.Machine.execGroundChange lane level s
  | .probeChange lane level => Sys2Proof.Machine.execProbeChange lane level s
  | .stopInputChange asserted => Sys2Proof.Machine.execStopInputChange asserted s
  | .powerOn address rate => Sys2Proof.Machine.execPowerOn address rate s
  | .resetPin => Sys2Proof.Machine.execResetPin s
  | .resetPinRelease address rate => Sys2Proof.Machine.execResetPinRelease address rate s
  | .scanEnd fault => Sys2Proof.Machine.execScanEnd fault s
  | .claimTimerExpiry lane => Sys2Proof.Machine.execClaimTimerExpiry lane s
  | .reclaimTimerExpiry lane => Sys2Proof.Machine.execReclaimTimerExpiry lane s
  | .dispatchPulseEnd lane => Sys2Proof.Machine.execDispatchPulseEnd lane s
  | .noFlowTimerExpiry ch => Sys2Proof.Machine.execNoFlowTimerExpiry ch s
  | .settleTimerExpiry ch => Sys2Proof.Machine.execSettleTimerExpiry ch s
  | .refreshTick => Sys2Proof.Machine.execRefreshTick s
  | .rowExpiry address => Sys2Proof.Machine.execRowExpiry address s
  | .resyncTimerExpiry => Sys2Proof.Machine.execResyncTimerExpiry s
  | .joiningTimerExpiry => Sys2Proof.Machine.execJoiningTimerExpiry s
  | .minuteAdvance => Sys2Proof.Machine.execMinuteAdvance s
  | .dutyNear lane => Sys2Proof.Machine.execDutyNear lane s
  | .dutyTimerExpiry lane => Sys2Proof.Machine.execDutyTimerExpiry lane s
  | .releasedDriverAgeing driver => Sys2Proof.Machine.execReleasedDriverAgeing driver s
  | .holdEntryLapse origin order => Sys2Proof.Machine.execHoldEntryLapse origin order s
  | .noticeReceived length body check => Sys2Proof.Machine.execNoticeReceived length body check s
  | .receiveLoss kind => Sys2Proof.Machine.execReceiveLoss kind s
  | .stopHeard => Sys2Proof.Machine.execStopHeard s
  | .contestHeard => Sys2Proof.Machine.execContestHeard s
  | .claimHeard => Sys2Proof.Machine.execClaimHeard s
  | .claimEcho => Sys2Proof.Machine.execClaimEcho s
  | .drawOnHeard => Sys2Proof.Machine.execDrawOnHeard s
  | .drawOnEcho => Sys2Proof.Machine.execDrawOnEcho s
  | .drawOffHeard => Sys2Proof.Machine.execDrawOffHeard s
  | .releaseHeard => Sys2Proof.Machine.execReleaseHeard s
  | .releaseEcho => Sys2Proof.Machine.execReleaseEcho s
  | .holdIssueHeard => Sys2Proof.Machine.execHoldIssueHeard s
  | .holdCancelHeard => Sys2Proof.Machine.execHoldCancelHeard s
  | .statusHeard => Sys2Proof.Machine.execStatusHeard s
  | .transmitStart => Sys2Proof.Machine.execTransmitStart s
  | .arbitrationLost => Sys2Proof.Machine.execArbitrationLost s
  | .noticeBegun => Sys2Proof.Machine.execNoticeBegun s
  | .abort => Sys2Proof.Machine.execAbort s
  | .sentWhole => Sys2Proof.Machine.execSentWhole s
  | .logWriteStart => Sys2Proof.Machine.execLogWriteStart s
  | .logWriteComplete verified => Sys2Proof.Machine.execLogWriteComplete verified s
  | .trimMarkWriteStart => Sys2Proof.Machine.execTrimMarkWriteStart s
  | .trimMarkWriteComplete verified => Sys2Proof.Machine.execTrimMarkWriteComplete verified s
  | .couplerConnected ch => Sys2Proof.Machine.execCouplerConnected ch s
  | .startButtonRelease ch => Sys2Proof.Machine.execStartButtonRelease ch s
  | .headerCharacterReceived header => Sys2Proof.Machine.execHeaderCharacterReceived header s
  | .breakReceived => Sys2Proof.Machine.execBreakReceived s
  | .exchangeBegin => Sys2Proof.Machine.execExchangeBegin s

end Sys2Proof.Machine
end

