-- ==== Sys2Proof/Laws/State.lean ====
section
/-! SUPPORT. The lemmas of State's updates: one per field per update, and reading back what was written. -/

namespace Sys2Proof.Machine

variable (s : State)

/-! ### Lanes and channels -/

@[simp] theorem Lanes.get_set_same (l : Lanes) (ℓ : LaneId) (x : Lane) : (l.set ℓ x).get ℓ = x := by cases ℓ <;> rfl

theorem Lanes.get_set_ne (l : Lanes) {ℓ m : LaneId} (x : Lane) (h : m ≠ ℓ) : (l.set ℓ x).get m = l.get m := by
  cases ℓ <;> cases m <;> simp_all [Lanes.set, Lanes.get]

@[simp] theorem PerChannel.get_set_same {α : Type} (p : PerChannel α) (c : ChanId) (x : α) : (p.set c x).get c = x := by
  cases c <;> rfl

theorem PerChannel.get_set_ne {α : Type} (p : PerChannel α) {c d : ChanId} (x : α) (h : d ≠ c) :
    (p.set c x).get d = p.get d := by
  cases c <;> cases d <;> first | rfl | exact absurd rfl h

@[simp] theorem PerChannel.get_map {α β : Type} (f : α → β) (p : PerChannel α) (c : ChanId) :
    (p.map f).get c = f (p.get c) := by cases c <;> rfl

@[simp] theorem PerChannel.get_all {α : Type} (x : α) (c : ChanId) : (PerChannel.all x).get c = x := by cases c <;> rfl

@[simp] theorem State.lane_setLane_same (ℓ : LaneId) (x : Lane) : (s.setLane ℓ x).lane ℓ = x := by
  simp [State.lane, State.setLane]

theorem State.lane_setLane_ne {ℓ m : LaneId} (x : Lane) (h : m ≠ ℓ) : (s.setLane ℓ x).lane m = s.lane m := by
  simp [State.lane, State.setLane, Lanes.get_set_ne _ _ h]

@[simp] theorem State.lane_modLane_same (ℓ : LaneId) (f : Lane → Lane) : (s.modLane ℓ f).lane ℓ = f (s.lane ℓ) := by
  simp [State.modLane]

theorem State.lane_modLane_ne {ℓ m : LaneId} (f : Lane → Lane) (h : m ≠ ℓ) : (s.modLane ℓ f).lane m = s.lane m := by
  simp [State.modLane, State.lane_setLane_ne _ _ h]

@[simp] theorem State.chan_setChan_same (c : ChanId) (x : Channel) : (s.setChan c x).chan c = x := by
  simp [State.chan, State.setChan]

theorem State.chan_setChan_ne {c d : ChanId} (x : Channel) (h : d ≠ c) : (s.setChan c x).chan d = s.chan d := by
  simp [State.chan, State.setChan, PerChannel.get_set_ne _ _ h]

@[simp] theorem State.chan_modChan_same (c : ChanId) (f : Channel → Channel) : (s.modChan c f).chan c = f (s.chan c) := by
  simp [State.modChan]

theorem State.chan_modChan_ne {c d : ChanId} (f : Channel → Channel) (h : d ≠ c) :
    (s.modChan c f).chan d = s.chan d := by
  simp [State.modChan, State.chan_setChan_ne _ _ h]

/-! ### One lemma per field per update -/

@[simp] theorem State.setLane_pending (ℓ : LaneId) (x : Lane) : (s.setLane ℓ x).pending = s.pending := rfl
@[simp] theorem State.setLane_pins (ℓ : LaneId) (x : Lane) : (s.setLane ℓ x).pins = s.pins := rfl
@[simp] theorem State.setLane_unit (ℓ : LaneId) (x : Lane) : (s.setLane ℓ x).unit = s.unit := rfl
@[simp] theorem State.setLane_lanes (ℓ : LaneId) (x : Lane) : (s.setLane ℓ x).lanes = s.lanes.set ℓ x := rfl
@[simp] theorem State.setLane_channels (ℓ : LaneId) (x : Lane) : (s.setLane ℓ x).channels = s.channels := rfl
@[simp] theorem State.setLane_released (ℓ : LaneId) (x : Lane) : (s.setLane ℓ x).released = s.released := rfl
@[simp] theorem State.setLane_lists (ℓ : LaneId) (x : Lane) : (s.setLane ℓ x).lists = s.lists := rfl
@[simp] theorem State.setLane_line (ℓ : LaneId) (x : Lane) : (s.setLane ℓ x).line = s.line := rfl
@[simp] theorem State.setLane_view (ℓ : LaneId) (x : Lane) : (s.setLane ℓ x).view = s.view := rfl
@[simp] theorem State.setLane_log (ℓ : LaneId) (x : Lane) : (s.setLane ℓ x).log = s.log := rfl
@[simp] theorem State.setLane_port (ℓ : LaneId) (x : Lane) : (s.setLane ℓ x).port = s.port := rfl
@[simp] theorem State.setLane_attention (ℓ : LaneId) (x : Lane) : (s.setLane ℓ x).attention = s.attention := rfl
@[simp] theorem State.setLane_freeCount (ℓ : LaneId) (x : Lane) : (s.setLane ℓ x).freeCount = s.freeCount := rfl

@[simp] theorem State.modLane_pending (ℓ : LaneId) (f : Lane → Lane) : (s.modLane ℓ f).pending = s.pending := rfl
@[simp] theorem State.modLane_pins (ℓ : LaneId) (f : Lane → Lane) : (s.modLane ℓ f).pins = s.pins := rfl
@[simp] theorem State.modLane_unit (ℓ : LaneId) (f : Lane → Lane) : (s.modLane ℓ f).unit = s.unit := rfl
@[simp] theorem State.modLane_lanes (ℓ : LaneId) (f : Lane → Lane) : (s.modLane ℓ f).lanes = s.lanes.set ℓ (f (s.lane ℓ)) := rfl
@[simp] theorem State.modLane_channels (ℓ : LaneId) (f : Lane → Lane) : (s.modLane ℓ f).channels = s.channels := rfl
@[simp] theorem State.modLane_released (ℓ : LaneId) (f : Lane → Lane) : (s.modLane ℓ f).released = s.released := rfl
@[simp] theorem State.modLane_lists (ℓ : LaneId) (f : Lane → Lane) : (s.modLane ℓ f).lists = s.lists := rfl
@[simp] theorem State.modLane_line (ℓ : LaneId) (f : Lane → Lane) : (s.modLane ℓ f).line = s.line := rfl
@[simp] theorem State.modLane_view (ℓ : LaneId) (f : Lane → Lane) : (s.modLane ℓ f).view = s.view := rfl
@[simp] theorem State.modLane_log (ℓ : LaneId) (f : Lane → Lane) : (s.modLane ℓ f).log = s.log := rfl
@[simp] theorem State.modLane_port (ℓ : LaneId) (f : Lane → Lane) : (s.modLane ℓ f).port = s.port := rfl
@[simp] theorem State.modLane_attention (ℓ : LaneId) (f : Lane → Lane) : (s.modLane ℓ f).attention = s.attention := rfl
@[simp] theorem State.modLane_freeCount (ℓ : LaneId) (f : Lane → Lane) : (s.modLane ℓ f).freeCount = s.freeCount := rfl

@[simp] theorem State.setChan_pending (c : ChanId) (x : Channel) : (s.setChan c x).pending = s.pending := rfl
@[simp] theorem State.setChan_pins (c : ChanId) (x : Channel) : (s.setChan c x).pins = s.pins := rfl
@[simp] theorem State.setChan_unit (c : ChanId) (x : Channel) : (s.setChan c x).unit = s.unit := rfl
@[simp] theorem State.setChan_lanes (c : ChanId) (x : Channel) : (s.setChan c x).lanes = s.lanes := rfl
@[simp] theorem State.setChan_channels (c : ChanId) (x : Channel) : (s.setChan c x).channels = s.channels.set c x := rfl
@[simp] theorem State.setChan_released (c : ChanId) (x : Channel) : (s.setChan c x).released = s.released := rfl
@[simp] theorem State.setChan_lists (c : ChanId) (x : Channel) : (s.setChan c x).lists = s.lists := rfl
@[simp] theorem State.setChan_line (c : ChanId) (x : Channel) : (s.setChan c x).line = s.line := rfl
@[simp] theorem State.setChan_view (c : ChanId) (x : Channel) : (s.setChan c x).view = s.view := rfl
@[simp] theorem State.setChan_log (c : ChanId) (x : Channel) : (s.setChan c x).log = s.log := rfl
@[simp] theorem State.setChan_port (c : ChanId) (x : Channel) : (s.setChan c x).port = s.port := rfl
@[simp] theorem State.setChan_attention (c : ChanId) (x : Channel) : (s.setChan c x).attention = s.attention := rfl
@[simp] theorem State.setChan_freeCount (c : ChanId) (x : Channel) : (s.setChan c x).freeCount = s.freeCount := rfl

@[simp] theorem State.modChan_pending (c : ChanId) (f : Channel → Channel) : (s.modChan c f).pending = s.pending := rfl
@[simp] theorem State.modChan_pins (c : ChanId) (f : Channel → Channel) : (s.modChan c f).pins = s.pins := rfl
@[simp] theorem State.modChan_unit (c : ChanId) (f : Channel → Channel) : (s.modChan c f).unit = s.unit := rfl
@[simp] theorem State.modChan_lanes (c : ChanId) (f : Channel → Channel) : (s.modChan c f).lanes = s.lanes := rfl
@[simp] theorem State.modChan_channels (c : ChanId) (f : Channel → Channel) : (s.modChan c f).channels = s.channels.set c (f (s.chan c)) := rfl
@[simp] theorem State.modChan_released (c : ChanId) (f : Channel → Channel) : (s.modChan c f).released = s.released := rfl
@[simp] theorem State.modChan_lists (c : ChanId) (f : Channel → Channel) : (s.modChan c f).lists = s.lists := rfl
@[simp] theorem State.modChan_line (c : ChanId) (f : Channel → Channel) : (s.modChan c f).line = s.line := rfl
@[simp] theorem State.modChan_view (c : ChanId) (f : Channel → Channel) : (s.modChan c f).view = s.view := rfl
@[simp] theorem State.modChan_log (c : ChanId) (f : Channel → Channel) : (s.modChan c f).log = s.log := rfl
@[simp] theorem State.modChan_port (c : ChanId) (f : Channel → Channel) : (s.modChan c f).port = s.port := rfl
@[simp] theorem State.modChan_attention (c : ChanId) (f : Channel → Channel) : (s.modChan c f).attention = s.attention := rfl
@[simp] theorem State.modChan_freeCount (c : ChanId) (f : Channel → Channel) : (s.modChan c f).freeCount = s.freeCount := rfl

@[simp] theorem State.modRecord_pending (ℓ : LaneId) (f : LoadRecord → LoadRecord) : (s.modRecord ℓ f).pending = s.pending := rfl
@[simp] theorem State.modRecord_pins (ℓ : LaneId) (f : LoadRecord → LoadRecord) : (s.modRecord ℓ f).pins = s.pins := rfl
@[simp] theorem State.modRecord_unit (ℓ : LaneId) (f : LoadRecord → LoadRecord) : (s.modRecord ℓ f).unit = s.unit := rfl
@[simp] theorem State.modRecord_lanes (ℓ : LaneId) (f : LoadRecord → LoadRecord) :
    (s.modRecord ℓ f).lanes = s.lanes.set ℓ { s.lane ℓ with record := (s.lane ℓ).record.map f } := rfl
@[simp] theorem State.modRecord_channels (ℓ : LaneId) (f : LoadRecord → LoadRecord) : (s.modRecord ℓ f).channels = s.channels := rfl
@[simp] theorem State.modRecord_released (ℓ : LaneId) (f : LoadRecord → LoadRecord) : (s.modRecord ℓ f).released = s.released := rfl
@[simp] theorem State.modRecord_lists (ℓ : LaneId) (f : LoadRecord → LoadRecord) : (s.modRecord ℓ f).lists = s.lists := rfl
@[simp] theorem State.modRecord_line (ℓ : LaneId) (f : LoadRecord → LoadRecord) : (s.modRecord ℓ f).line = s.line := rfl
@[simp] theorem State.modRecord_view (ℓ : LaneId) (f : LoadRecord → LoadRecord) : (s.modRecord ℓ f).view = s.view := rfl
@[simp] theorem State.modRecord_log (ℓ : LaneId) (f : LoadRecord → LoadRecord) : (s.modRecord ℓ f).log = s.log := rfl
@[simp] theorem State.modRecord_port (ℓ : LaneId) (f : LoadRecord → LoadRecord) : (s.modRecord ℓ f).port = s.port := rfl
@[simp] theorem State.modRecord_attention (ℓ : LaneId) (f : LoadRecord → LoadRecord) : (s.modRecord ℓ f).attention = s.attention := rfl
@[simp] theorem State.modRecord_freeCount (ℓ : LaneId) (f : LoadRecord → LoadRecord) : (s.modRecord ℓ f).freeCount = s.freeCount := rfl

@[simp] theorem State.setPins_pending (x : Pins) : (s.setPins x).pending = s.pending := rfl
@[simp] theorem State.setPins_pins (x : Pins) : (s.setPins x).pins = x := rfl
@[simp] theorem State.setPins_unit (x : Pins) : (s.setPins x).unit = s.unit := rfl
@[simp] theorem State.setPins_lanes (x : Pins) : (s.setPins x).lanes = s.lanes := rfl
@[simp] theorem State.setPins_channels (x : Pins) : (s.setPins x).channels = s.channels := rfl
@[simp] theorem State.setPins_released (x : Pins) : (s.setPins x).released = s.released := rfl
@[simp] theorem State.setPins_lists (x : Pins) : (s.setPins x).lists = s.lists := rfl
@[simp] theorem State.setPins_line (x : Pins) : (s.setPins x).line = s.line := rfl
@[simp] theorem State.setPins_view (x : Pins) : (s.setPins x).view = s.view := rfl
@[simp] theorem State.setPins_log (x : Pins) : (s.setPins x).log = s.log := rfl
@[simp] theorem State.setPins_port (x : Pins) : (s.setPins x).port = s.port := rfl
@[simp] theorem State.setPins_attention (x : Pins) : (s.setPins x).attention = s.attention := rfl
@[simp] theorem State.setPins_freeCount (x : Pins) : (s.setPins x).freeCount = s.freeCount := rfl

@[simp] theorem State.setUnit_pending (x : StationUnit) : (s.setUnit x).pending = s.pending := rfl
@[simp] theorem State.setUnit_pins (x : StationUnit) : (s.setUnit x).pins = s.pins := rfl
@[simp] theorem State.setUnit_unit (x : StationUnit) : (s.setUnit x).unit = x := rfl
@[simp] theorem State.setUnit_lanes (x : StationUnit) : (s.setUnit x).lanes = s.lanes := rfl
@[simp] theorem State.setUnit_channels (x : StationUnit) : (s.setUnit x).channels = s.channels := rfl
@[simp] theorem State.setUnit_released (x : StationUnit) : (s.setUnit x).released = s.released := rfl
@[simp] theorem State.setUnit_lists (x : StationUnit) : (s.setUnit x).lists = s.lists := rfl
@[simp] theorem State.setUnit_line (x : StationUnit) : (s.setUnit x).line = s.line := rfl
@[simp] theorem State.setUnit_view (x : StationUnit) : (s.setUnit x).view = s.view := rfl
@[simp] theorem State.setUnit_log (x : StationUnit) : (s.setUnit x).log = s.log := rfl
@[simp] theorem State.setUnit_port (x : StationUnit) : (s.setUnit x).port = s.port := rfl
@[simp] theorem State.setUnit_attention (x : StationUnit) : (s.setUnit x).attention = s.attention := rfl
@[simp] theorem State.setUnit_freeCount (x : StationUnit) : (s.setUnit x).freeCount = s.freeCount := rfl

@[simp] theorem State.setReleased_pending (x : List (Nat × FigureSet)) : (s.setReleased x).pending = s.pending := rfl
@[simp] theorem State.setReleased_pins (x : List (Nat × FigureSet)) : (s.setReleased x).pins = s.pins := rfl
@[simp] theorem State.setReleased_unit (x : List (Nat × FigureSet)) : (s.setReleased x).unit = s.unit := rfl
@[simp] theorem State.setReleased_lanes (x : List (Nat × FigureSet)) : (s.setReleased x).lanes = s.lanes := rfl
@[simp] theorem State.setReleased_channels (x : List (Nat × FigureSet)) : (s.setReleased x).channels = s.channels := rfl
@[simp] theorem State.setReleased_released (x : List (Nat × FigureSet)) : (s.setReleased x).released = x := rfl
@[simp] theorem State.setReleased_lists (x : List (Nat × FigureSet)) : (s.setReleased x).lists = s.lists := rfl
@[simp] theorem State.setReleased_line (x : List (Nat × FigureSet)) : (s.setReleased x).line = s.line := rfl
@[simp] theorem State.setReleased_view (x : List (Nat × FigureSet)) : (s.setReleased x).view = s.view := rfl
@[simp] theorem State.setReleased_log (x : List (Nat × FigureSet)) : (s.setReleased x).log = s.log := rfl
@[simp] theorem State.setReleased_port (x : List (Nat × FigureSet)) : (s.setReleased x).port = s.port := rfl
@[simp] theorem State.setReleased_attention (x : List (Nat × FigureSet)) : (s.setReleased x).attention = s.attention := rfl
@[simp] theorem State.setReleased_freeCount (x : List (Nat × FigureSet)) : (s.setReleased x).freeCount = s.freeCount := rfl

@[simp] theorem State.setLists_pending (x : Lists) : (s.setLists x).pending = s.pending := rfl
@[simp] theorem State.setLists_pins (x : Lists) : (s.setLists x).pins = s.pins := rfl
@[simp] theorem State.setLists_unit (x : Lists) : (s.setLists x).unit = s.unit := rfl
@[simp] theorem State.setLists_lanes (x : Lists) : (s.setLists x).lanes = s.lanes := rfl
@[simp] theorem State.setLists_channels (x : Lists) : (s.setLists x).channels = s.channels := rfl
@[simp] theorem State.setLists_released (x : Lists) : (s.setLists x).released = s.released := rfl
@[simp] theorem State.setLists_lists (x : Lists) : (s.setLists x).lists = x := rfl
@[simp] theorem State.setLists_line (x : Lists) : (s.setLists x).line = s.line := rfl
@[simp] theorem State.setLists_view (x : Lists) : (s.setLists x).view = s.view := rfl
@[simp] theorem State.setLists_log (x : Lists) : (s.setLists x).log = s.log := rfl
@[simp] theorem State.setLists_port (x : Lists) : (s.setLists x).port = s.port := rfl
@[simp] theorem State.setLists_attention (x : Lists) : (s.setLists x).attention = s.attention := rfl
@[simp] theorem State.setLists_freeCount (x : Lists) : (s.setLists x).freeCount = s.freeCount := rfl

@[simp] theorem State.setLine_pending (x : RackLine) : (s.setLine x).pending = s.pending := rfl
@[simp] theorem State.setLine_pins (x : RackLine) : (s.setLine x).pins = s.pins := rfl
@[simp] theorem State.setLine_unit (x : RackLine) : (s.setLine x).unit = s.unit := rfl
@[simp] theorem State.setLine_lanes (x : RackLine) : (s.setLine x).lanes = s.lanes := rfl
@[simp] theorem State.setLine_channels (x : RackLine) : (s.setLine x).channels = s.channels := rfl
@[simp] theorem State.setLine_released (x : RackLine) : (s.setLine x).released = s.released := rfl
@[simp] theorem State.setLine_lists (x : RackLine) : (s.setLine x).lists = s.lists := rfl
@[simp] theorem State.setLine_line (x : RackLine) : (s.setLine x).line = x := rfl
@[simp] theorem State.setLine_view (x : RackLine) : (s.setLine x).view = s.view := rfl
@[simp] theorem State.setLine_log (x : RackLine) : (s.setLine x).log = s.log := rfl
@[simp] theorem State.setLine_port (x : RackLine) : (s.setLine x).port = s.port := rfl
@[simp] theorem State.setLine_attention (x : RackLine) : (s.setLine x).attention = s.attention := rfl
@[simp] theorem State.setLine_freeCount (x : RackLine) : (s.setLine x).freeCount = s.freeCount := rfl

@[simp] theorem State.setView_pending (x : PeerView) : (s.setView x).pending = s.pending := rfl
@[simp] theorem State.setView_pins (x : PeerView) : (s.setView x).pins = s.pins := rfl
@[simp] theorem State.setView_unit (x : PeerView) : (s.setView x).unit = s.unit := rfl
@[simp] theorem State.setView_lanes (x : PeerView) : (s.setView x).lanes = s.lanes := rfl
@[simp] theorem State.setView_channels (x : PeerView) : (s.setView x).channels = s.channels := rfl
@[simp] theorem State.setView_released (x : PeerView) : (s.setView x).released = s.released := rfl
@[simp] theorem State.setView_lists (x : PeerView) : (s.setView x).lists = s.lists := rfl
@[simp] theorem State.setView_line (x : PeerView) : (s.setView x).line = s.line := rfl
@[simp] theorem State.setView_view (x : PeerView) : (s.setView x).view = x := rfl
@[simp] theorem State.setView_log (x : PeerView) : (s.setView x).log = s.log := rfl
@[simp] theorem State.setView_port (x : PeerView) : (s.setView x).port = s.port := rfl
@[simp] theorem State.setView_attention (x : PeerView) : (s.setView x).attention = s.attention := rfl
@[simp] theorem State.setView_freeCount (x : PeerView) : (s.setView x).freeCount = s.freeCount := rfl

@[simp] theorem State.setLog_pending (x : DeliveryLog) : (s.setLog x).pending = s.pending := rfl
@[simp] theorem State.setLog_pins (x : DeliveryLog) : (s.setLog x).pins = s.pins := rfl
@[simp] theorem State.setLog_unit (x : DeliveryLog) : (s.setLog x).unit = s.unit := rfl
@[simp] theorem State.setLog_lanes (x : DeliveryLog) : (s.setLog x).lanes = s.lanes := rfl
@[simp] theorem State.setLog_channels (x : DeliveryLog) : (s.setLog x).channels = s.channels := rfl
@[simp] theorem State.setLog_released (x : DeliveryLog) : (s.setLog x).released = s.released := rfl
@[simp] theorem State.setLog_lists (x : DeliveryLog) : (s.setLog x).lists = s.lists := rfl
@[simp] theorem State.setLog_line (x : DeliveryLog) : (s.setLog x).line = s.line := rfl
@[simp] theorem State.setLog_view (x : DeliveryLog) : (s.setLog x).view = s.view := rfl
@[simp] theorem State.setLog_log (x : DeliveryLog) : (s.setLog x).log = x := rfl
@[simp] theorem State.setLog_port (x : DeliveryLog) : (s.setLog x).port = s.port := rfl
@[simp] theorem State.setLog_attention (x : DeliveryLog) : (s.setLog x).attention = s.attention := rfl
@[simp] theorem State.setLog_freeCount (x : DeliveryLog) : (s.setLog x).freeCount = s.freeCount := rfl

@[simp] theorem State.setPort_pending (x : PanelPort) : (s.setPort x).pending = s.pending := rfl
@[simp] theorem State.setPort_pins (x : PanelPort) : (s.setPort x).pins = s.pins := rfl
@[simp] theorem State.setPort_unit (x : PanelPort) : (s.setPort x).unit = s.unit := rfl
@[simp] theorem State.setPort_lanes (x : PanelPort) : (s.setPort x).lanes = s.lanes := rfl
@[simp] theorem State.setPort_channels (x : PanelPort) : (s.setPort x).channels = s.channels := rfl
@[simp] theorem State.setPort_released (x : PanelPort) : (s.setPort x).released = s.released := rfl
@[simp] theorem State.setPort_lists (x : PanelPort) : (s.setPort x).lists = s.lists := rfl
@[simp] theorem State.setPort_line (x : PanelPort) : (s.setPort x).line = s.line := rfl
@[simp] theorem State.setPort_view (x : PanelPort) : (s.setPort x).view = s.view := rfl
@[simp] theorem State.setPort_log (x : PanelPort) : (s.setPort x).log = s.log := rfl
@[simp] theorem State.setPort_port (x : PanelPort) : (s.setPort x).port = x := rfl
@[simp] theorem State.setPort_attention (x : PanelPort) : (s.setPort x).attention = s.attention := rfl
@[simp] theorem State.setPort_freeCount (x : PanelPort) : (s.setPort x).freeCount = s.freeCount := rfl

@[simp] theorem State.setAttention_pending (x : List (Reason × Bool)) : (s.setAttention x).pending = s.pending := rfl
@[simp] theorem State.setAttention_pins (x : List (Reason × Bool)) : (s.setAttention x).pins = s.pins := rfl
@[simp] theorem State.setAttention_unit (x : List (Reason × Bool)) : (s.setAttention x).unit = s.unit := rfl
@[simp] theorem State.setAttention_lanes (x : List (Reason × Bool)) : (s.setAttention x).lanes = s.lanes := rfl
@[simp] theorem State.setAttention_channels (x : List (Reason × Bool)) : (s.setAttention x).channels = s.channels := rfl
@[simp] theorem State.setAttention_released (x : List (Reason × Bool)) : (s.setAttention x).released = s.released := rfl
@[simp] theorem State.setAttention_lists (x : List (Reason × Bool)) : (s.setAttention x).lists = s.lists := rfl
@[simp] theorem State.setAttention_line (x : List (Reason × Bool)) : (s.setAttention x).line = s.line := rfl
@[simp] theorem State.setAttention_view (x : List (Reason × Bool)) : (s.setAttention x).view = s.view := rfl
@[simp] theorem State.setAttention_log (x : List (Reason × Bool)) : (s.setAttention x).log = s.log := rfl
@[simp] theorem State.setAttention_port (x : List (Reason × Bool)) : (s.setAttention x).port = s.port := rfl
@[simp] theorem State.setAttention_attention (x : List (Reason × Bool)) : (s.setAttention x).attention = x := rfl
@[simp] theorem State.setAttention_freeCount (x : List (Reason × Bool)) : (s.setAttention x).freeCount = s.freeCount := rfl

@[simp] theorem State.nextFree_pending : s.nextFree.pending = s.pending := rfl
@[simp] theorem State.nextFree_pins : s.nextFree.pins = s.pins := rfl
@[simp] theorem State.nextFree_unit : s.nextFree.unit = s.unit := rfl
@[simp] theorem State.nextFree_lanes : s.nextFree.lanes = s.lanes := rfl
@[simp] theorem State.nextFree_channels : s.nextFree.channels = s.channels := rfl
@[simp] theorem State.nextFree_released : s.nextFree.released = s.released := rfl
@[simp] theorem State.nextFree_lists : s.nextFree.lists = s.lists := rfl
@[simp] theorem State.nextFree_line : s.nextFree.line = s.line := rfl
@[simp] theorem State.nextFree_view : s.nextFree.view = s.view := rfl
@[simp] theorem State.nextFree_log : s.nextFree.log = s.log := rfl
@[simp] theorem State.nextFree_port : s.nextFree.port = s.port := rfl
@[simp] theorem State.nextFree_attention : s.nextFree.attention = s.attention := rfl
@[simp] theorem State.nextFree_freeCount : s.nextFree.freeCount = s.freeCount + 1 := rfl

/-! ### Views that an update of another part leaves -/

@[simp] theorem State.lane_setPins (x : Pins) (ℓ : LaneId) : (s.setPins x).lane ℓ = s.lane ℓ := rfl
@[simp] theorem State.lane_setUnit (x : StationUnit) (ℓ : LaneId) : (s.setUnit x).lane ℓ = s.lane ℓ := rfl
@[simp] theorem State.lane_setReleased (x : List (Nat × FigureSet)) (ℓ : LaneId) : (s.setReleased x).lane ℓ = s.lane ℓ := rfl
@[simp] theorem State.lane_setLists (x : Lists) (ℓ : LaneId) : (s.setLists x).lane ℓ = s.lane ℓ := rfl
@[simp] theorem State.lane_setLine (x : RackLine) (ℓ : LaneId) : (s.setLine x).lane ℓ = s.lane ℓ := rfl
@[simp] theorem State.lane_setView (x : PeerView) (ℓ : LaneId) : (s.setView x).lane ℓ = s.lane ℓ := rfl
@[simp] theorem State.lane_setLog (x : DeliveryLog) (ℓ : LaneId) : (s.setLog x).lane ℓ = s.lane ℓ := rfl
@[simp] theorem State.lane_setPort (x : PanelPort) (ℓ : LaneId) : (s.setPort x).lane ℓ = s.lane ℓ := rfl
@[simp] theorem State.lane_setAttention (x : List (Reason × Bool)) (ℓ : LaneId) : (s.setAttention x).lane ℓ = s.lane ℓ := rfl
@[simp] theorem State.lane_nextFree (ℓ : LaneId) : s.nextFree.lane ℓ = s.lane ℓ := rfl
@[simp] theorem State.lane_modChan (c : ChanId) (f : Channel → Channel) (ℓ : LaneId) : (s.modChan c f).lane ℓ = s.lane ℓ := rfl
@[simp] theorem State.lane_setChan (c : ChanId) (x : Channel) (ℓ : LaneId) : (s.setChan c x).lane ℓ = s.lane ℓ := rfl

@[simp] theorem State.chan_setPins (x : Pins) (c : ChanId) : (s.setPins x).chan c = s.chan c := rfl
@[simp] theorem State.chan_setUnit (x : StationUnit) (c : ChanId) : (s.setUnit x).chan c = s.chan c := rfl
@[simp] theorem State.chan_setReleased (x : List (Nat × FigureSet)) (c : ChanId) : (s.setReleased x).chan c = s.chan c := rfl
@[simp] theorem State.chan_setLists (x : Lists) (c : ChanId) : (s.setLists x).chan c = s.chan c := rfl
@[simp] theorem State.chan_setLine (x : RackLine) (c : ChanId) : (s.setLine x).chan c = s.chan c := rfl
@[simp] theorem State.chan_setView (x : PeerView) (c : ChanId) : (s.setView x).chan c = s.chan c := rfl
@[simp] theorem State.chan_setLog (x : DeliveryLog) (c : ChanId) : (s.setLog x).chan c = s.chan c := rfl
@[simp] theorem State.chan_setPort (x : PanelPort) (c : ChanId) : (s.setPort x).chan c = s.chan c := rfl
@[simp] theorem State.chan_setAttention (x : List (Reason × Bool)) (c : ChanId) : (s.setAttention x).chan c = s.chan c := rfl
@[simp] theorem State.chan_nextFree (c : ChanId) : s.nextFree.chan c = s.chan c := rfl
@[simp] theorem State.chan_modLane (ℓ : LaneId) (f : Lane → Lane) (c : ChanId) : (s.modLane ℓ f).chan c = s.chan c := rfl
@[simp] theorem State.chan_setLane (ℓ : LaneId) (x : Lane) (c : ChanId) : (s.setLane ℓ x).chan c = s.chan c := rfl
@[simp] theorem State.chan_modRecord (ℓ : LaneId) (f : LoadRecord → LoadRecord) (c : ChanId) :
    (s.modRecord ℓ f).chan c = s.chan c := rfl

end Sys2Proof.Machine
end

