-- ==== Sys2Proof/Laws/Tables.lean ====
section
/-! SUPPORT. The sparse tables and the log memory: reading back what was written, and the canonical form that every memory
operation keeps. -/

namespace Sys2Proof.Machine

variable {α : Type}

/-- Every listed key is above `k`. -/
def Assoc.above (k : Nat) (m : Assoc α) : Prop := ∀ p ∈ m, k < p.1

theorem Assoc.wf_cons [DecidableEq α] (d : α) (p : Nat × α) (m : Assoc α) :
    Assoc.wf d (p :: m) = true ↔ p.2 ≠ d ∧ Assoc.above p.1 m ∧ Assoc.wf d m = true := by
  obtain ⟨i, v⟩ := p
  simp [Assoc.wf, Assoc.above, and_assoc]

theorem Assoc.above_erase {k : Nat} (j : Nat) {m : Assoc α} (h : Assoc.above k m) : Assoc.above k (Assoc.erase j m) := by
  induction m with
  | nil => exact h
  | cons p m ih =>
    obtain ⟨i, v⟩ := p
    have hm : Assoc.above k m := fun q hq => h q (by simp [hq])
    unfold Assoc.erase
    split
    · exact hm
    · intro q hq
      rcases List.mem_cons.1 hq with rfl | hq
      · exact h _ (by simp)
      · exact ih hm q hq

theorem Assoc.wf_erase [DecidableEq α] (d : α) (k : Nat) (m : Assoc α) (h : Assoc.wf d m = true) :
    Assoc.wf d (Assoc.erase k m) = true := by
  induction m with
  | nil => exact h
  | cons p m ih =>
    obtain ⟨i, v⟩ := p
    rw [Assoc.wf_cons] at h
    unfold Assoc.erase
    split
    · exact h.2.2
    · exact (Assoc.wf_cons d _ _).2 ⟨h.1, Assoc.above_erase k h.2.1, ih h.2.2⟩

theorem Assoc.above_insert {j k : Nat} {x : α} {m : Assoc α} (hk : j < k) (h : Assoc.above j m) :
    Assoc.above j (Assoc.insert k x m) := by
  induction m with
  | nil => intro q hq; simp [Assoc.insert] at hq; subst hq; exact hk
  | cons p m ih =>
    obtain ⟨i, v⟩ := p
    have hm : Assoc.above j m := fun q hq => h q (by simp [hq])
    unfold Assoc.insert
    split
    · intro q hq; rcases List.mem_cons.1 hq with rfl | hq
      · exact hk
      · exact h q hq
    · split
      · intro q hq; rcases List.mem_cons.1 hq with rfl | hq
        · exact hk
        · exact hm q hq
      · intro q hq; rcases List.mem_cons.1 hq with rfl | hq
        · exact h _ (by simp)
        · exact ih hm q hq

theorem Assoc.wf_insert [DecidableEq α] (d : α) (k : Nat) (x : α) (m : Assoc α) (hx : x ≠ d) (h : Assoc.wf d m = true) :
    Assoc.wf d (Assoc.insert k x m) = true := by
  induction m with
  | nil => simp [Assoc.insert, Assoc.wf, hx]
  | cons p m ih =>
    obtain ⟨i, v⟩ := p
    have hw := h
    rw [Assoc.wf_cons] at h
    unfold Assoc.insert
    split
    · rename_i hk
      refine (Assoc.wf_cons d _ _).2 ⟨hx, ?_, hw⟩
      intro q hq; rcases List.mem_cons.1 hq with rfl | hq
      · exact hk
      · exact Nat.lt_trans hk (h.2.1 q hq)
    · split
      · rename_i hk; subst hk
        exact (Assoc.wf_cons d _ _).2 ⟨hx, h.2.1, h.2.2⟩
      · exact (Assoc.wf_cons d _ _).2 ⟨h.1, Assoc.above_insert (by simp only at *; omega) h.2.1, ih h.2.2⟩

/-- A write keeps the canonical form. -/
theorem Assoc.wf_put [DecidableEq α] (d : α) (k : Nat) (x : α) (m : Assoc α) (h : Assoc.wf d m = true) :
    Assoc.wf d (Assoc.put d k x m) = true := by
  unfold Assoc.put
  split
  · exact Assoc.wf_erase d k m h
  · exact Assoc.wf_insert d k x m ‹_› h

theorem Assoc.get_of_above (d : α) {k : Nat} {m : Assoc α} (h : Assoc.above k m) : Assoc.get d k m = d := by
  induction m with
  | nil => rfl
  | cons p m ih =>
    obtain ⟨i, v⟩ := p
    have hi : k < i := h (i, v) (by simp)
    have : i ≠ k := by omega
    simp [Assoc.get, this, ih (fun q hq => h q (by simp [hq]))]

theorem Assoc.get_insert (d : α) (k j : Nat) (x : α) (m : Assoc α) :
    Assoc.get d j (Assoc.insert k x m) = if j = k then x else Assoc.get d j m := by
  induction m with
  | nil =>
    by_cases h : j = k
    · simp [Assoc.insert, Assoc.get, h]
    · simp [Assoc.insert, Assoc.get, h, Ne.symm h]
  | cons p m ih =>
    obtain ⟨i, v⟩ := p
    unfold Assoc.insert
    split
    · by_cases h : j = k
      · simp [Assoc.get, h]
      · simp [Assoc.get, h, Ne.symm h]
    · split
      · rename_i hk; subst hk
        by_cases h : j = k
        · simp [Assoc.get, h]
        · simp [Assoc.get, h, Ne.symm h]
      · by_cases h : i = j
        · subst h
          have : i ≠ k := by omega
          simp [Assoc.get, this]
        · simp [Assoc.get, h, ih]

theorem Assoc.get_erase [DecidableEq α] (d : α) (k j : Nat) (m : Assoc α) (h : Assoc.wf d m = true) :
    Assoc.get d j (Assoc.erase k m) = if j = k then d else Assoc.get d j m := by
  induction m with
  | nil => simp [Assoc.erase, Assoc.get]
  | cons p m ih =>
    obtain ⟨i, v⟩ := p
    rw [Assoc.wf_cons] at h
    unfold Assoc.erase
    split
    · rename_i hi
      subst hi
      by_cases hj : j = i
      · subst hj; simp [Assoc.get_of_above d h.2.1]
      · simp [Assoc.get, hj, Ne.symm hj]
    · rename_i hi
      by_cases hj : i = j
      · subst hj; simp [Assoc.get, hi]
      · simp [Assoc.get, hj, ih h.2.2]

/-- What a key reads as after a write: the value written there, and every other key as before. -/
theorem Assoc.get_put [DecidableEq α] (d : α) (k j : Nat) (x : α) (m : Assoc α) (h : Assoc.wf d m = true) :
    Assoc.get d j (Assoc.put d k x m) = if j = k then x else Assoc.get d j m := by
  unfold Assoc.put
  split
  · rename_i hx; rw [Assoc.get_erase d k j m h, hx]
  · exact Assoc.get_insert d k j x m

theorem Assoc.above_filter {k : Nat} (f : Nat × α → Bool) {m : Assoc α} (h : Assoc.above k m) :
    Assoc.above k (m.filter f) := fun q hq => h q (List.mem_filter.1 hq).1

theorem Assoc.wf_filter [DecidableEq α] (d : α) (f : Nat × α → Bool) (m : Assoc α) (h : Assoc.wf d m = true) :
    Assoc.wf d (m.filter f) = true := by
  induction m with
  | nil => exact h
  | cons p m ih =>
    rw [Assoc.wf_cons] at h
    rw [List.filter_cons]
    split
    · exact (Assoc.wf_cons d _ _).2 ⟨h.1, Assoc.above_filter f h.2.1, ih h.2.2⟩
    · exact ih h.2.2

/-! ### The log memory -/

/-- The canonical form of the log memory (R169, R213): area numbers strictly rising, no listed image blank. -/
abbrev memoryWf (m : Assoc (List Byte)) : Prop := Assoc.wf [] m = true

theorem writeArea_wf {m : Assoc (List Byte)} (key : Nat) (image : List Byte) (h : memoryWf m) :
    memoryWf (writeArea m key image) := Assoc.wf_put _ _ _ _ h

/-- Reading an area after a write to one. -/
theorem readArea_writeArea {m : Assoc (List Byte)} (key j : Nat) (image : List Byte) (h : memoryWf m) :
    readArea (writeArea m key image) j = if j = key then normImage image else readArea m j :=
  Assoc.get_put [] key j (normImage image) m h

theorem clearSlot_wf {m : Assoc (List Byte)} (p : Nat) (h : memoryWf m) : memoryWf (clearSlot m p) :=
  Assoc.wf_filter _ _ _ h

theorem foldl_writeArea_wf (f : Assoc (List Byte) → Nat → List Byte) (keys : List Nat) {m : Assoc (List Byte)}
    (h : memoryWf m) : memoryWf (keys.foldl (fun acc k => writeArea acc k (f acc k)) m) := by
  induction keys generalizing m with
  | nil => exact h
  | cons k ks ih => exact ih (writeArea_wf k _ h)

theorem cutAreas_wf (n : Nat) (keys : List Nat) {m : Assoc (List Byte)} (h : memoryWf m) :
    memoryWf (cutAreas n keys m) := by
  unfold cutAreas
  exact foldl_writeArea_wf _ keys h

theorem storeStage_wf {m : Assoc (List Byte)} (w : StageWrite) (area : Nat) (image : List Byte) (h : memoryWf m) :
    memoryWf (storeStage m w area image) := by
  unfold storeStage
  split
  · exact writeArea_wf _ _ (clearSlot_wf _ h)
  · exact writeArea_wf _ _ h

theorem failedMemory_wf {m : Assoc (List Byte)} (n : Nat) (w : StageWrite) (area : Nat) (image : List Byte)
    (h : memoryWf m) : memoryWf (failedMemory n m w area image) := by
  unfold failedMemory
  refine writeArea_wf _ _ ?_
  split
  · exact cutAreas_wf _ _ h
  · exact h

theorem scanSlot_wf (mark n : Nat) (faultAt : Option Nat) (acc : ScanState) (p : Nat) (h : memoryWf acc.memory) :
    memoryWf (scanSlot mark n faultAt acc p).memory := by
  unfold scanSlot
  simp only
  repeat' split
  all_goals first
    | exact h
    | exact cutAreas_wf _ _ h
    | exact clearSlot_wf _ h
    | (dsimp only; exact writeArea_wf _ _ (foldl_writeArea_wf _ _ h))

theorem scanSlots_wf (mark n : Nat) (faultAt : Option Nat) (ps : List Nat) (acc : ScanState) (h : memoryWf acc.memory) :
    memoryWf (ps.foldl (scanSlot mark n faultAt) acc).memory := by
  induction ps generalizing acc with
  | nil => exact h
  | cons p ps ih => exact ih _ (scanSlot_wf mark n faultAt acc p h)

/-- The scan keeps the canonical form (R188 to R190). -/
theorem scanned_wf (l : DeliveryLog) (n : Nat) (faultAt : Option Nat) (h : memoryWf l.memory) :
    memoryWf (l.scanned n faultAt).memory := scanSlots_wf _ n faultAt _ _ h

/-- A scan that a reset cuts short keeps the canonical form (R182, R189). -/
theorem scanCut_wf (mark n k : Nat) {m : Assoc (List Byte)} (h : memoryWf m) : memoryWf (scanCut mark n k m) :=
  scanSlots_wf mark n _ _ _ h

theorem abandonWrite_wf (s : State) (h : memoryWf s.log.memory) : memoryWf s.abandonWrite.log.memory := by
  unfold State.abandonWrite
  split
  · split
    · exact scanCut_wf _ _ _ h
    · exact h
  · exact h
  · split
    · exact h
    · exact cutAreas_wf _ _ h

/-- The memory after reset has the canonical form. -/
theorem reset_memoryWf : memoryWf State.reset.log.memory := rfl

end Sys2Proof.Machine
end

