-- ==== Sys2Proof/Laws/Frames.lean ====
section
/-! SUPPORT. What each shared operation leaves unchanged: one lemma per operation, naming every part of State it does not
write. What it does write is what its definition says of the remaining parts. -/

namespace Sys2Proof.Machine

variable (s : State)

/-- A part that no step of a fold writes is as before the fold. -/
theorem foldl_keep {β ι : Type} (π : State → β) (f : State → ι → State) (l : List ι) (s : State)
    (h : ∀ t i, π (f t i) = π t) : π (l.foldl f s) = π s := by
  induction l generalizing s with
  | nil => rfl
  | cons i l ih => rw [List.foldl_cons, ih, h]

@[simp] theorem State.attend_frame (r : Reason) :
    (s.attend r).pending = s.pending ∧ (s.attend r).pins = s.pins ∧ (s.attend r).unit = s.unit ∧
    (s.attend r).lanes = s.lanes ∧ (s.attend r).channels = s.channels ∧ (s.attend r).released = s.released ∧
    (s.attend r).lists = s.lists ∧ (s.attend r).line = s.line ∧ (s.attend r).view = s.view ∧
    (s.attend r).log = s.log ∧ (s.attend r).port = s.port ∧ (s.attend r).freeCount = s.freeCount := by
  simp [State.attend]

@[simp] theorem State.markReported_frame :
    (s.markReported).pending = s.pending ∧ (s.markReported).pins = s.pins ∧ (s.markReported).unit = s.unit ∧
    (s.markReported).lanes = s.lanes ∧ (s.markReported).channels = s.channels ∧
    (s.markReported).released = s.released ∧ (s.markReported).lists = s.lists ∧ (s.markReported).line = s.line ∧
    (s.markReported).view = s.view ∧ (s.markReported).log = s.log ∧ (s.markReported).port = s.port ∧
    (s.markReported).freeCount = s.freeCount := by
  simp [State.markReported]

@[simp] theorem State.clearReported_frame :
    (s.clearReported).pending = s.pending ∧ (s.clearReported).pins = s.pins ∧ (s.clearReported).unit = s.unit ∧
    (s.clearReported).lanes = s.lanes ∧ (s.clearReported).channels = s.channels ∧
    (s.clearReported).released = s.released ∧ (s.clearReported).lists = s.lists ∧
    (s.clearReported).line = s.line ∧ (s.clearReported).view = s.view ∧ (s.clearReported).log = s.log ∧
    (s.clearReported).port = s.port ∧ (s.clearReported).freeCount = s.freeCount := by
  simp [State.clearReported]

@[simp] theorem State.dropReported_frame :
    (s.dropReported).pending = s.pending ∧ (s.dropReported).pins = s.pins ∧ (s.dropReported).unit = s.unit ∧
    (s.dropReported).lanes = s.lanes ∧ (s.dropReported).channels = s.channels ∧
    (s.dropReported).released = s.released ∧ (s.dropReported).lists = s.lists ∧ (s.dropReported).line = s.line ∧
    (s.dropReported).view = s.view ∧ (s.dropReported).log = s.log ∧ (s.dropReported).port = s.port ∧
    (s.dropReported).freeCount = s.freeCount := by
  simp [State.dropReported]

@[simp] theorem State.setResult_frame (ℓ : LaneId) (e : ResultEvent) (o : ResultOutcome) :
    (s.setResult ℓ e o).pending = s.pending ∧ (s.setResult ℓ e o).pins = s.pins ∧
    (s.setResult ℓ e o).unit = s.unit ∧ (s.setResult ℓ e o).channels = s.channels ∧
    (s.setResult ℓ e o).released = s.released ∧ (s.setResult ℓ e o).lists = s.lists ∧
    (s.setResult ℓ e o).line = s.line ∧ (s.setResult ℓ e o).view = s.view ∧ (s.setResult ℓ e o).log = s.log ∧
    (s.setResult ℓ e o).port = s.port ∧ (s.setResult ℓ e o).freeCount = s.freeCount := by
  simp [State.setResult]

@[simp] theorem State.joinFindings_frame (ℓ : LaneId) (fs : List Finding) :
    (s.joinFindings ℓ fs).pending = s.pending ∧ (s.joinFindings ℓ fs).pins = s.pins ∧
    (s.joinFindings ℓ fs).unit = s.unit ∧ (s.joinFindings ℓ fs).channels = s.channels ∧
    (s.joinFindings ℓ fs).released = s.released ∧ (s.joinFindings ℓ fs).lists = s.lists ∧
    (s.joinFindings ℓ fs).line = s.line ∧ (s.joinFindings ℓ fs).view = s.view ∧
    (s.joinFindings ℓ fs).log = s.log ∧ (s.joinFindings ℓ fs).port = s.port ∧
    (s.joinFindings ℓ fs).attention = s.attention ∧ (s.joinFindings ℓ fs).freeCount = s.freeCount := by
  simp [State.joinFindings]

@[simp] theorem State.setSendQueue_frame (q : List SendEntry) :
    (s.setSendQueue q).pending = s.pending ∧ (s.setSendQueue q).pins = s.pins ∧ (s.setSendQueue q).unit = s.unit ∧
    (s.setSendQueue q).lanes = s.lanes ∧ (s.setSendQueue q).channels = s.channels ∧
    (s.setSendQueue q).released = s.released ∧ (s.setSendQueue q).lists = s.lists ∧
    (s.setSendQueue q).view = s.view ∧ (s.setSendQueue q).log = s.log ∧ (s.setSendQueue q).port = s.port ∧
    (s.setSendQueue q).attention = s.attention ∧ (s.setSendQueue q).freeCount = s.freeCount := by
  simp [State.setSendQueue]

@[simp] theorem State.queueNotice_frame (n : Notice) :
    (s.queueNotice n).pending = s.pending ∧ (s.queueNotice n).pins = s.pins ∧ (s.queueNotice n).unit = s.unit ∧
    (s.queueNotice n).lanes = s.lanes ∧ (s.queueNotice n).channels = s.channels ∧
    (s.queueNotice n).released = s.released ∧ (s.queueNotice n).lists = s.lists ∧
    (s.queueNotice n).view = s.view ∧ (s.queueNotice n).log = s.log ∧ (s.queueNotice n).port = s.port ∧
    (s.queueNotice n).attention = s.attention ∧ (s.queueNotice n).freeCount = s.freeCount := by
  obtain ⟨t, ht⟩ : ∃ t, t = s.queueNotice n := ⟨_, rfl⟩
  rw [← ht]
  unfold State.queueNotice at ht
  try dsimp only at ht
  repeat' split at ht
  all_goals (subst ht; simp)

@[simp] theorem State.takeNotice_frame (p : Place) :
    (s.takeNotice p).pending = s.pending ∧ (s.takeNotice p).pins = s.pins ∧ (s.takeNotice p).unit = s.unit ∧
    (s.takeNotice p).lanes = s.lanes ∧ (s.takeNotice p).channels = s.channels ∧
    (s.takeNotice p).released = s.released ∧ (s.takeNotice p).lists = s.lists ∧ (s.takeNotice p).view = s.view ∧
    (s.takeNotice p).log = s.log ∧ (s.takeNotice p).port = s.port ∧ (s.takeNotice p).attention = s.attention ∧
    (s.takeNotice p).freeCount = s.freeCount := by
  simp [State.takeNotice]

@[simp] theorem State.stopDriving_frame :
    (s.stopDriving).pending = s.pending ∧ (s.stopDriving).pins = s.pins ∧ (s.stopDriving).unit = s.unit ∧
    (s.stopDriving).lanes = s.lanes ∧ (s.stopDriving).channels = s.channels ∧
    (s.stopDriving).released = s.released ∧ (s.stopDriving).lists = s.lists ∧ (s.stopDriving).view = s.view ∧
    (s.stopDriving).log = s.log ∧ (s.stopDriving).port = s.port ∧ (s.stopDriving).attention = s.attention ∧
    (s.stopDriving).freeCount = s.freeCount := by
  simp [State.stopDriving]

@[simp] theorem State.removeNotice_frame (p : Place) :
    (s.removeNotice p).pending = s.pending ∧ (s.removeNotice p).pins = s.pins ∧ (s.removeNotice p).unit = s.unit ∧
    (s.removeNotice p).lanes = s.lanes ∧ (s.removeNotice p).channels = s.channels ∧
    (s.removeNotice p).released = s.released ∧ (s.removeNotice p).lists = s.lists ∧
    (s.removeNotice p).view = s.view ∧ (s.removeNotice p).log = s.log ∧ (s.removeNotice p).port = s.port ∧
    (s.removeNotice p).attention = s.attention ∧ (s.removeNotice p).freeCount = s.freeCount := by
  obtain ⟨t, ht⟩ : ∃ t, t = s.removeNotice p := ⟨_, rfl⟩
  rw [← ht]
  unfold State.removeNotice at ht
  try dsimp only at ht
  repeat' split at ht
  all_goals (subst ht; simp)

@[simp] theorem State.markBegun_frame (p : Place) :
    (s.markBegun p).pending = s.pending ∧ (s.markBegun p).pins = s.pins ∧ (s.markBegun p).unit = s.unit ∧
    (s.markBegun p).lanes = s.lanes ∧ (s.markBegun p).channels = s.channels ∧
    (s.markBegun p).released = s.released ∧ (s.markBegun p).lists = s.lists ∧ (s.markBegun p).view = s.view ∧
    (s.markBegun p).log = s.log ∧ (s.markBegun p).port = s.port ∧ (s.markBegun p).attention = s.attention ∧
    (s.markBegun p).freeCount = s.freeCount := by
  simp [State.markBegun]

@[simp] theorem State.queueWithdrawn_frame (ℓ : LaneId) (d : Nat) :
    (s.queueWithdrawn ℓ d).pending = s.pending ∧ (s.queueWithdrawn ℓ d).pins = s.pins ∧
    (s.queueWithdrawn ℓ d).unit = s.unit ∧ (s.queueWithdrawn ℓ d).channels = s.channels ∧
    (s.queueWithdrawn ℓ d).released = s.released ∧ (s.queueWithdrawn ℓ d).lists = s.lists ∧
    (s.queueWithdrawn ℓ d).view = s.view ∧ (s.queueWithdrawn ℓ d).log = s.log ∧
    (s.queueWithdrawn ℓ d).port = s.port ∧ (s.queueWithdrawn ℓ d).attention = s.attention ∧
    (s.queueWithdrawn ℓ d).freeCount = s.freeCount := by
  obtain ⟨t, ht⟩ : ∃ t, t = s.queueWithdrawn ℓ d := ⟨_, rfl⟩
  rw [← ht]
  unfold State.queueWithdrawn at ht
  try dsimp only at ht
  repeat' split at ht
  all_goals (subst ht; simp)

@[simp] theorem State.offerOne_frame (h : Nat) (c : ChanId) :
    (State.offerOne h s c).pending = s.pending ∧ (State.offerOne h s c).pins = s.pins ∧
    (State.offerOne h s c).unit = s.unit ∧ (State.offerOne h s c).lanes = s.lanes ∧
    (State.offerOne h s c).released = s.released ∧ (State.offerOne h s c).lists = s.lists ∧
    (State.offerOne h s c).view = s.view ∧ (State.offerOne h s c).log = s.log ∧
    (State.offerOne h s c).port = s.port ∧ (State.offerOne h s c).attention = s.attention ∧
    (State.offerOne h s c).freeCount = s.freeCount := by
  obtain ⟨t, ht⟩ : ∃ t, t = State.offerOne h s c := ⟨_, rfl⟩
  rw [← ht]
  unfold State.offerOne at ht
  try dsimp only at ht
  repeat' split at ht
  all_goals (subst ht; simp)

@[simp] theorem State.offerRound_frame (h : Nat) :
    (s.offerRound h).pending = s.pending ∧ (s.offerRound h).pins = s.pins ∧ (s.offerRound h).unit = s.unit ∧
    (s.offerRound h).lanes = s.lanes ∧ (s.offerRound h).released = s.released ∧ (s.offerRound h).lists = s.lists ∧
    (s.offerRound h).view = s.view ∧ (s.offerRound h).log = s.log ∧ (s.offerRound h).port = s.port ∧
    (s.offerRound h).attention = s.attention ∧ (s.offerRound h).freeCount = s.freeCount := by
  refine ⟨?_, ?_, ?_, ?_, ?_, ?_, ?_, ?_, ?_, ?_, ?_⟩ <;>
    (unfold State.offerRound; apply foldl_keep; intro t i; simp)

@[simp] theorem State.reportFalls_frame (b : State) :
    (State.reportFalls b s).pending = s.pending ∧ (State.reportFalls b s).pins = s.pins ∧
    (State.reportFalls b s).unit = s.unit ∧ (State.reportFalls b s).lanes = s.lanes ∧
    (State.reportFalls b s).released = s.released ∧ (State.reportFalls b s).lists = s.lists ∧
    (State.reportFalls b s).view = s.view ∧ (State.reportFalls b s).log = s.log ∧
    (State.reportFalls b s).port = s.port ∧ (State.reportFalls b s).attention = s.attention ∧
    (State.reportFalls b s).freeCount = s.freeCount := by
  refine ⟨?_, ?_, ?_, ?_, ?_, ?_, ?_, ?_, ?_, ?_, ?_⟩ <;>
    (unfold State.reportFalls; apply foldl_keep; intro t i; split <;> simp)

@[simp] theorem State.returnDraw_frame (c : ChanId) :
    (s.returnDraw c).pending = s.pending ∧ (s.returnDraw c).pins = s.pins ∧ (s.returnDraw c).unit = s.unit ∧
    (s.returnDraw c).lanes = s.lanes ∧ (s.returnDraw c).released = s.released ∧ (s.returnDraw c).lists = s.lists ∧
    (s.returnDraw c).view = s.view ∧ (s.returnDraw c).log = s.log ∧ (s.returnDraw c).port = s.port ∧
    (s.returnDraw c).attention = s.attention ∧ (s.returnDraw c).freeCount = s.freeCount := by
  obtain ⟨t, ht⟩ : ∃ t, t = s.returnDraw c := ⟨_, rfl⟩
  rw [← ht]
  unfold State.returnDraw at ht
  try dsimp only at ht
  repeat' split at ht
  all_goals (subst ht; simp)

@[simp] theorem State.giveUpDraw_frame (c : ChanId) :
    (s.giveUpDraw c).pending = s.pending ∧ (s.giveUpDraw c).pins = s.pins ∧ (s.giveUpDraw c).unit = s.unit ∧
    (s.giveUpDraw c).lanes = s.lanes ∧ (s.giveUpDraw c).released = s.released ∧ (s.giveUpDraw c).lists = s.lists ∧
    (s.giveUpDraw c).view = s.view ∧ (s.giveUpDraw c).log = s.log ∧ (s.giveUpDraw c).port = s.port ∧
    (s.giveUpDraw c).attention = s.attention ∧ (s.giveUpDraw c).freeCount = s.freeCount := by
  obtain ⟨t, ht⟩ : ∃ t, t = s.giveUpDraw c := ⟨_, rfl⟩
  rw [← ht]
  unfold State.giveUpDraw at ht
  try dsimp only at ht
  repeat' split at ht
  all_goals (subst ht; simp)

@[simp] theorem State.decidePhase_frame (c : ChanId) :
    (s.decidePhase c).pending = s.pending ∧ (s.decidePhase c).pins = s.pins ∧ (s.decidePhase c).unit = s.unit ∧
    (s.decidePhase c).lanes = s.lanes ∧ (s.decidePhase c).released = s.released ∧
    (s.decidePhase c).lists = s.lists ∧ (s.decidePhase c).view = s.view ∧ (s.decidePhase c).log = s.log ∧
    (s.decidePhase c).port = s.port ∧ (s.decidePhase c).attention = s.attention ∧
    (s.decidePhase c).freeCount = s.freeCount := by
  obtain ⟨t, ht⟩ : ∃ t, t = s.decidePhase c := ⟨_, rfl⟩
  rw [← ht]
  unfold State.decidePhase at ht
  try dsimp only at ht
  repeat' split at ht
  all_goals (subst ht; simp)

@[simp] theorem State.suspend_frame (c : ChanId) :
    (s.suspend c).pending = s.pending ∧ (s.suspend c).pins = s.pins ∧ (s.suspend c).unit = s.unit ∧
    (s.suspend c).lanes = s.lanes ∧ (s.suspend c).released = s.released ∧ (s.suspend c).lists = s.lists ∧
    (s.suspend c).view = s.view ∧ (s.suspend c).log = s.log ∧ (s.suspend c).port = s.port ∧
    (s.suspend c).freeCount = s.freeCount := by
  simp [State.suspend]

@[simp] theorem State.suspendIfStanding_frame (c : ChanId) :
    (s.suspendIfStanding c).pending = s.pending ∧ (s.suspendIfStanding c).pins = s.pins ∧
    (s.suspendIfStanding c).unit = s.unit ∧ (s.suspendIfStanding c).lanes = s.lanes ∧
    (s.suspendIfStanding c).released = s.released ∧ (s.suspendIfStanding c).lists = s.lists ∧
    (s.suspendIfStanding c).view = s.view ∧ (s.suspendIfStanding c).log = s.log ∧
    (s.suspendIfStanding c).port = s.port ∧ (s.suspendIfStanding c).freeCount = s.freeCount := by
  obtain ⟨t, ht⟩ : ∃ t, t = s.suspendIfStanding c := ⟨_, rfl⟩
  rw [← ht]
  unfold State.suspendIfStanding at ht
  try dsimp only at ht
  repeat' split at ht
  all_goals (subst ht; simp)

@[simp] theorem State.applyCauses_frame :
    (s.applyCauses).pending = s.pending ∧ (s.applyCauses).pins = s.pins ∧ (s.applyCauses).unit = s.unit ∧
    (s.applyCauses).lanes = s.lanes ∧ (s.applyCauses).released = s.released ∧ (s.applyCauses).lists = s.lists ∧
    (s.applyCauses).view = s.view ∧ (s.applyCauses).log = s.log ∧ (s.applyCauses).port = s.port ∧
    (s.applyCauses).freeCount = s.freeCount := by
  simp only [State.applyCauses, State.reportFalls_frame]
  refine ⟨?_, ?_, ?_, ?_, ?_, ?_, ?_, ?_, ?_, ?_⟩ <;>
    (apply foldl_keep; intro t i; simp)

@[simp] theorem State.settlePour_frame (e : EndStatus) (c : ChanId) :
    (State.settlePour e s c).pending = s.pending ∧ (State.settlePour e s c).pins = s.pins ∧
    (State.settlePour e s c).unit = s.unit ∧ (State.settlePour e s c).lanes = s.lanes ∧
    (State.settlePour e s c).released = s.released ∧ (State.settlePour e s c).lists = s.lists ∧
    (State.settlePour e s c).view = s.view ∧ (State.settlePour e s c).log = s.log ∧
    (State.settlePour e s c).port = s.port ∧ (State.settlePour e s c).attention = s.attention ∧
    (State.settlePour e s c).freeCount = s.freeCount := by
  obtain ⟨t, ht⟩ : ∃ t, t = State.settlePour e s c := ⟨_, rfl⟩
  rw [← ht]
  unfold State.settlePour at ht
  try dsimp only at ht
  repeat' split at ht
  all_goals (subst ht; simp)

@[simp] theorem State.endPour_frame (c : ChanId) (e : EndStatus) :
    (s.endPour c e).pending = s.pending ∧ (s.endPour c e).pins = s.pins ∧ (s.endPour c e).unit = s.unit ∧
    (s.endPour c e).lanes = s.lanes ∧ (s.endPour c e).released = s.released ∧ (s.endPour c e).lists = s.lists ∧
    (s.endPour c e).view = s.view ∧ (s.endPour c e).log = s.log ∧ (s.endPour c e).port = s.port ∧
    (s.endPour c e).attention = s.attention ∧ (s.endPour c e).freeCount = s.freeCount := by
  simp [State.endPour]

@[simp] theorem State.idleChannel_frame (c : ChanId) :
    (s.idleChannel c).pending = s.pending ∧ (s.idleChannel c).pins = s.pins ∧ (s.idleChannel c).unit = s.unit ∧
    (s.idleChannel c).lanes = s.lanes ∧ (s.idleChannel c).released = s.released ∧
    (s.idleChannel c).lists = s.lists ∧ (s.idleChannel c).line = s.line ∧ (s.idleChannel c).view = s.view ∧
    (s.idleChannel c).log = s.log ∧ (s.idleChannel c).port = s.port ∧ (s.idleChannel c).attention = s.attention ∧
    (s.idleChannel c).freeCount = s.freeCount := by
  simp [State.idleChannel]

@[simp] theorem State.addMetered_frame (c : ChanId) (n : Nat) :
    (s.addMetered c n).pending = s.pending ∧ (s.addMetered c n).pins = s.pins ∧ (s.addMetered c n).unit = s.unit ∧
    (s.addMetered c n).channels = s.channels ∧ (s.addMetered c n).released = s.released ∧
    (s.addMetered c n).lists = s.lists ∧ (s.addMetered c n).line = s.line ∧ (s.addMetered c n).view = s.view ∧
    (s.addMetered c n).log = s.log ∧ (s.addMetered c n).port = s.port ∧
    (s.addMetered c n).attention = s.attention ∧ (s.addMetered c n).freeCount = s.freeCount := by
  obtain ⟨t, ht⟩ : ∃ t, t = s.addMetered c n := ⟨_, rfl⟩
  rw [← ht]
  unfold State.addMetered at ht
  try dsimp only at ht
  repeat' split at ht
  all_goals (subst ht; simp)

@[simp] theorem State.countPulse_frame (c : ChanId) :
    (s.countPulse c).pending = s.pending ∧ (s.countPulse c).pins = s.pins ∧ (s.countPulse c).unit = s.unit ∧
    (s.countPulse c).released = s.released ∧ (s.countPulse c).lists = s.lists ∧ (s.countPulse c).line = s.line ∧
    (s.countPulse c).view = s.view ∧ (s.countPulse c).log = s.log ∧ (s.countPulse c).port = s.port ∧
    (s.countPulse c).attention = s.attention ∧ (s.countPulse c).freeCount = s.freeCount := by
  simp [State.countPulse]

@[simp] theorem State.lowCheck_frame (b : State) :
    (State.lowCheck b s).pending = s.pending ∧ (State.lowCheck b s).pins = s.pins ∧
    (State.lowCheck b s).unit = s.unit ∧ (State.lowCheck b s).lanes = s.lanes ∧
    (State.lowCheck b s).channels = s.channels ∧ (State.lowCheck b s).released = s.released ∧
    (State.lowCheck b s).lists = s.lists ∧ (State.lowCheck b s).line = s.line ∧
    (State.lowCheck b s).view = s.view ∧ (State.lowCheck b s).log = s.log ∧ (State.lowCheck b s).port = s.port ∧
    (State.lowCheck b s).freeCount = s.freeCount := by
  obtain ⟨t, ht⟩ : ∃ t, t = State.lowCheck b s := ⟨_, rfl⟩
  rw [← ht]
  unfold State.lowCheck at ht
  try dsimp only at ht
  repeat' split at ht
  all_goals (subst ht; simp)

@[simp] theorem State.reserve_frame :
    (s.reserve.1).pending = s.pending ∧ (s.reserve.1).pins = s.pins ∧ (s.reserve.1).unit = s.unit ∧
    (s.reserve.1).lanes = s.lanes ∧ (s.reserve.1).channels = s.channels ∧ (s.reserve.1).released = s.released ∧
    (s.reserve.1).lists = s.lists ∧ (s.reserve.1).line = s.line ∧ (s.reserve.1).view = s.view ∧
    (s.reserve.1).port = s.port ∧ (s.reserve.1).freeCount = s.freeCount := by
  simp [State.reserve]

@[simp] theorem State.dropReservation_frame (p : Nat) :
    (s.dropReservation p).pending = s.pending ∧ (s.dropReservation p).pins = s.pins ∧
    (s.dropReservation p).unit = s.unit ∧ (s.dropReservation p).lanes = s.lanes ∧
    (s.dropReservation p).channels = s.channels ∧ (s.dropReservation p).released = s.released ∧
    (s.dropReservation p).lists = s.lists ∧ (s.dropReservation p).line = s.line ∧
    (s.dropReservation p).view = s.view ∧ (s.dropReservation p).port = s.port ∧
    (s.dropReservation p).attention = s.attention ∧ (s.dropReservation p).freeCount = s.freeCount := by
  simp [State.dropReservation]

@[simp] theorem State.openSlot_frame (p : Nat) :
    (s.openSlot p).pending = s.pending ∧ (s.openSlot p).pins = s.pins ∧ (s.openSlot p).unit = s.unit ∧
    (s.openSlot p).lanes = s.lanes ∧ (s.openSlot p).channels = s.channels ∧ (s.openSlot p).released = s.released ∧
    (s.openSlot p).lists = s.lists ∧ (s.openSlot p).line = s.line ∧ (s.openSlot p).view = s.view ∧
    (s.openSlot p).port = s.port ∧ (s.openSlot p).attention = s.attention ∧
    (s.openSlot p).freeCount = s.freeCount := by
  simp [State.openSlot]

@[simp] theorem State.leaveSlot_frame (p n : Nat) :
    (s.leaveSlot p n).pending = s.pending ∧ (s.leaveSlot p n).pins = s.pins ∧ (s.leaveSlot p n).unit = s.unit ∧
    (s.leaveSlot p n).lanes = s.lanes ∧ (s.leaveSlot p n).channels = s.channels ∧
    (s.leaveSlot p n).released = s.released ∧ (s.leaveSlot p n).lists = s.lists ∧ (s.leaveSlot p n).line = s.line ∧
    (s.leaveSlot p n).view = s.view ∧ (s.leaveSlot p n).port = s.port ∧ (s.leaveSlot p n).attention = s.attention ∧
    (s.leaveSlot p n).freeCount = s.freeCount := by
  obtain ⟨t, ht⟩ : ∃ t, t = s.leaveSlot p n := ⟨_, rfl⟩
  rw [← ht]
  unfold State.leaveSlot at ht
  try dsimp only at ht
  repeat' split at ht
  all_goals (subst ht; simp)

@[simp] theorem State.enqueueStage_frame (w : StageWrite) :
    (s.enqueueStage w).pending = s.pending ∧ (s.enqueueStage w).pins = s.pins ∧ (s.enqueueStage w).unit = s.unit ∧
    (s.enqueueStage w).lanes = s.lanes ∧ (s.enqueueStage w).channels = s.channels ∧
    (s.enqueueStage w).released = s.released ∧ (s.enqueueStage w).lists = s.lists ∧
    (s.enqueueStage w).line = s.line ∧ (s.enqueueStage w).view = s.view ∧ (s.enqueueStage w).port = s.port ∧
    (s.enqueueStage w).attention = s.attention ∧ (s.enqueueStage w).freeCount = s.freeCount := by
  simp [State.enqueueStage]

@[simp] theorem State.handStage_frame (ℓ : LaneId) (st : Stage) :
    (s.handStage ℓ st).pending = s.pending ∧ (s.handStage ℓ st).pins = s.pins ∧ (s.handStage ℓ st).unit = s.unit ∧
    (s.handStage ℓ st).channels = s.channels ∧ (s.handStage ℓ st).released = s.released ∧
    (s.handStage ℓ st).lists = s.lists ∧ (s.handStage ℓ st).line = s.line ∧ (s.handStage ℓ st).view = s.view ∧
    (s.handStage ℓ st).port = s.port ∧ (s.handStage ℓ st).attention = s.attention ∧
    (s.handStage ℓ st).freeCount = s.freeCount := by
  obtain ⟨t, ht⟩ : ∃ t, t = s.handStage ℓ st := ⟨_, rfl⟩
  rw [← ht]
  unfold State.handStage at ht
  try dsimp only at ht
  repeat' split at ht
  all_goals (subst ht; simp)

@[simp] theorem State.passBacklog_frame (ℓ : LaneId) :
    (s.passBacklog ℓ).pending = s.pending ∧ (s.passBacklog ℓ).pins = s.pins ∧ (s.passBacklog ℓ).unit = s.unit ∧
    (s.passBacklog ℓ).channels = s.channels ∧ (s.passBacklog ℓ).released = s.released ∧
    (s.passBacklog ℓ).lists = s.lists ∧ (s.passBacklog ℓ).line = s.line ∧ (s.passBacklog ℓ).view = s.view ∧
    (s.passBacklog ℓ).port = s.port ∧ (s.passBacklog ℓ).attention = s.attention ∧
    (s.passBacklog ℓ).freeCount = s.freeCount := by
  obtain ⟨t, ht⟩ : ∃ t, t = s.passBacklog ℓ := ⟨_, rfl⟩
  rw [← ht]
  unfold State.passBacklog at ht
  try dsimp only at ht
  repeat' split at ht
  all_goals (subst ht; simp)

@[simp] theorem State.withdrawOutcome_frame (ℓ : LaneId) :
    (s.withdrawOutcome ℓ).pending = s.pending ∧ (s.withdrawOutcome ℓ).pins = s.pins ∧
    (s.withdrawOutcome ℓ).unit = s.unit ∧ (s.withdrawOutcome ℓ).lanes = s.lanes ∧
    (s.withdrawOutcome ℓ).channels = s.channels ∧ (s.withdrawOutcome ℓ).released = s.released ∧
    (s.withdrawOutcome ℓ).lists = s.lists ∧ (s.withdrawOutcome ℓ).line = s.line ∧
    (s.withdrawOutcome ℓ).view = s.view ∧ (s.withdrawOutcome ℓ).port = s.port ∧
    (s.withdrawOutcome ℓ).attention = s.attention ∧ (s.withdrawOutcome ℓ).freeCount = s.freeCount := by
  simp [State.withdrawOutcome]

@[simp] theorem State.abandonWrite_frame :
    (s.abandonWrite).pending = s.pending ∧ (s.abandonWrite).pins = s.pins ∧ (s.abandonWrite).unit = s.unit ∧
    (s.abandonWrite).lanes = s.lanes ∧ (s.abandonWrite).channels = s.channels ∧
    (s.abandonWrite).released = s.released ∧ (s.abandonWrite).lists = s.lists ∧ (s.abandonWrite).line = s.line ∧
    (s.abandonWrite).view = s.view ∧ (s.abandonWrite).port = s.port ∧
    (s.abandonWrite).attention = s.attention := by
  obtain ⟨t, ht⟩ : ∃ t, t = s.abandonWrite := ⟨_, rfl⟩
  rw [← ht]
  unfold State.abandonWrite at ht
  try dsimp only at ht
  repeat' split at ht
  all_goals (subst ht; simp)

@[simp] theorem State.setHold_frame (ℓ : LaneId) (m : HoldMember) (f : Finding) :
    (s.setHold ℓ m f).pending = s.pending ∧ (s.setHold ℓ m f).pins = s.pins ∧ (s.setHold ℓ m f).unit = s.unit ∧
    (s.setHold ℓ m f).released = s.released ∧ (s.setHold ℓ m f).lists = s.lists ∧
    (s.setHold ℓ m f).view = s.view ∧ (s.setHold ℓ m f).log = s.log ∧ (s.setHold ℓ m f).port = s.port ∧
    (s.setHold ℓ m f).freeCount = s.freeCount := by
  obtain ⟨t, ht⟩ : ∃ t, t = s.setHold ℓ m f := ⟨_, rfl⟩
  rw [← ht]
  unfold State.setHold at ht
  try dsimp only at ht
  repeat' split at ht
  all_goals (subst ht; simp)

/-- DUTY and DUPLICATE are no causes: the channels and the line stay as they are (R16). -/
@[simp] theorem State.setHold_noCause_frame (ℓ : LaneId) (f : Finding) :
    (s.setHold ℓ .duty f).channels = s.channels ∧ (s.setHold ℓ .duty f).line = s.line ∧
    (s.setHold ℓ .duplicate f).channels = s.channels ∧ (s.setHold ℓ .duplicate f).line = s.line := by
  refine ⟨?_, ?_, ?_, ?_⟩ <;> unfold State.setHold <;> dsimp only <;> split <;> simp

@[simp] theorem State.clearHold_frame (ℓ : LaneId) (m : HoldMember) :
    (s.clearHold ℓ m).pending = s.pending ∧ (s.clearHold ℓ m).pins = s.pins ∧ (s.clearHold ℓ m).unit = s.unit ∧
    (s.clearHold ℓ m).channels = s.channels ∧ (s.clearHold ℓ m).released = s.released ∧
    (s.clearHold ℓ m).lists = s.lists ∧ (s.clearHold ℓ m).line = s.line ∧ (s.clearHold ℓ m).view = s.view ∧
    (s.clearHold ℓ m).log = s.log ∧ (s.clearHold ℓ m).port = s.port ∧ (s.clearHold ℓ m).attention = s.attention ∧
    (s.clearHold ℓ m).freeCount = s.freeCount := by
  simp [State.clearHold]

@[simp] theorem State.stopTimer_frame (ℓ : LaneId) :
    (s.stopTimer ℓ).pending = s.pending ∧ (s.stopTimer ℓ).pins = s.pins ∧ (s.stopTimer ℓ).unit = s.unit ∧
    (s.stopTimer ℓ).channels = s.channels ∧ (s.stopTimer ℓ).released = s.released ∧
    (s.stopTimer ℓ).lists = s.lists ∧ (s.stopTimer ℓ).line = s.line ∧ (s.stopTimer ℓ).view = s.view ∧
    (s.stopTimer ℓ).log = s.log ∧ (s.stopTimer ℓ).port = s.port ∧ (s.stopTimer ℓ).attention = s.attention ∧
    (s.stopTimer ℓ).freeCount = s.freeCount := by
  simp [State.stopTimer]

@[simp] theorem State.armTimer_frame (ℓ : LaneId) (r : DutyResult) :
    (s.armTimer ℓ r).pending = s.pending ∧ (s.armTimer ℓ r).pins = s.pins ∧ (s.armTimer ℓ r).unit = s.unit ∧
    (s.armTimer ℓ r).released = s.released ∧ (s.armTimer ℓ r).lists = s.lists ∧ (s.armTimer ℓ r).view = s.view ∧
    (s.armTimer ℓ r).log = s.log ∧ (s.armTimer ℓ r).port = s.port ∧ (s.armTimer ℓ r).freeCount = s.freeCount := by
  obtain ⟨t, ht⟩ : ∃ t, t = s.armTimer ℓ r := ⟨_, rfl⟩
  rw [← ht]
  unfold State.armTimer at ht
  try dsimp only at ht
  repeat' split at ht
  all_goals (subst ht; simp)

@[simp] theorem State.placeContest_frame (ℓ : LaneId) (d : Nat) :
    (s.placeContest ℓ d).pending = s.pending ∧ (s.placeContest ℓ d).pins = s.pins ∧
    (s.placeContest ℓ d).unit = s.unit ∧ (s.placeContest ℓ d).channels = s.channels ∧
    (s.placeContest ℓ d).released = s.released ∧ (s.placeContest ℓ d).lists = s.lists ∧
    (s.placeContest ℓ d).view = s.view ∧ (s.placeContest ℓ d).log = s.log ∧ (s.placeContest ℓ d).port = s.port ∧
    (s.placeContest ℓ d).attention = s.attention ∧ (s.placeContest ℓ d).freeCount = s.freeCount := by
  simp [State.placeContest]

@[simp] theorem State.queueContest_frame (ℓ : LaneId) (d : Nat) :
    (s.queueContest ℓ d).pending = s.pending ∧ (s.queueContest ℓ d).pins = s.pins ∧
    (s.queueContest ℓ d).unit = s.unit ∧ (s.queueContest ℓ d).channels = s.channels ∧
    (s.queueContest ℓ d).released = s.released ∧ (s.queueContest ℓ d).lists = s.lists ∧
    (s.queueContest ℓ d).view = s.view ∧ (s.queueContest ℓ d).log = s.log ∧ (s.queueContest ℓ d).port = s.port ∧
    (s.queueContest ℓ d).attention = s.attention ∧ (s.queueContest ℓ d).freeCount = s.freeCount := by
  obtain ⟨t, ht⟩ : ∃ t, t = s.queueContest ℓ d := ⟨_, rfl⟩
  rw [← ht]
  unfold State.queueContest at ht
  try dsimp only at ht
  repeat' split at ht
  all_goals (subst ht; simp)

@[simp] theorem State.queueOwedContest_frame (ℓ : LaneId) :
    (s.queueOwedContest ℓ).pending = s.pending ∧ (s.queueOwedContest ℓ).pins = s.pins ∧
    (s.queueOwedContest ℓ).unit = s.unit ∧ (s.queueOwedContest ℓ).channels = s.channels ∧
    (s.queueOwedContest ℓ).released = s.released ∧ (s.queueOwedContest ℓ).lists = s.lists ∧
    (s.queueOwedContest ℓ).view = s.view ∧ (s.queueOwedContest ℓ).log = s.log ∧
    (s.queueOwedContest ℓ).port = s.port ∧ (s.queueOwedContest ℓ).attention = s.attention ∧
    (s.queueOwedContest ℓ).freeCount = s.freeCount := by
  obtain ⟨t, ht⟩ : ∃ t, t = s.queueOwedContest ℓ := ⟨_, rfl⟩
  rw [← ht]
  unfold State.queueOwedContest at ht
  try dsimp only at ht
  repeat' split at ht
  all_goals (subst ht; simp)

@[simp] theorem State.dropContest_frame (ℓ : LaneId) (d : Nat) :
    (s.dropContest ℓ d).pending = s.pending ∧ (s.dropContest ℓ d).pins = s.pins ∧
    (s.dropContest ℓ d).unit = s.unit ∧ (s.dropContest ℓ d).channels = s.channels ∧
    (s.dropContest ℓ d).released = s.released ∧ (s.dropContest ℓ d).lists = s.lists ∧
    (s.dropContest ℓ d).view = s.view ∧ (s.dropContest ℓ d).log = s.log ∧ (s.dropContest ℓ d).port = s.port ∧
    (s.dropContest ℓ d).attention = s.attention ∧ (s.dropContest ℓ d).freeCount = s.freeCount := by
  obtain ⟨t, ht⟩ : ∃ t, t = s.dropContest ℓ d := ⟨_, rfl⟩
  rw [← ht]
  unfold State.dropContest at ht
  try dsimp only at ht
  repeat' split at ht
  all_goals (subst ht; simp)

@[simp] theorem State.testClaim_frame (ℓ : LaneId) :
    (s.testClaim ℓ).pending = s.pending ∧ (s.testClaim ℓ).pins = s.pins ∧ (s.testClaim ℓ).unit = s.unit ∧
    (s.testClaim ℓ).channels = s.channels ∧ (s.testClaim ℓ).released = s.released ∧
    (s.testClaim ℓ).lists = s.lists ∧ (s.testClaim ℓ).view = s.view ∧ (s.testClaim ℓ).log = s.log ∧
    (s.testClaim ℓ).port = s.port ∧ (s.testClaim ℓ).attention = s.attention ∧
    (s.testClaim ℓ).freeCount = s.freeCount := by
  obtain ⟨t, ht⟩ : ∃ t, t = s.testClaim ℓ := ⟨_, rfl⟩
  rw [← ht]
  unfold State.testClaim at ht
  try dsimp only at ht
  repeat' split at ht
  all_goals (subst ht; simp)

@[simp] theorem State.removeClaim_frame (ℓ : LaneId) (c : Claim) (pure : Bool) :
    (s.removeClaim ℓ c pure).pending = s.pending ∧ (s.removeClaim ℓ c pure).pins = s.pins ∧
    (s.removeClaim ℓ c pure).unit = s.unit ∧ (s.removeClaim ℓ c pure).channels = s.channels ∧
    (s.removeClaim ℓ c pure).released = s.released ∧ (s.removeClaim ℓ c pure).lists = s.lists ∧
    (s.removeClaim ℓ c pure).view = s.view ∧ (s.removeClaim ℓ c pure).log = s.log ∧
    (s.removeClaim ℓ c pure).port = s.port ∧ (s.removeClaim ℓ c pure).attention = s.attention ∧
    (s.removeClaim ℓ c pure).freeCount = s.freeCount := by
  obtain ⟨t, ht⟩ : ∃ t, t = s.removeClaim ℓ c pure := ⟨_, rfl⟩
  rw [← ht]
  unfold State.removeClaim at ht
  try dsimp only at ht
  repeat' split at ht
  all_goals (subst ht; simp)

@[simp] theorem State.withdrawClaim_frame (ℓ : LaneId) (o : ResultOutcome) :
    (s.withdrawClaim ℓ o).pending = s.pending ∧ (s.withdrawClaim ℓ o).pins = s.pins ∧
    (s.withdrawClaim ℓ o).unit = s.unit ∧ (s.withdrawClaim ℓ o).channels = s.channels ∧
    (s.withdrawClaim ℓ o).released = s.released ∧ (s.withdrawClaim ℓ o).lists = s.lists ∧
    (s.withdrawClaim ℓ o).view = s.view ∧ (s.withdrawClaim ℓ o).port = s.port ∧
    (s.withdrawClaim ℓ o).freeCount = s.freeCount := by
  obtain ⟨t, ht⟩ : ∃ t, t = s.withdrawClaim ℓ o := ⟨_, rfl⟩
  rw [← ht]
  unfold State.withdrawClaim at ht
  try dsimp only at ht
  repeat' split at ht
  all_goals (subst ht; simp)

@[simp] theorem State.endReclaim_frame (ℓ : LaneId) :
    (s.endReclaim ℓ).pending = s.pending ∧ (s.endReclaim ℓ).pins = s.pins ∧ (s.endReclaim ℓ).unit = s.unit ∧
    (s.endReclaim ℓ).channels = s.channels ∧ (s.endReclaim ℓ).released = s.released ∧
    (s.endReclaim ℓ).lists = s.lists ∧ (s.endReclaim ℓ).view = s.view ∧ (s.endReclaim ℓ).log = s.log ∧
    (s.endReclaim ℓ).port = s.port ∧ (s.endReclaim ℓ).attention = s.attention ∧
    (s.endReclaim ℓ).freeCount = s.freeCount := by
  obtain ⟨t, ht⟩ : ∃ t, t = s.endReclaim ℓ := ⟨_, rfl⟩
  rw [← ht]
  unfold State.endReclaim at ht
  try dsimp only at ht
  repeat' split at ht
  all_goals (subst ht; simp)

@[simp] theorem State.failReclaim_frame (ℓ : LaneId) :
    (s.failReclaim ℓ).pending = s.pending ∧ (s.failReclaim ℓ).pins = s.pins ∧ (s.failReclaim ℓ).unit = s.unit ∧
    (s.failReclaim ℓ).channels = s.channels ∧ (s.failReclaim ℓ).released = s.released ∧
    (s.failReclaim ℓ).lists = s.lists ∧ (s.failReclaim ℓ).view = s.view ∧ (s.failReclaim ℓ).log = s.log ∧
    (s.failReclaim ℓ).port = s.port ∧ (s.failReclaim ℓ).freeCount = s.freeCount := by
  simp [State.failReclaim]

@[simp] theorem State.handVoided_frame (ℓ : LaneId) :
    (s.handVoided ℓ).pending = s.pending ∧ (s.handVoided ℓ).pins = s.pins ∧ (s.handVoided ℓ).unit = s.unit ∧
    (s.handVoided ℓ).channels = s.channels ∧ (s.handVoided ℓ).released = s.released ∧
    (s.handVoided ℓ).lists = s.lists ∧ (s.handVoided ℓ).line = s.line ∧ (s.handVoided ℓ).view = s.view ∧
    (s.handVoided ℓ).port = s.port ∧ (s.handVoided ℓ).attention = s.attention ∧
    (s.handVoided ℓ).freeCount = s.freeCount := by
  obtain ⟨t, ht⟩ : ∃ t, t = s.handVoided ℓ := ⟨_, rfl⟩
  rw [← ht]
  unfold State.handVoided at ht
  try dsimp only at ht
  repeat' split at ht
  all_goals (subst ht; simp)

@[simp] theorem State.leaveClosing_frame (ℓ : LaneId) (c : Closing) (r : LoadRecord) :
    (s.leaveClosing ℓ c r).pending = s.pending ∧ (s.leaveClosing ℓ c r).pins = s.pins ∧
    (s.leaveClosing ℓ c r).unit = s.unit ∧ (s.leaveClosing ℓ c r).channels = s.channels ∧
    (s.leaveClosing ℓ c r).released = s.released ∧ (s.leaveClosing ℓ c r).lists = s.lists ∧
    (s.leaveClosing ℓ c r).view = s.view ∧ (s.leaveClosing ℓ c r).port = s.port ∧
    (s.leaveClosing ℓ c r).freeCount = s.freeCount := by
  obtain ⟨t, ht⟩ : ∃ t, t = s.leaveClosing ℓ c r := ⟨_, rfl⟩
  rw [← ht]
  unfold State.leaveClosing at ht
  try dsimp only at ht
  repeat' split at ht
  all_goals (subst ht; simp)

@[simp] theorem State.testClosing_frame (ℓ : LaneId) :
    (s.testClosing ℓ).pending = s.pending ∧ (s.testClosing ℓ).pins = s.pins ∧ (s.testClosing ℓ).unit = s.unit ∧
    (s.testClosing ℓ).channels = s.channels ∧ (s.testClosing ℓ).released = s.released ∧
    (s.testClosing ℓ).lists = s.lists ∧ (s.testClosing ℓ).view = s.view ∧ (s.testClosing ℓ).port = s.port ∧
    (s.testClosing ℓ).freeCount = s.freeCount := by
  obtain ⟨t, ht⟩ : ∃ t, t = s.testClosing ℓ := ⟨_, rfl⟩
  rw [← ht]
  unfold State.testClosing at ht
  try dsimp only at ht
  repeat' split at ht
  all_goals (subst ht; simp)

@[simp] theorem State.returnToLoading_frame (ℓ : LaneId) :
    (s.returnToLoading ℓ).pending = s.pending ∧ (s.returnToLoading ℓ).pins = s.pins ∧
    (s.returnToLoading ℓ).unit = s.unit ∧ (s.returnToLoading ℓ).released = s.released ∧
    (s.returnToLoading ℓ).lists = s.lists ∧ (s.returnToLoading ℓ).view = s.view ∧
    (s.returnToLoading ℓ).log = s.log ∧ (s.returnToLoading ℓ).port = s.port ∧
    (s.returnToLoading ℓ).freeCount = s.freeCount := by
  obtain ⟨t, ht⟩ : ∃ t, t = s.returnToLoading ℓ := ⟨_, rfl⟩
  rw [← ht]
  unfold State.returnToLoading at ht
  try dsimp only at ht
  repeat' split at ht
  all_goals (subst ht; simp)

@[simp] theorem State.finishChannel_frame (c : ChanId) :
    (s.finishChannel c).pending = s.pending ∧ (s.finishChannel c).pins = s.pins ∧
    (s.finishChannel c).unit = s.unit ∧ (s.finishChannel c).released = s.released ∧
    (s.finishChannel c).lists = s.lists ∧ (s.finishChannel c).view = s.view ∧ (s.finishChannel c).port = s.port ∧
    (s.finishChannel c).freeCount = s.freeCount := by
  obtain ⟨t, ht⟩ : ∃ t, t = s.finishChannel c := ⟨_, rfl⟩
  rw [← ht]
  unfold State.finishChannel at ht
  try dsimp only at ht
  repeat' split at ht
  all_goals (subst ht; simp)

@[simp] theorem State.finishIfEnded_frame (c : ChanId) :
    (s.finishIfEnded c).pending = s.pending ∧ (s.finishIfEnded c).pins = s.pins ∧
    (s.finishIfEnded c).unit = s.unit ∧ (s.finishIfEnded c).released = s.released ∧
    (s.finishIfEnded c).lists = s.lists ∧ (s.finishIfEnded c).view = s.view ∧ (s.finishIfEnded c).port = s.port ∧
    (s.finishIfEnded c).freeCount = s.freeCount := by
  obtain ⟨t, ht⟩ : ∃ t, t = s.finishIfEnded c := ⟨_, rfl⟩
  rw [← ht]
  unfold State.finishIfEnded at ht
  try dsimp only at ht
  repeat' split at ht
  all_goals (subst ht; simp)

@[simp] theorem State.laneLogFault_frame (ℓ : LaneId) :
    (s.laneLogFault ℓ).pending = s.pending ∧ (s.laneLogFault ℓ).pins = s.pins ∧ (s.laneLogFault ℓ).unit = s.unit ∧
    (s.laneLogFault ℓ).released = s.released ∧ (s.laneLogFault ℓ).lists = s.lists ∧
    (s.laneLogFault ℓ).view = s.view ∧ (s.laneLogFault ℓ).log = s.log ∧ (s.laneLogFault ℓ).port = s.port ∧
    (s.laneLogFault ℓ).freeCount = s.freeCount := by
  obtain ⟨t, ht⟩ : ∃ t, t = s.laneLogFault ℓ := ⟨_, rfl⟩
  rw [← ht]
  unfold State.laneLogFault at ht
  try dsimp only at ht
  repeat' split at ht
  all_goals (subst ht; simp)

@[simp] theorem State.enterLogFault_frame :
    (s.enterLogFault).pending = s.pending ∧ (s.enterLogFault).pins = s.pins ∧ (s.enterLogFault).unit = s.unit ∧
    (s.enterLogFault).released = s.released ∧ (s.enterLogFault).lists = s.lists ∧
    (s.enterLogFault).view = s.view ∧ (s.enterLogFault).port = s.port ∧
    (s.enterLogFault).freeCount = s.freeCount := by
  simp [State.enterLogFault, ChanId.all, List.foldl]

@[simp] theorem State.orderReachesClosing_frame (ℓ : LaneId) :
    (s.orderReachesClosing ℓ).pending = s.pending ∧ (s.orderReachesClosing ℓ).pins = s.pins ∧
    (s.orderReachesClosing ℓ).unit = s.unit ∧ (s.orderReachesClosing ℓ).released = s.released ∧
    (s.orderReachesClosing ℓ).lists = s.lists ∧ (s.orderReachesClosing ℓ).view = s.view ∧
    (s.orderReachesClosing ℓ).port = s.port ∧ (s.orderReachesClosing ℓ).freeCount = s.freeCount := by
  obtain ⟨t, ht⟩ : ∃ t, t = s.orderReachesClosing ℓ := ⟨_, rfl⟩
  rw [← ht]
  unfold State.orderReachesClosing at ht
  try dsimp only at ht
  repeat' split at ht
  all_goals (subst ht; simp)

@[simp] theorem State.matchLane_frame (ℓ : LaneId) :
    (s.matchLane ℓ).pending = s.pending ∧ (s.matchLane ℓ).pins = s.pins ∧ (s.matchLane ℓ).unit = s.unit ∧
    (s.matchLane ℓ).released = s.released ∧ (s.matchLane ℓ).lists = s.lists ∧ (s.matchLane ℓ).view = s.view ∧
    (s.matchLane ℓ).port = s.port ∧ (s.matchLane ℓ).freeCount = s.freeCount := by
  obtain ⟨t, ht⟩ : ∃ t, t = s.matchLane ℓ := ⟨_, rfl⟩
  rw [← ht]
  unfold State.matchLane at ht
  try dsimp only at ht
  repeat' split at ht
  all_goals (subst ht; simp)

@[simp] theorem State.matchLanes_frame :
    (s.matchLanes).pending = s.pending ∧ (s.matchLanes).pins = s.pins ∧ (s.matchLanes).unit = s.unit ∧
    (s.matchLanes).released = s.released ∧ (s.matchLanes).lists = s.lists ∧ (s.matchLanes).view = s.view ∧
    (s.matchLanes).port = s.port ∧ (s.matchLanes).freeCount = s.freeCount := by
  simp [State.matchLanes]

@[simp] theorem State.matchWatch_frame (d : Nat) (v : Option Nat) (l : Latch) :
    (s.matchWatch d v l).pending = s.pending ∧ (s.matchWatch d v l).pins = s.pins ∧
    (s.matchWatch d v l).unit = s.unit ∧ (s.matchWatch d v l).lanes = s.lanes ∧
    (s.matchWatch d v l).channels = s.channels ∧ (s.matchWatch d v l).released = s.released ∧
    (s.matchWatch d v l).line = s.line ∧ (s.matchWatch d v l).view = s.view ∧ (s.matchWatch d v l).log = s.log ∧
    (s.matchWatch d v l).port = s.port ∧ (s.matchWatch d v l).freeCount = s.freeCount := by
  obtain ⟨t, ht⟩ : ∃ t, t = s.matchWatch d v l := ⟨_, rfl⟩
  rw [← ht]
  unfold State.matchWatch at ht
  try dsimp only at ht
  repeat' split at ht
  all_goals (subst ht; simp)

@[simp] theorem State.matchOwn_frame (ℓ : LaneId) (d v : Nat) (e : WatchEvent) :
    (s.matchOwn ℓ d v e).pending = s.pending ∧ (s.matchOwn ℓ d v e).pins = s.pins ∧
    (s.matchOwn ℓ d v e).unit = s.unit ∧ (s.matchOwn ℓ d v e).released = s.released ∧
    (s.matchOwn ℓ d v e).view = s.view ∧ (s.matchOwn ℓ d v e).log = s.log ∧ (s.matchOwn ℓ d v e).port = s.port ∧
    (s.matchOwn ℓ d v e).freeCount = s.freeCount := by
  obtain ⟨t, ht⟩ : ∃ t, t = s.matchOwn ℓ d v e := ⟨_, rfl⟩
  rw [← ht]
  unfold State.matchOwn at ht
  try dsimp only at ht
  repeat' split at ht
  all_goals (subst ht; simp)

@[simp] theorem State.acceptCheckIn_frame (ℓ : LaneId) (x : CheckInFields) :
    (s.acceptCheckIn ℓ x).pending = s.pending ∧ (s.acceptCheckIn ℓ x).pins = s.pins ∧
    (s.acceptCheckIn ℓ x).unit = s.unit ∧ (s.acceptCheckIn ℓ x).released = s.released ∧
    (s.acceptCheckIn ℓ x).view = s.view ∧ (s.acceptCheckIn ℓ x).port = s.port ∧
    (s.acceptCheckIn ℓ x).freeCount = s.freeCount := by
  simp [State.acceptCheckIn]

@[simp] theorem State.acceptReDriver_frame (ℓ : LaneId) (d : Nat) (f : FigureSet) :
    (s.acceptReDriver ℓ d f).pending = s.pending ∧ (s.acceptReDriver ℓ d f).pins = s.pins ∧
    (s.acceptReDriver ℓ d f).unit = s.unit ∧ (s.acceptReDriver ℓ d f).released = s.released ∧
    (s.acceptReDriver ℓ d f).view = s.view ∧ (s.acceptReDriver ℓ d f).log = s.log ∧
    (s.acceptReDriver ℓ d f).port = s.port ∧ (s.acceptReDriver ℓ d f).freeCount = s.freeCount := by
  simp [State.acceptReDriver]

@[simp] theorem State.voidChannel_frame (ℓ : LaneId) (c : ChanId) :
    (State.voidChannel ℓ s c).pending = s.pending ∧ (State.voidChannel ℓ s c).pins = s.pins ∧
    (State.voidChannel ℓ s c).unit = s.unit ∧ (State.voidChannel ℓ s c).lanes = s.lanes ∧
    (State.voidChannel ℓ s c).released = s.released ∧ (State.voidChannel ℓ s c).lists = s.lists ∧
    (State.voidChannel ℓ s c).view = s.view ∧ (State.voidChannel ℓ s c).log = s.log ∧
    (State.voidChannel ℓ s c).port = s.port ∧ (State.voidChannel ℓ s c).attention = s.attention ∧
    (State.voidChannel ℓ s c).freeCount = s.freeCount := by
  obtain ⟨t, ht⟩ : ∃ t, t = State.voidChannel ℓ s c := ⟨_, rfl⟩
  rw [← ht]
  unfold State.voidChannel at ht
  try dsimp only at ht
  repeat' split at ht
  all_goals (subst ht; simp)

@[simp] theorem State.acceptVoid_frame (ℓ : LaneId) :
    (s.acceptVoid ℓ).pending = s.pending ∧ (s.acceptVoid ℓ).pins = s.pins ∧ (s.acceptVoid ℓ).unit = s.unit ∧
    (s.acceptVoid ℓ).released = s.released ∧ (s.acceptVoid ℓ).lists = s.lists ∧ (s.acceptVoid ℓ).view = s.view ∧
    (s.acceptVoid ℓ).port = s.port ∧ (s.acceptVoid ℓ).freeCount = s.freeCount := by
  simp [State.acceptVoid, ChanId.all, List.foldl]

@[simp] theorem State.acceptArm_frame (c : ChanId) (ℓ : LaneId) (n : Nat) (q : Nat × Int × Nat) :
    (s.acceptArm c ℓ n q).pending = s.pending ∧ (s.acceptArm c ℓ n q).pins = s.pins ∧
    (s.acceptArm c ℓ n q).unit = s.unit ∧ (s.acceptArm c ℓ n q).lanes = s.lanes ∧
    (s.acceptArm c ℓ n q).released = s.released ∧ (s.acceptArm c ℓ n q).lists = s.lists ∧
    (s.acceptArm c ℓ n q).line = s.line ∧ (s.acceptArm c ℓ n q).view = s.view ∧
    (s.acceptArm c ℓ n q).log = s.log ∧ (s.acceptArm c ℓ n q).port = s.port ∧
    (s.acceptArm c ℓ n q).attention = s.attention ∧ (s.acceptArm c ℓ n q).freeCount = s.freeCount := by
  simp [State.acceptArm]

@[simp] theorem State.startPouring_frame (c : ChanId) :
    (s.startPouring c).pending = s.pending ∧ (s.startPouring c).pins = s.pins ∧ (s.startPouring c).unit = s.unit ∧
    (s.startPouring c).lanes = s.lanes ∧ (s.startPouring c).released = s.released ∧
    (s.startPouring c).lists = s.lists ∧ (s.startPouring c).view = s.view ∧ (s.startPouring c).log = s.log ∧
    (s.startPouring c).port = s.port ∧ (s.startPouring c).attention = s.attention ∧
    (s.startPouring c).freeCount = s.freeCount := by
  simp [State.startPouring]

@[simp] theorem State.acceptHoldIssue_frame (n : Nat) (kind : KeyKind) (key reason : Nat) :
    (s.acceptHoldIssue n kind key reason).pending = s.pending ∧
    (s.acceptHoldIssue n kind key reason).pins = s.pins ∧ (s.acceptHoldIssue n kind key reason).unit = s.unit ∧
    (s.acceptHoldIssue n kind key reason).released = s.released ∧
    (s.acceptHoldIssue n kind key reason).view = s.view ∧ (s.acceptHoldIssue n kind key reason).port = s.port ∧
    (s.acceptHoldIssue n kind key reason).freeCount = s.freeCount := by
  simp [State.acceptHoldIssue]

@[simp] theorem State.acceptHoldCancel_frame (n : Nat) (kind : KeyKind) (key reason : Nat) :
    (s.acceptHoldCancel n kind key reason).pending = s.pending ∧
    (s.acceptHoldCancel n kind key reason).pins = s.pins ∧ (s.acceptHoldCancel n kind key reason).unit = s.unit ∧
    (s.acceptHoldCancel n kind key reason).released = s.released ∧
    (s.acceptHoldCancel n kind key reason).view = s.view ∧ (s.acceptHoldCancel n kind key reason).port = s.port ∧
    (s.acceptHoldCancel n kind key reason).freeCount = s.freeCount := by
  simp [State.acceptHoldCancel]

@[simp] theorem State.trim_frame (gone : List (Nat × SlotEntry)) :
    (s.trim gone).pending = s.pending ∧ (s.trim gone).pins = s.pins ∧ (s.trim gone).unit = s.unit ∧
    (s.trim gone).lanes = s.lanes ∧ (s.trim gone).channels = s.channels ∧ (s.trim gone).released = s.released ∧
    (s.trim gone).lists = s.lists ∧ (s.trim gone).line = s.line ∧ (s.trim gone).view = s.view ∧
    (s.trim gone).port = s.port ∧ (s.trim gone).attention = s.attention ∧
    (s.trim gone).freeCount = s.freeCount := by
  obtain ⟨t, ht⟩ : ∃ t, t = s.trim gone := ⟨_, rfl⟩
  rw [← ht]
  unfold State.trim at ht
  try dsimp only at ht
  repeat' split at ht
  all_goals (subst ht; simp)

@[simp] theorem State.queueStop_frame :
    (s.queueStop).pending = s.pending ∧ (s.queueStop).pins = s.pins ∧ (s.queueStop).unit = s.unit ∧
    (s.queueStop).lanes = s.lanes ∧ (s.queueStop).channels = s.channels ∧ (s.queueStop).released = s.released ∧
    (s.queueStop).lists = s.lists ∧ (s.queueStop).view = s.view ∧ (s.queueStop).log = s.log ∧
    (s.queueStop).port = s.port ∧ (s.queueStop).attention = s.attention ∧
    (s.queueStop).freeCount = s.freeCount := by
  obtain ⟨t, ht⟩ : ∃ t, t = s.queueStop := ⟨_, rfl⟩
  rw [← ht]
  unfold State.queueStop at ht
  try dsimp only at ht
  repeat' split at ht
  all_goals (subst ht; simp)

@[simp] theorem State.setOwnStop_frame :
    (s.setOwnStop).pending = s.pending ∧ (s.setOwnStop).pins = s.pins ∧ (s.setOwnStop).unit = s.unit ∧
    (s.setOwnStop).lanes = s.lanes ∧ (s.setOwnStop).channels = s.channels ∧ (s.setOwnStop).released = s.released ∧
    (s.setOwnStop).line = s.line ∧ (s.setOwnStop).view = s.view ∧ (s.setOwnStop).log = s.log ∧
    (s.setOwnStop).port = s.port ∧ (s.setOwnStop).attention = s.attention ∧
    (s.setOwnStop).freeCount = s.freeCount := by
  simp [State.setOwnStop]

@[simp] theorem State.enterJoining_frame :
    (s.enterJoining).pending = s.pending ∧ (s.enterJoining).pins = s.pins ∧ (s.enterJoining).lanes = s.lanes ∧
    (s.enterJoining).channels = s.channels ∧ (s.enterJoining).released = s.released ∧
    (s.enterJoining).log = s.log ∧ (s.enterJoining).port = s.port ∧ (s.enterJoining).attention = s.attention ∧
    (s.enterJoining).freeCount = s.freeCount := by
  obtain ⟨t, ht⟩ : ∃ t, t = s.enterJoining := ⟨_, rfl⟩
  rw [← ht]
  unfold State.enterJoining at ht
  try dsimp only at ht
  repeat' split at ht
  all_goals (subst ht; simp)

@[simp] theorem State.showStraps_frame (a : Fin 32) (r : Fin 4) :
    (s.showStraps a r).pending = s.pending ∧ (s.showStraps a r).unit = s.unit ∧
    (s.showStraps a r).lanes = s.lanes ∧ (s.showStraps a r).channels = s.channels ∧
    (s.showStraps a r).released = s.released ∧ (s.showStraps a r).lists = s.lists ∧
    (s.showStraps a r).line = s.line ∧ (s.showStraps a r).view = s.view ∧ (s.showStraps a r).log = s.log ∧
    (s.showStraps a r).port = s.port ∧ (s.showStraps a r).attention = s.attention ∧
    (s.showStraps a r).freeCount = s.freeCount := by
  simp [State.showStraps]

@[simp] theorem State.readStraps_frame :
    (s.readStraps).pending = s.pending ∧ (s.readStraps).pins = s.pins ∧ (s.readStraps).lanes = s.lanes ∧
    (s.readStraps).channels = s.channels ∧ (s.readStraps).released = s.released ∧ (s.readStraps).lists = s.lists ∧
    (s.readStraps).line = s.line ∧ (s.readStraps).view = s.view ∧ (s.readStraps).log = s.log ∧
    (s.readStraps).port = s.port ∧ (s.readStraps).attention = s.attention ∧
    (s.readStraps).freeCount = s.freeCount := by
  simp [State.readStraps]

@[simp] theorem State.abandonExchange_frame :
    (s.abandonExchange).pending = s.pending ∧ (s.abandonExchange).pins = s.pins ∧
    (s.abandonExchange).lanes = s.lanes ∧ (s.abandonExchange).channels = s.channels ∧
    (s.abandonExchange).released = s.released ∧ (s.abandonExchange).lists = s.lists ∧
    (s.abandonExchange).line = s.line ∧ (s.abandonExchange).view = s.view ∧ (s.abandonExchange).log = s.log ∧
    (s.abandonExchange).attention = s.attention ∧ (s.abandonExchange).freeCount = s.freeCount := by
  simp [State.abandonExchange]

@[simp] theorem State.clearConfig_frame :
    (s.clearConfig).pending = s.pending ∧ (s.clearConfig).pins = s.pins ∧ (s.clearConfig).lanes = s.lanes ∧
    (s.clearConfig).channels = s.channels ∧ (s.clearConfig).released = s.released ∧
    (s.clearConfig).lists = s.lists ∧ (s.clearConfig).line = s.line ∧ (s.clearConfig).view = s.view ∧
    (s.clearConfig).log = s.log ∧ (s.clearConfig).port = s.port ∧ (s.clearConfig).attention = s.attention ∧
    (s.clearConfig).freeCount = s.freeCount := by
  simp [State.clearConfig]

@[simp] theorem State.setCauses_frame (c : CauseSet) :
    (s.setCauses c).pending = s.pending ∧ (s.setCauses c).pins = s.pins ∧ (s.setCauses c).lanes = s.lanes ∧
    (s.setCauses c).channels = s.channels ∧ (s.setCauses c).released = s.released ∧
    (s.setCauses c).lists = s.lists ∧ (s.setCauses c).line = s.line ∧ (s.setCauses c).view = s.view ∧
    (s.setCauses c).log = s.log ∧ (s.setCauses c).port = s.port ∧ (s.setCauses c).attention = s.attention ∧
    (s.setCauses c).freeCount = s.freeCount := by
  simp [State.setCauses]

@[simp] theorem State.strayPulse_frame (c : ChanId) :
    (s.strayPulse c).pending = s.pending ∧ (s.strayPulse c).pins = s.pins ∧ (s.strayPulse c).unit = s.unit ∧
    (s.strayPulse c).lanes = s.lanes ∧ (s.strayPulse c).released = s.released ∧ (s.strayPulse c).lists = s.lists ∧
    (s.strayPulse c).line = s.line ∧ (s.strayPulse c).view = s.view ∧ (s.strayPulse c).log = s.log ∧
    (s.strayPulse c).port = s.port ∧ (s.strayPulse c).freeCount = s.freeCount := by
  obtain ⟨t, ht⟩ : ∃ t, t = s.strayPulse c := ⟨_, rfl⟩
  rw [← ht]
  unfold State.strayPulse at ht
  try dsimp only at ht
  repeat' split at ht
  all_goals (subst ht; simp)

@[simp] theorem State.pouringPulse_frame (c : ChanId) :
    (s.pouringPulse c).pending = s.pending ∧ (s.pouringPulse c).pins = s.pins ∧ (s.pouringPulse c).unit = s.unit ∧
    (s.pouringPulse c).released = s.released ∧ (s.pouringPulse c).lists = s.lists ∧
    (s.pouringPulse c).view = s.view ∧ (s.pouringPulse c).log = s.log ∧ (s.pouringPulse c).port = s.port ∧
    (s.pouringPulse c).attention = s.attention ∧ (s.pouringPulse c).freeCount = s.freeCount := by
  obtain ⟨t, ht⟩ : ∃ t, t = s.pouringPulse c := ⟨_, rfl⟩
  rw [← ht]
  unfold State.pouringPulse at ht
  try dsimp only at ht
  repeat' split at ht
  all_goals (subst ht; simp)

@[simp] theorem State.suspendedPulse_frame (c : ChanId) :
    (s.suspendedPulse c).pending = s.pending ∧ (s.suspendedPulse c).pins = s.pins ∧
    (s.suspendedPulse c).unit = s.unit ∧ (s.suspendedPulse c).released = s.released ∧
    (s.suspendedPulse c).lists = s.lists ∧ (s.suspendedPulse c).view = s.view ∧ (s.suspendedPulse c).log = s.log ∧
    (s.suspendedPulse c).port = s.port ∧ (s.suspendedPulse c).attention = s.attention ∧
    (s.suspendedPulse c).freeCount = s.freeCount := by
  obtain ⟨t, ht⟩ : ∃ t, t = s.suspendedPulse c := ⟨_, rfl⟩
  rw [← ht]
  unfold State.suspendedPulse at ht
  try dsimp only at ht
  repeat' split at ht
  all_goals (subst ht; simp)

@[simp] theorem State.pulse_frame (c : ChanId) :
    (s.pulse c).pending = s.pending ∧ (s.pulse c).pins = s.pins ∧ (s.pulse c).unit = s.unit ∧
    (s.pulse c).released = s.released ∧ (s.pulse c).lists = s.lists ∧ (s.pulse c).view = s.view ∧
    (s.pulse c).log = s.log ∧ (s.pulse c).port = s.port ∧ (s.pulse c).freeCount = s.freeCount := by
  obtain ⟨t, ht⟩ : ∃ t, t = s.pulse c := ⟨_, rfl⟩
  rw [← ht]
  unfold State.pulse at ht
  try dsimp only at ht
  repeat' split at ht
  all_goals (subst ht; simp)

@[simp] theorem State.setPressed_frame (c : ChanId) (v : Bool) :
    (s.setPressed c v).pending = s.pending ∧ (s.setPressed c v).unit = s.unit ∧
    (s.setPressed c v).lanes = s.lanes ∧ (s.setPressed c v).channels = s.channels ∧
    (s.setPressed c v).released = s.released ∧ (s.setPressed c v).lists = s.lists ∧
    (s.setPressed c v).line = s.line ∧ (s.setPressed c v).view = s.view ∧ (s.setPressed c v).log = s.log ∧
    (s.setPressed c v).port = s.port ∧ (s.setPressed c v).attention = s.attention ∧
    (s.setPressed c v).freeCount = s.freeCount := by
  simp [State.setPressed]

@[simp] theorem State.setCoupled_frame (c : ChanId) (v : Bool) :
    (s.setCoupled c v).pending = s.pending ∧ (s.setCoupled c v).unit = s.unit ∧
    (s.setCoupled c v).lanes = s.lanes ∧ (s.setCoupled c v).channels = s.channels ∧
    (s.setCoupled c v).released = s.released ∧ (s.setCoupled c v).lists = s.lists ∧
    (s.setCoupled c v).line = s.line ∧ (s.setCoupled c v).view = s.view ∧ (s.setCoupled c v).log = s.log ∧
    (s.setCoupled c v).port = s.port ∧ (s.setCoupled c v).attention = s.attention ∧
    (s.setCoupled c v).freeCount = s.freeCount := by
  simp [State.setCoupled]

@[simp] theorem State.startPour_frame (c : ChanId) :
    (s.startPour c).pending = s.pending ∧ (s.startPour c).pins = s.pins ∧ (s.startPour c).unit = s.unit ∧
    (s.startPour c).lanes = s.lanes ∧ (s.startPour c).released = s.released ∧ (s.startPour c).lists = s.lists ∧
    (s.startPour c).view = s.view ∧ (s.startPour c).log = s.log ∧ (s.startPour c).port = s.port ∧
    (s.startPour c).attention = s.attention ∧ (s.startPour c).freeCount = s.freeCount := by
  simp [State.startPour]

@[simp] theorem State.wetChannel_frame (ℓ : LaneId) (c : ChanId) :
    (State.wetChannel ℓ s c).pending = s.pending ∧ (State.wetChannel ℓ s c).pins = s.pins ∧
    (State.wetChannel ℓ s c).unit = s.unit ∧ (State.wetChannel ℓ s c).lanes = s.lanes ∧
    (State.wetChannel ℓ s c).released = s.released ∧ (State.wetChannel ℓ s c).lists = s.lists ∧
    (State.wetChannel ℓ s c).view = s.view ∧ (State.wetChannel ℓ s c).log = s.log ∧
    (State.wetChannel ℓ s c).port = s.port ∧ (State.wetChannel ℓ s c).attention = s.attention ∧
    (State.wetChannel ℓ s c).freeCount = s.freeCount := by
  obtain ⟨t, ht⟩ : ∃ t, t = State.wetChannel ℓ s c := ⟨_, rfl⟩
  rw [← ht]
  unfold State.wetChannel at ht
  try dsimp only at ht
  repeat' split at ht
  all_goals (subst ht; simp)

@[simp] theorem State.stopChanged_frame :
    (s.stopChanged).pending = s.pending ∧ (s.stopChanged).pins = s.pins ∧ (s.stopChanged).unit = s.unit ∧
    (s.stopChanged).lanes = s.lanes ∧ (s.stopChanged).released = s.released ∧ (s.stopChanged).view = s.view ∧
    (s.stopChanged).log = s.log ∧ (s.stopChanged).port = s.port ∧ (s.stopChanged).freeCount = s.freeCount := by
  simp [State.stopChanged]

@[simp] theorem State.handPour_frame (c : ChanId) (ℓ : LaneId) (n : Nat) (comp : Comp) :
    (s.handPour c ℓ n comp).pending = s.pending ∧ (s.handPour c ℓ n comp).pins = s.pins ∧
    (s.handPour c ℓ n comp).unit = s.unit ∧ (s.handPour c ℓ n comp).lanes = s.lanes ∧
    (s.handPour c ℓ n comp).channels = s.channels ∧ (s.handPour c ℓ n comp).released = s.released ∧
    (s.handPour c ℓ n comp).lists = s.lists ∧ (s.handPour c ℓ n comp).line = s.line ∧
    (s.handPour c ℓ n comp).view = s.view ∧ (s.handPour c ℓ n comp).port = s.port ∧
    (s.handPour c ℓ n comp).attention = s.attention ∧ (s.handPour c ℓ n comp).freeCount = s.freeCount := by
  obtain ⟨t, ht⟩ : ∃ t, t = s.handPour c ℓ n comp := ⟨_, rfl⟩
  rw [← ht]
  unfold State.handPour at ht
  try dsimp only at ht
  repeat' split at ht
  all_goals (subst ht; simp)

@[simp] theorem State.endAt_frame (c : ChanId) (ℓ : LaneId) (n : Nat) (comp : Comp) :
    (s.endAt c ℓ n comp).pending = s.pending ∧ (s.endAt c ℓ n comp).pins = s.pins ∧
    (s.endAt c ℓ n comp).unit = s.unit ∧ (s.endAt c ℓ n comp).channels = s.channels ∧
    (s.endAt c ℓ n comp).released = s.released ∧ (s.endAt c ℓ n comp).lists = s.lists ∧
    (s.endAt c ℓ n comp).line = s.line ∧ (s.endAt c ℓ n comp).view = s.view ∧ (s.endAt c ℓ n comp).port = s.port ∧
    (s.endAt c ℓ n comp).attention = s.attention ∧ (s.endAt c ℓ n comp).freeCount = s.freeCount := by
  simp [State.endAt]

@[simp] theorem State.settled_frame (c : ChanId) :
    (s.settled c).pending = s.pending ∧ (s.settled c).pins = s.pins ∧ (s.settled c).unit = s.unit ∧
    (s.settled c).released = s.released ∧ (s.settled c).lists = s.lists ∧ (s.settled c).view = s.view ∧
    (s.settled c).port = s.port ∧ (s.settled c).freeCount = s.freeCount := by
  obtain ⟨t, ht⟩ : ∃ t, t = s.settled c := ⟨_, rfl⟩
  rw [← ht]
  unfold State.settled at ht
  try dsimp only at ht
  repeat' split at ht
  all_goals (subst ht; simp)

@[simp] theorem State.claimSucceeds_frame (ℓ : LaneId) (r : LoadRecord) :
    (s.claimSucceeds ℓ r).pending = s.pending ∧ (s.claimSucceeds ℓ r).pins = s.pins ∧
    (s.claimSucceeds ℓ r).unit = s.unit ∧ (s.claimSucceeds ℓ r).channels = s.channels ∧
    (s.claimSucceeds ℓ r).released = s.released ∧ (s.claimSucceeds ℓ r).lists = s.lists ∧
    (s.claimSucceeds ℓ r).line = s.line ∧ (s.claimSucceeds ℓ r).view = s.view ∧
    (s.claimSucceeds ℓ r).port = s.port ∧ (s.claimSucceeds ℓ r).freeCount = s.freeCount := by
  simp [State.claimSucceeds]

@[simp] theorem State.pureReclaim_frame (ℓ : LaneId) :
    (s.pureReclaim ℓ).pending = s.pending ∧ (s.pureReclaim ℓ).pins = s.pins ∧ (s.pureReclaim ℓ).unit = s.unit ∧
    (s.pureReclaim ℓ).channels = s.channels ∧ (s.pureReclaim ℓ).released = s.released ∧
    (s.pureReclaim ℓ).lists = s.lists ∧ (s.pureReclaim ℓ).line = s.line ∧ (s.pureReclaim ℓ).view = s.view ∧
    (s.pureReclaim ℓ).log = s.log ∧ (s.pureReclaim ℓ).port = s.port ∧
    (s.pureReclaim ℓ).freeCount = s.freeCount := by
  simp [State.pureReclaim]

@[simp] theorem State.setDuty_frame (ℓ : LaneId) (d : Option DutyResult) :
    (s.setDuty ℓ d).pending = s.pending ∧ (s.setDuty ℓ d).pins = s.pins ∧ (s.setDuty ℓ d).unit = s.unit ∧
    (s.setDuty ℓ d).channels = s.channels ∧ (s.setDuty ℓ d).released = s.released ∧
    (s.setDuty ℓ d).lists = s.lists ∧ (s.setDuty ℓ d).line = s.line ∧ (s.setDuty ℓ d).view = s.view ∧
    (s.setDuty ℓ d).log = s.log ∧ (s.setDuty ℓ d).port = s.port ∧ (s.setDuty ℓ d).attention = s.attention ∧
    (s.setDuty ℓ d).freeCount = s.freeCount := by
  simp [State.setDuty]

@[simp] theorem State.failDuty_frame (ℓ : LaneId) (o : DutyOutcome) :
    (s.failDuty ℓ o).pending = s.pending ∧ (s.failDuty ℓ o).pins = s.pins ∧ (s.failDuty ℓ o).unit = s.unit ∧
    (s.failDuty ℓ o).released = s.released ∧ (s.failDuty ℓ o).lists = s.lists ∧ (s.failDuty ℓ o).view = s.view ∧
    (s.failDuty ℓ o).log = s.log ∧ (s.failDuty ℓ o).port = s.port ∧ (s.failDuty ℓ o).freeCount = s.freeCount := by
  obtain ⟨t, ht⟩ : ∃ t, t = s.failDuty ℓ o := ⟨_, rfl⟩
  rw [← ht]
  unfold State.failDuty at ht
  try dsimp only at ht
  repeat' split at ht
  all_goals (subst ht; simp)

@[simp] theorem State.recompute_frame (ℓ : LaneId) :
    (s.recompute ℓ).pending = s.pending ∧ (s.recompute ℓ).pins = s.pins ∧ (s.recompute ℓ).unit = s.unit ∧
    (s.recompute ℓ).released = s.released ∧ (s.recompute ℓ).lists = s.lists ∧ (s.recompute ℓ).view = s.view ∧
    (s.recompute ℓ).log = s.log ∧ (s.recompute ℓ).port = s.port ∧ (s.recompute ℓ).freeCount = s.freeCount := by
  obtain ⟨t, ht⟩ : ∃ t, t = s.recompute ℓ := ⟨_, rfl⟩
  rw [← ht]
  unfold State.recompute at ht
  try dsimp only at ht
  repeat' split at ht
  all_goals (subst ht; simp)

@[simp] theorem State.changeDriver_frame (ℓ : LaneId) (r : LoadRecord) (rc : Reclaim) :
    (s.changeDriver ℓ r rc).pending = s.pending ∧ (s.changeDriver ℓ r rc).pins = s.pins ∧
    (s.changeDriver ℓ r rc).unit = s.unit ∧ (s.changeDriver ℓ r rc).released = s.released ∧
    (s.changeDriver ℓ r rc).lists = s.lists ∧ (s.changeDriver ℓ r rc).view = s.view ∧
    (s.changeDriver ℓ r rc).port = s.port ∧ (s.changeDriver ℓ r rc).freeCount = s.freeCount := by
  obtain ⟨t, ht⟩ : ∃ t, t = s.changeDriver ℓ r rc := ⟨_, rfl⟩
  rw [← ht]
  unfold State.changeDriver at ht
  try dsimp only at ht
  repeat' split at ht
  all_goals (subst ht; simp)

@[simp] theorem State.warnDuty_frame (ℓ : LaneId) (t : DutyTimer) :
    (s.warnDuty ℓ t).pending = s.pending ∧ (s.warnDuty ℓ t).pins = s.pins ∧ (s.warnDuty ℓ t).unit = s.unit ∧
    (s.warnDuty ℓ t).channels = s.channels ∧ (s.warnDuty ℓ t).released = s.released ∧
    (s.warnDuty ℓ t).lists = s.lists ∧ (s.warnDuty ℓ t).line = s.line ∧ (s.warnDuty ℓ t).view = s.view ∧
    (s.warnDuty ℓ t).log = s.log ∧ (s.warnDuty ℓ t).port = s.port ∧ (s.warnDuty ℓ t).freeCount = s.freeCount := by
  simp [State.warnDuty]

@[simp] theorem State.testNear_frame (m : Nat) (ℓ : LaneId) :
    (State.testNear m s ℓ).pending = s.pending ∧ (State.testNear m s ℓ).pins = s.pins ∧
    (State.testNear m s ℓ).unit = s.unit ∧ (State.testNear m s ℓ).channels = s.channels ∧
    (State.testNear m s ℓ).released = s.released ∧ (State.testNear m s ℓ).lists = s.lists ∧
    (State.testNear m s ℓ).line = s.line ∧ (State.testNear m s ℓ).view = s.view ∧ (State.testNear m s ℓ).log = s.log ∧
    (State.testNear m s ℓ).port = s.port ∧ (State.testNear m s ℓ).freeCount = s.freeCount := by
  obtain ⟨t, ht⟩ : ∃ t, t = State.testNear m s ℓ := ⟨_, rfl⟩
  rw [← ht]
  unfold State.testNear at ht
  try dsimp only at ht
  repeat' split at ht
  all_goals (subst ht; simp)

@[simp] theorem State.testOver_frame (m : Nat) (ℓ : LaneId) :
    (State.testOver m s ℓ).pending = s.pending ∧ (State.testOver m s ℓ).pins = s.pins ∧
    (State.testOver m s ℓ).unit = s.unit ∧ (State.testOver m s ℓ).channels = s.channels ∧
    (State.testOver m s ℓ).released = s.released ∧ (State.testOver m s ℓ).lists = s.lists ∧
    (State.testOver m s ℓ).line = s.line ∧ (State.testOver m s ℓ).view = s.view ∧ (State.testOver m s ℓ).log = s.log ∧
    (State.testOver m s ℓ).port = s.port ∧ (State.testOver m s ℓ).freeCount = s.freeCount := by
  obtain ⟨t, ht⟩ : ∃ t, t = State.testOver m s ℓ := ⟨_, rfl⟩
  rw [← ht]
  unfold State.testOver at ht
  try dsimp only at ht
  repeat' split at ht
  all_goals (subst ht; simp)

@[simp] theorem State.ageTable_frame (m : Nat) :
    (State.ageTable m s).pending = s.pending ∧ (State.ageTable m s).pins = s.pins ∧
    (State.ageTable m s).unit = s.unit ∧ (State.ageTable m s).lanes = s.lanes ∧
    (State.ageTable m s).channels = s.channels ∧ (State.ageTable m s).lists = s.lists ∧
    (State.ageTable m s).line = s.line ∧ (State.ageTable m s).view = s.view ∧ (State.ageTable m s).log = s.log ∧
    (State.ageTable m s).port = s.port ∧ (State.ageTable m s).attention = s.attention ∧
    (State.ageTable m s).freeCount = s.freeCount := by
  simp [State.ageTable]

@[simp] theorem State.advanced_frame (m : Nat) :
    (State.advanced m s).pending = s.pending ∧ (State.advanced m s).pins = s.pins ∧
    (State.advanced m s).unit = s.unit ∧ (State.advanced m s).channels = s.channels ∧
    (State.advanced m s).lists = s.lists ∧ (State.advanced m s).line = s.line ∧ (State.advanced m s).view = s.view ∧
    (State.advanced m s).log = s.log ∧ (State.advanced m s).port = s.port ∧
    (State.advanced m s).freeCount = s.freeCount := by
  simp [State.advanced]

@[simp] theorem State.lineBusy_frame :
    (s.lineBusy).pending = s.pending ∧ (s.lineBusy).pins = s.pins ∧ (s.lineBusy).unit = s.unit ∧
    (s.lineBusy).lanes = s.lanes ∧ (s.lineBusy).channels = s.channels ∧ (s.lineBusy).released = s.released ∧
    (s.lineBusy).lists = s.lists ∧ (s.lineBusy).view = s.view ∧ (s.lineBusy).log = s.log ∧
    (s.lineBusy).port = s.port ∧ (s.lineBusy).attention = s.attention ∧ (s.lineBusy).freeCount = s.freeCount := by
  simp [State.lineBusy]

@[simp] theorem State.countAbort_frame :
    (s.countAbort).pending = s.pending ∧ (s.countAbort).pins = s.pins ∧ (s.countAbort).unit = s.unit ∧
    (s.countAbort).lanes = s.lanes ∧ (s.countAbort).channels = s.channels ∧ (s.countAbort).released = s.released ∧
    (s.countAbort).lists = s.lists ∧ (s.countAbort).view = s.view ∧ (s.countAbort).log = s.log ∧
    (s.countAbort).port = s.port ∧ (s.countAbort).freeCount = s.freeCount := by
  obtain ⟨t, ht⟩ : ∃ t, t = s.countAbort := ⟨_, rfl⟩
  rw [← ht]
  unfold State.countAbort at ht
  try dsimp only at ht
  repeat' split at ht
  all_goals (subst ht; simp)

@[simp] theorem State.lostClaimSent_frame (ℓ : LaneId) (lc : LostClaim) :
    (s.lostClaimSent ℓ lc).pending = s.pending ∧ (s.lostClaimSent ℓ lc).pins = s.pins ∧
    (s.lostClaimSent ℓ lc).unit = s.unit ∧ (s.lostClaimSent ℓ lc).channels = s.channels ∧
    (s.lostClaimSent ℓ lc).released = s.released ∧ (s.lostClaimSent ℓ lc).lists = s.lists ∧
    (s.lostClaimSent ℓ lc).view = s.view ∧ (s.lostClaimSent ℓ lc).log = s.log ∧
    (s.lostClaimSent ℓ lc).port = s.port ∧ (s.lostClaimSent ℓ lc).attention = s.attention ∧
    (s.lostClaimSent ℓ lc).freeCount = s.freeCount := by
  obtain ⟨t, ht⟩ : ∃ t, t = s.lostClaimSent ℓ lc := ⟨_, rfl⟩
  rw [← ht]
  unfold State.lostClaimSent at ht
  try dsimp only at ht
  repeat' split at ht
  all_goals (subst ht; simp)

@[simp] theorem State.claimSent_frame (ℓ : LaneId) :
    (s.claimSent ℓ).pending = s.pending ∧ (s.claimSent ℓ).pins = s.pins ∧ (s.claimSent ℓ).unit = s.unit ∧
    (s.claimSent ℓ).channels = s.channels ∧ (s.claimSent ℓ).released = s.released ∧
    (s.claimSent ℓ).lists = s.lists ∧ (s.claimSent ℓ).view = s.view ∧ (s.claimSent ℓ).log = s.log ∧
    (s.claimSent ℓ).port = s.port ∧ (s.claimSent ℓ).attention = s.attention ∧
    (s.claimSent ℓ).freeCount = s.freeCount := by
  obtain ⟨t, ht⟩ : ∃ t, t = s.claimSent ℓ := ⟨_, rfl⟩
  rw [← ht]
  unfold State.claimSent at ht
  try dsimp only at ht
  repeat' split at ht
  all_goals (subst ht; simp)

@[simp] theorem State.releaseSent_frame (ℓ : LaneId) :
    (s.releaseSent ℓ).pending = s.pending ∧ (s.releaseSent ℓ).pins = s.pins ∧ (s.releaseSent ℓ).unit = s.unit ∧
    (s.releaseSent ℓ).channels = s.channels ∧ (s.releaseSent ℓ).released = s.released ∧
    (s.releaseSent ℓ).lists = s.lists ∧ (s.releaseSent ℓ).view = s.view ∧ (s.releaseSent ℓ).port = s.port ∧
    (s.releaseSent ℓ).freeCount = s.freeCount := by
  obtain ⟨t, ht⟩ : ∃ t, t = s.releaseSent ℓ := ⟨_, rfl⟩
  rw [← ht]
  unfold State.releaseSent at ht
  try dsimp only at ht
  repeat' split at ht
  all_goals (subst ht; simp)

@[simp] theorem State.drawOnSent_frame (c : ChanId) :
    (s.drawOnSent c).pending = s.pending ∧ (s.drawOnSent c).pins = s.pins ∧ (s.drawOnSent c).unit = s.unit ∧
    (s.drawOnSent c).lanes = s.lanes ∧ (s.drawOnSent c).released = s.released ∧ (s.drawOnSent c).lists = s.lists ∧
    (s.drawOnSent c).view = s.view ∧ (s.drawOnSent c).log = s.log ∧ (s.drawOnSent c).port = s.port ∧
    (s.drawOnSent c).attention = s.attention ∧ (s.drawOnSent c).freeCount = s.freeCount := by
  obtain ⟨t, ht⟩ : ∃ t, t = s.drawOnSent c := ⟨_, rfl⟩
  rw [← ht]
  unfold State.drawOnSent at ht
  try dsimp only at ht
  repeat' split at ht
  all_goals (subst ht; simp)

@[simp] theorem State.drawOffSent_frame (c : ChanId) :
    (s.drawOffSent c).pending = s.pending ∧ (s.drawOffSent c).pins = s.pins ∧ (s.drawOffSent c).unit = s.unit ∧
    (s.drawOffSent c).lanes = s.lanes ∧ (s.drawOffSent c).released = s.released ∧
    (s.drawOffSent c).lists = s.lists ∧ (s.drawOffSent c).view = s.view ∧ (s.drawOffSent c).log = s.log ∧
    (s.drawOffSent c).port = s.port ∧ (s.drawOffSent c).attention = s.attention ∧
    (s.drawOffSent c).freeCount = s.freeCount := by
  obtain ⟨t, ht⟩ : ∃ t, t = s.drawOffSent c := ⟨_, rfl⟩
  rw [← ht]
  unfold State.drawOffSent at ht
  try dsimp only at ht
  repeat' split at ht
  all_goals (subst ht; simp)

@[simp] theorem State.stopSent_frame (a : Bool) :
    (s.stopSent a).pending = s.pending ∧ (s.stopSent a).pins = s.pins ∧ (s.stopSent a).unit = s.unit ∧
    (s.stopSent a).lanes = s.lanes ∧ (s.stopSent a).channels = s.channels ∧ (s.stopSent a).released = s.released ∧
    (s.stopSent a).view = s.view ∧ (s.stopSent a).log = s.log ∧ (s.stopSent a).port = s.port ∧
    (s.stopSent a).attention = s.attention ∧ (s.stopSent a).freeCount = s.freeCount := by
  simp [State.stopSent]

@[simp] theorem State.issueSent_frame (n : Nat) :
    (s.issueSent n).pending = s.pending ∧ (s.issueSent n).pins = s.pins ∧ (s.issueSent n).unit = s.unit ∧
    (s.issueSent n).lanes = s.lanes ∧ (s.issueSent n).channels = s.channels ∧
    (s.issueSent n).released = s.released ∧ (s.issueSent n).lists = s.lists ∧ (s.issueSent n).view = s.view ∧
    (s.issueSent n).log = s.log ∧ (s.issueSent n).port = s.port ∧ (s.issueSent n).attention = s.attention ∧
    (s.issueSent n).freeCount = s.freeCount := by
  obtain ⟨t, ht⟩ : ∃ t, t = s.issueSent n := ⟨_, rfl⟩
  rw [← ht]
  unfold State.issueSent at ht
  try dsimp only at ht
  repeat' split at ht
  all_goals (subst ht; simp)

@[simp] theorem State.tellOwner_frame (n : Notice) :
    (s.tellOwner n).pending = s.pending ∧ (s.tellOwner n).pins = s.pins ∧ (s.tellOwner n).unit = s.unit ∧
    (s.tellOwner n).released = s.released ∧ (s.tellOwner n).view = s.view ∧ (s.tellOwner n).port = s.port ∧
    (s.tellOwner n).freeCount = s.freeCount := by
  obtain ⟨t, ht⟩ : ∃ t, t = s.tellOwner n := ⟨_, rfl⟩
  rw [← ht]
  unfold State.tellOwner at ht
  try dsimp only at ht
  repeat' split at ht
  all_goals (subst ht; simp)

@[simp] theorem State.freePlace_frame (p : Place) :
    (s.freePlace p).pending = s.pending ∧ (s.freePlace p).pins = s.pins ∧ (s.freePlace p).unit = s.unit ∧
    (s.freePlace p).lanes = s.lanes ∧ (s.freePlace p).channels = s.channels ∧
    (s.freePlace p).released = s.released ∧ (s.freePlace p).lists = s.lists ∧ (s.freePlace p).view = s.view ∧
    (s.freePlace p).log = s.log ∧ (s.freePlace p).port = s.port ∧ (s.freePlace p).attention = s.attention ∧
    (s.freePlace p).freeCount = s.freeCount := by
  simp [State.freePlace]

@[simp] theorem State.loseClaim_frame (e : Bool) (ℓ : LaneId) :
    (State.loseClaim e s ℓ).pending = s.pending ∧ (State.loseClaim e s ℓ).pins = s.pins ∧
    (State.loseClaim e s ℓ).unit = s.unit ∧ (State.loseClaim e s ℓ).channels = s.channels ∧
    (State.loseClaim e s ℓ).released = s.released ∧ (State.loseClaim e s ℓ).lists = s.lists ∧
    (State.loseClaim e s ℓ).view = s.view ∧ (State.loseClaim e s ℓ).log = s.log ∧
    (State.loseClaim e s ℓ).port = s.port ∧ (State.loseClaim e s ℓ).attention = s.attention ∧
    (State.loseClaim e s ℓ).freeCount = s.freeCount := by
  obtain ⟨t, ht⟩ : ∃ t, t = State.loseClaim e s ℓ := ⟨_, rfl⟩
  rw [← ht]
  unfold State.loseClaim at ht
  try dsimp only at ht
  repeat' split at ht
  all_goals (subst ht; simp)

@[simp] theorem State.receiveLost_frame :
    (s.receiveLost).pending = s.pending ∧ (s.receiveLost).pins = s.pins ∧ (s.receiveLost).unit = s.unit ∧
    (s.receiveLost).released = s.released ∧ (s.receiveLost).lists = s.lists ∧ (s.receiveLost).log = s.log ∧
    (s.receiveLost).port = s.port ∧ (s.receiveLost).freeCount = s.freeCount := by
  simp [State.receiveLost]

@[simp] theorem State.setReceiver_frame (h : Option Partial) :
    (s.setReceiver h).pending = s.pending ∧ (s.setReceiver h).pins = s.pins ∧ (s.setReceiver h).unit = s.unit ∧
    (s.setReceiver h).lanes = s.lanes ∧ (s.setReceiver h).channels = s.channels ∧
    (s.setReceiver h).released = s.released ∧ (s.setReceiver h).lists = s.lists ∧
    (s.setReceiver h).view = s.view ∧ (s.setReceiver h).log = s.log ∧ (s.setReceiver h).port = s.port ∧
    (s.setReceiver h).attention = s.attention ∧ (s.setReceiver h).freeCount = s.freeCount := by
  simp [State.setReceiver]

@[simp] theorem State.judge_frame (h length : Byte) (body : List Byte) (check : CheckWord) :
    (s.judge h length body check).pending = s.pending ∧ (s.judge h length body check).pins = s.pins ∧
    (s.judge h length body check).unit = s.unit ∧ (s.judge h length body check).released = s.released ∧
    (s.judge h length body check).lists = s.lists ∧ (s.judge h length body check).log = s.log ∧
    (s.judge h length body check).port = s.port ∧ (s.judge h length body check).freeCount = s.freeCount := by
  obtain ⟨t, ht⟩ : ∃ t, t = s.judge h length body check := ⟨_, rfl⟩
  rw [← ht]
  unfold State.judge at ht
  try dsimp only at ht
  repeat' split at ht
  all_goals (subst ht; simp)

@[simp] theorem State.refreshOrder_frame (n : Nat) :
    (s.refreshOrder n).pending = s.pending ∧ (s.refreshOrder n).pins = s.pins ∧ (s.refreshOrder n).unit = s.unit ∧
    (s.refreshOrder n).lanes = s.lanes ∧ (s.refreshOrder n).channels = s.channels ∧
    (s.refreshOrder n).released = s.released ∧ (s.refreshOrder n).lists = s.lists ∧
    (s.refreshOrder n).view = s.view ∧ (s.refreshOrder n).log = s.log ∧ (s.refreshOrder n).port = s.port ∧
    (s.refreshOrder n).attention = s.attention ∧ (s.refreshOrder n).freeCount = s.freeCount := by
  obtain ⟨t, ht⟩ : ∃ t, t = s.refreshOrder n := ⟨_, rfl⟩
  rw [← ht]
  unfold State.refreshOrder at ht
  try dsimp only at ht
  repeat' split at ht
  all_goals (subst ht; simp)

@[simp] theorem State.expireRow_frame (a : Nat) :
    (s.expireRow a).pending = s.pending ∧ (s.expireRow a).pins = s.pins ∧ (s.expireRow a).unit = s.unit ∧
    (s.expireRow a).lanes = s.lanes ∧ (s.expireRow a).released = s.released ∧ (s.expireRow a).log = s.log ∧
    (s.expireRow a).port = s.port ∧ (s.expireRow a).freeCount = s.freeCount := by
  obtain ⟨t, ht⟩ : ∃ t, t = s.expireRow a := ⟨_, rfl⟩
  rw [← ht]
  unfold State.expireRow at ht
  try dsimp only at ht
  repeat' split at ht
  all_goals (subst ht; simp)

@[simp] theorem State.dropFront_frame :
    (s.dropFront).pending = s.pending ∧ (s.dropFront).pins = s.pins ∧ (s.dropFront).unit = s.unit ∧
    (s.dropFront).lanes = s.lanes ∧ (s.dropFront).channels = s.channels ∧ (s.dropFront).released = s.released ∧
    (s.dropFront).lists = s.lists ∧ (s.dropFront).view = s.view ∧ (s.dropFront).log = s.log ∧
    (s.dropFront).port = s.port ∧ (s.dropFront).attention = s.attention ∧
    (s.dropFront).freeCount = s.freeCount := by
  simp [State.dropFront]

@[simp] theorem State.validate_frame (a : Nat) :
    (s.validate a).pending = s.pending ∧ (s.validate a).pins = s.pins ∧ (s.validate a).unit = s.unit ∧
    (s.validate a).lanes = s.lanes ∧ (s.validate a).channels = s.channels ∧ (s.validate a).released = s.released ∧
    (s.validate a).line = s.line ∧ (s.validate a).log = s.log ∧ (s.validate a).port = s.port ∧
    (s.validate a).attention = s.attention ∧ (s.validate a).freeCount = s.freeCount := by
  obtain ⟨t, ht⟩ : ∃ t, t = s.validate a := ⟨_, rfl⟩
  rw [← ht]
  unfold State.validate at ht
  try dsimp only at ht
  repeat' split at ht
  all_goals (subst ht; simp)

@[simp] theorem State.modRow_frame (a : Nat) (f : PeerRow → PeerRow) :
    (s.modRow a f).pending = s.pending ∧ (s.modRow a f).pins = s.pins ∧ (s.modRow a f).unit = s.unit ∧
    (s.modRow a f).lanes = s.lanes ∧ (s.modRow a f).channels = s.channels ∧ (s.modRow a f).released = s.released ∧
    (s.modRow a f).lists = s.lists ∧ (s.modRow a f).line = s.line ∧ (s.modRow a f).log = s.log ∧
    (s.modRow a f).port = s.port ∧ (s.modRow a f).attention = s.attention ∧
    (s.modRow a f).freeCount = s.freeCount := by
  simp [State.modRow]

@[simp] theorem State.takeStop_frame (a : Nat) (v : Bool) :
    (s.takeStop a v).pending = s.pending ∧ (s.takeStop a v).pins = s.pins ∧ (s.takeStop a v).unit = s.unit ∧
    (s.takeStop a v).lanes = s.lanes ∧ (s.takeStop a v).released = s.released ∧ (s.takeStop a v).view = s.view ∧
    (s.takeStop a v).log = s.log ∧ (s.takeStop a v).port = s.port ∧ (s.takeStop a v).freeCount = s.freeCount := by
  simp [State.takeStop]

@[simp] theorem State.contestLane_frame (d : Nat) (ℓ : LaneId) :
    (State.contestLane d s ℓ).pending = s.pending ∧ (State.contestLane d s ℓ).pins = s.pins ∧
    (State.contestLane d s ℓ).unit = s.unit ∧ (State.contestLane d s ℓ).released = s.released ∧
    (State.contestLane d s ℓ).lists = s.lists ∧ (State.contestLane d s ℓ).view = s.view ∧
    (State.contestLane d s ℓ).port = s.port ∧ (State.contestLane d s ℓ).freeCount = s.freeCount := by
  obtain ⟨t, ht⟩ : ∃ t, t = State.contestLane d s ℓ := ⟨_, rfl⟩
  rw [← ht]
  unfold State.contestLane at ht
  try dsimp only at ht
  repeat' split at ht
  all_goals (subst ht; simp)

@[simp] theorem State.contestSettled_frame (ℓ : LaneId) (d : Nat) :
    (s.contestSettled ℓ d).pending = s.pending ∧ (s.contestSettled ℓ d).pins = s.pins ∧
    (s.contestSettled ℓ d).unit = s.unit ∧ (s.contestSettled ℓ d).channels = s.channels ∧
    (s.contestSettled ℓ d).released = s.released ∧ (s.contestSettled ℓ d).lists = s.lists ∧
    (s.contestSettled ℓ d).view = s.view ∧ (s.contestSettled ℓ d).log = s.log ∧
    (s.contestSettled ℓ d).port = s.port ∧ (s.contestSettled ℓ d).attention = s.attention ∧
    (s.contestSettled ℓ d).freeCount = s.freeCount := by
  obtain ⟨t, ht⟩ : ∃ t, t = s.contestSettled ℓ d := ⟨_, rfl⟩
  rw [← ht]
  unfold State.contestSettled at ht
  try dsimp only at ht
  repeat' split at ht
  all_goals (subst ht; simp)

@[simp] theorem State.claimLane_frame (d : Nat) (ℓ : LaneId) :
    (State.claimLane d s ℓ).pending = s.pending ∧ (State.claimLane d s ℓ).pins = s.pins ∧
    (State.claimLane d s ℓ).unit = s.unit ∧ (State.claimLane d s ℓ).channels = s.channels ∧
    (State.claimLane d s ℓ).released = s.released ∧ (State.claimLane d s ℓ).lists = s.lists ∧
    (State.claimLane d s ℓ).view = s.view ∧ (State.claimLane d s ℓ).port = s.port ∧
    (State.claimLane d s ℓ).freeCount = s.freeCount := by
  obtain ⟨t, ht⟩ : ∃ t, t = State.claimLane d s ℓ := ⟨_, rfl⟩
  rw [← ht]
  unfold State.claimLane at ht
  try dsimp only at ht
  repeat' split at ht
  all_goals (subst ht; simp)

@[simp] theorem State.grant_frame (c : ChanId) :
    (s.grant c).pending = s.pending ∧ (s.grant c).pins = s.pins ∧ (s.grant c).unit = s.unit ∧
    (s.grant c).lanes = s.lanes ∧ (s.grant c).released = s.released ∧ (s.grant c).lists = s.lists ∧
    (s.grant c).view = s.view ∧ (s.grant c).log = s.log ∧ (s.grant c).port = s.port ∧
    (s.grant c).attention = s.attention ∧ (s.grant c).freeCount = s.freeCount := by
  obtain ⟨t, ht⟩ : ∃ t, t = s.grant c := ⟨_, rfl⟩
  rw [← ht]
  unfold State.grant at ht
  try dsimp only at ht
  repeat' split at ht
  all_goals (subst ht; simp)

@[simp] theorem State.void_frame (c : ChanId) :
    (s.void c).pending = s.pending ∧ (s.void c).pins = s.pins ∧ (s.void c).unit = s.unit ∧
    (s.void c).lanes = s.lanes ∧ (s.void c).released = s.released ∧ (s.void c).lists = s.lists ∧
    (s.void c).line = s.line ∧ (s.void c).view = s.view ∧ (s.void c).log = s.log ∧ (s.void c).port = s.port ∧
    (s.void c).attention = s.attention ∧ (s.void c).freeCount = s.freeCount := by
  obtain ⟨t, ht⟩ : ∃ t, t = s.void c := ⟨_, rfl⟩
  rw [← ht]
  unfold State.void at ht
  try dsimp only at ht
  repeat' split at ht
  all_goals (subst ht; simp)

@[simp] theorem State.storeFigures_frame (d : Nat) (f : Option FigureSet) :
    (s.storeFigures d f).pending = s.pending ∧ (s.storeFigures d f).pins = s.pins ∧
    (s.storeFigures d f).unit = s.unit ∧ (s.storeFigures d f).lanes = s.lanes ∧
    (s.storeFigures d f).channels = s.channels ∧ (s.storeFigures d f).lists = s.lists ∧
    (s.storeFigures d f).line = s.line ∧ (s.storeFigures d f).view = s.view ∧ (s.storeFigures d f).log = s.log ∧
    (s.storeFigures d f).port = s.port ∧ (s.storeFigures d f).attention = s.attention ∧
    (s.storeFigures d f).freeCount = s.freeCount := by
  obtain ⟨t, ht⟩ : ∃ t, t = s.storeFigures d f := ⟨_, rfl⟩
  rw [← ht]
  unfold State.storeFigures at ht
  try dsimp only at ht
  repeat' split at ht
  all_goals (subst ht; simp)

@[simp] theorem State.hearIssue_frame (a n : Nat) (kind : KeyKind) (key reason : Nat) :
    (s.hearIssue a n kind key reason).pending = s.pending ∧ (s.hearIssue a n kind key reason).pins = s.pins ∧
    (s.hearIssue a n kind key reason).unit = s.unit ∧ (s.hearIssue a n kind key reason).released = s.released ∧
    (s.hearIssue a n kind key reason).view = s.view ∧ (s.hearIssue a n kind key reason).port = s.port ∧
    (s.hearIssue a n kind key reason).freeCount = s.freeCount := by
  obtain ⟨t, ht⟩ : ∃ t, t = s.hearIssue a n kind key reason := ⟨_, rfl⟩
  rw [← ht]
  unfold State.hearIssue at ht
  try dsimp only at ht
  repeat' split at ht
  all_goals (subst ht; simp)

@[simp] theorem State.hearCancel_frame (a n : Nat) :
    (s.hearCancel a n).pending = s.pending ∧ (s.hearCancel a n).pins = s.pins ∧ (s.hearCancel a n).unit = s.unit ∧
    (s.hearCancel a n).released = s.released ∧ (s.hearCancel a n).view = s.view ∧
    (s.hearCancel a n).port = s.port ∧ (s.hearCancel a n).freeCount = s.freeCount := by
  obtain ⟨t, ht⟩ : ∃ t, t = s.hearCancel a n := ⟨_, rfl⟩
  rw [← ht]
  unfold State.hearCancel at ht
  try dsimp only at ht
  repeat' split at ht
  all_goals (subst ht; simp)

@[simp] theorem State.duplicateTest_frame (x : StatusReport) (ℓ : LaneId) :
    (State.duplicateTest x s ℓ).pending = s.pending ∧ (State.duplicateTest x s ℓ).pins = s.pins ∧
    (State.duplicateTest x s ℓ).unit = s.unit ∧ (State.duplicateTest x s ℓ).released = s.released ∧
    (State.duplicateTest x s ℓ).lists = s.lists ∧ (State.duplicateTest x s ℓ).view = s.view ∧
    (State.duplicateTest x s ℓ).log = s.log ∧ (State.duplicateTest x s ℓ).port = s.port ∧
    (State.duplicateTest x s ℓ).freeCount = s.freeCount := by
  obtain ⟨t, ht⟩ : ∃ t, t = State.duplicateTest x s ℓ := ⟨_, rfl⟩
  rw [← ht]
  unfold State.duplicateTest at ht
  try dsimp only at ht
  repeat' split at ht
  all_goals (subst ht; simp)

@[simp] theorem State.outcomeWritten_frame (ℓ : LaneId) :
    (s.outcomeWritten ℓ).pending = s.pending ∧ (s.outcomeWritten ℓ).pins = s.pins ∧
    (s.outcomeWritten ℓ).unit = s.unit ∧ (s.outcomeWritten ℓ).channels = s.channels ∧
    (s.outcomeWritten ℓ).released = s.released ∧ (s.outcomeWritten ℓ).lists = s.lists ∧
    (s.outcomeWritten ℓ).view = s.view ∧ (s.outcomeWritten ℓ).port = s.port ∧
    (s.outcomeWritten ℓ).freeCount = s.freeCount := by
  simp [State.outcomeWritten]

@[simp] theorem State.tellWritten_frame (w : StageWrite) :
    (s.tellWritten w).pending = s.pending ∧ (s.tellWritten w).pins = s.pins ∧ (s.tellWritten w).unit = s.unit ∧
    (s.tellWritten w).released = s.released ∧ (s.tellWritten w).lists = s.lists ∧
    (s.tellWritten w).view = s.view ∧ (s.tellWritten w).port = s.port ∧
    (s.tellWritten w).freeCount = s.freeCount := by
  obtain ⟨t, ht⟩ : ∃ t, t = s.tellWritten w := ⟨_, rfl⟩
  rw [← ht]
  unfold State.tellWritten at ht
  try dsimp only at ht
  repeat' split at ht
  all_goals (subst ht; simp)

@[simp] theorem State.verifyFailed_frame (w : StageWrite) (area number : Nat) (second : Bool) :
    (s.verifyFailed w area number second).pending = s.pending ∧
    (s.verifyFailed w area number second).pins = s.pins ∧ (s.verifyFailed w area number second).unit = s.unit ∧
    (s.verifyFailed w area number second).released = s.released ∧
    (s.verifyFailed w area number second).lists = s.lists ∧ (s.verifyFailed w area number second).view = s.view ∧
    (s.verifyFailed w area number second).port = s.port := by
  obtain ⟨t, ht⟩ : ∃ t, t = s.verifyFailed w area number second := ⟨_, rfl⟩
  rw [← ht]
  unfold State.verifyFailed at ht
  try dsimp only at ht
  repeat' split at ht
  all_goals (subst ht; simp)

@[simp] theorem State.endScan_frame (f : Option Nat) :
    (s.endScan f).pending = s.pending ∧ (s.endScan f).pins = s.pins ∧ (s.endScan f).unit = s.unit ∧
    (s.endScan f).lanes = s.lanes ∧ (s.endScan f).channels = s.channels ∧ (s.endScan f).released = s.released ∧
    (s.endScan f).lists = s.lists ∧ (s.endScan f).line = s.line ∧ (s.endScan f).view = s.view ∧
    (s.endScan f).port = s.port := by
  obtain ⟨t, ht⟩ : ∃ t, t = s.endScan f := ⟨_, rfl⟩
  rw [← ht]
  unfold State.endScan at ht
  try dsimp only at ht
  repeat' split at ht
  all_goals (subst ht; simp)

@[simp] theorem State.answerWith_frame (a : Answer) :
    (s.answerWith a).pending = s.pending ∧ (s.answerWith a).pins = s.pins ∧ (s.answerWith a).unit = s.unit ∧
    (s.answerWith a).lanes = s.lanes ∧ (s.answerWith a).channels = s.channels ∧
    (s.answerWith a).released = s.released ∧ (s.answerWith a).lists = s.lists ∧ (s.answerWith a).line = s.line ∧
    (s.answerWith a).view = s.view ∧ (s.answerWith a).log = s.log ∧ (s.answerWith a).attention = s.attention ∧
    (s.answerWith a).freeCount = s.freeCount := by
  simp [State.answerWith]

@[simp] theorem State.acting_frame :
    (s.acting).pending = s.pending ∧ (s.acting).pins = s.pins ∧ (s.acting).unit = s.unit ∧
    (s.acting).lanes = s.lanes ∧ (s.acting).channels = s.channels ∧ (s.acting).released = s.released ∧
    (s.acting).lists = s.lists ∧ (s.acting).line = s.line ∧ (s.acting).view = s.view ∧ (s.acting).log = s.log ∧
    (s.acting).attention = s.attention ∧ (s.acting).freeCount = s.freeCount := by
  simp [State.acting]

@[simp] theorem State.endExchange_frame :
    (s.endExchange).pending = s.pending ∧ (s.endExchange).pins = s.pins ∧ (s.endExchange).lanes = s.lanes ∧
    (s.endExchange).channels = s.channels ∧ (s.endExchange).released = s.released ∧
    (s.endExchange).lists = s.lists ∧ (s.endExchange).line = s.line ∧ (s.endExchange).view = s.view ∧
    (s.endExchange).log = s.log ∧ (s.endExchange).freeCount = s.freeCount := by
  simp [State.endExchange]

@[simp] theorem State.delivered_frame (a : Answer) :
    (s.delivered a).pending = s.pending ∧ (s.delivered a).pins = s.pins ∧ (s.delivered a).lanes = s.lanes ∧
    (s.delivered a).channels = s.channels ∧ (s.delivered a).released = s.released ∧
    (s.delivered a).lists = s.lists ∧ (s.delivered a).line = s.line ∧ (s.delivered a).view = s.view ∧
    (s.delivered a).log = s.log ∧ (s.delivered a).port = s.port ∧ (s.delivered a).freeCount = s.freeCount := by
  obtain ⟨t, ht⟩ : ∃ t, t = s.delivered a := ⟨_, rfl⟩
  rw [← ht]
  unfold State.delivered at ht
  try dsimp only at ht
  repeat' split at ht
  all_goals (subst ht; simp)

@[simp] theorem State.answerRead_frame (r : Reading) :
    (s.answerRead r).pending = s.pending ∧ (s.answerRead r).pins = s.pins ∧ (s.answerRead r).unit = s.unit ∧
    (s.answerRead r).lanes = s.lanes ∧ (s.answerRead r).channels = s.channels ∧
    (s.answerRead r).released = s.released ∧ (s.answerRead r).lists = s.lists ∧ (s.answerRead r).line = s.line ∧
    (s.answerRead r).view = s.view ∧ (s.answerRead r).log = s.log ∧ (s.answerRead r).attention = s.attention ∧
    (s.answerRead r).freeCount = s.freeCount := by
  obtain ⟨t, ht⟩ : ∃ t, t = s.answerRead r := ⟨_, rfl⟩
  rw [← ht]
  unfold State.answerRead at ht
  try dsimp only at ht
  repeat' split at ht
  all_goals (subst ht; simp)

@[simp] theorem State.releaseLine_frame :
    (s.releaseLine).pending = s.pending ∧ (s.releaseLine).pins = s.pins ∧ (s.releaseLine).unit = s.unit ∧
    (s.releaseLine).lanes = s.lanes ∧ (s.releaseLine).channels = s.channels ∧ (s.releaseLine).released = s.released ∧
    (s.releaseLine).lists = s.lists ∧ (s.releaseLine).view = s.view ∧ (s.releaseLine).log = s.log ∧
    (s.releaseLine).port = s.port ∧ (s.releaseLine).attention = s.attention ∧ (s.releaseLine).freeCount = s.freeCount := by
  simp [State.releaseLine]

end Sys2Proof.Machine
end

