-- ==== Sys2Proof/WellFormed.lean ====
section
/-! DEFINITION. Which commands the outside can form: a whole request has the operand bytes of its code (R192, 11.3), a whole
notice the body its length character gives (R128, R139), and a number names something the station can hold. -/

namespace Sys2Proof

open Machine

/-- A request with its operand bytes: the count is its code's (11.3). -/
def operandsFit (r : Request) (ops : List Byte) : Bool := ops.length == r.operands

/-- A code byte outside the table of section 9.2 (R193). -/
def codeUnknown (code : Byte) : Bool := !requestCodes.contains code.toNat

/-- The commands the outside can form. -/
def Instr.wellFormed : Instr → Bool
  | .checkIn ops _ => operandsFit .checkIn ops
  | .reDriver ops _ => operandsFit .reDriver ops
  | .paperEntry ops _ => operandsFit .paperEntry ops
  | .paperDelete ops _ => operandsFit .paperDelete ops
  | .papersClose ops _ => operandsFit .papersClose ops
  | .amend ops _ => operandsFit .amend ops
  | .release ops _ => operandsFit .release ops
  | .void ops _ => operandsFit .void ops
  | .unholdWatch ops _ => operandsFit .unholdWatch ops
  | .pourArm ops _ => operandsFit .pourArm ops
  | .pourStop ops _ => operandsFit .pourStop ops
  | .pourResume ops _ => operandsFit .pourResume ops
  | .holdIssue ops _ => operandsFit .holdIssue ops
  | .holdCancel ops _ => operandsFit .holdCancel ops
  | .holdDrop ops _ => operandsFit .holdDrop ops
  | .stopDrop ops _ => operandsFit .stopDrop ops
  | .watchSet ops _ => operandsFit .watchSet ops
  | .watchClear ops _ => operandsFit .watchClear ops
  | .readLane ops _ => operandsFit .readLane ops
  | .readChannel ops _ => operandsFit .readChannel ops
  | .readPeers ops _ => operandsFit .readPeers ops
  | .readAttention ops _ => operandsFit .readAttention ops
  | .readLog ops _ => operandsFit .readLog ops
  | .readCause ops _ => operandsFit .readCause ops
  | .trimLog ops _ => operandsFit .trimLog ops
  | .configure ops _ => operandsFit .configure ops
  | .restart ops _ => operandsFit .restart ops
  | .unknownRequest code => codeUnknown code
  | .exchangeEnd _ _ => true
  | .answerDelivered => true
  | .logReadServed _ _ => true
  | .meterPulse _ => true
  | .startPress _ => true
  | .couplerLost _ => true
  | .groundChange _ _ => true
  | .probeChange _ _ => true
  | .stopInputChange _ => true
  | .powerOn _ _ => true
  | .resetPin => true
  | .resetPinRelease _ _ => true
  | .scanEnd fault => (fault.getD 0) < Config.slots
  | .claimTimerExpiry _ => true
  | .reclaimTimerExpiry _ => true
  | .dispatchPulseEnd _ => true
  | .noFlowTimerExpiry _ => true
  | .settleTimerExpiry _ => true
  | .refreshTick => true
  | .rowExpiry address => address < 32
  | .resyncTimerExpiry => true
  | .joiningTimerExpiry => true
  | .minuteAdvance => true
  | .dutyNear _ => true
  | .dutyTimerExpiry _ => true
  | .releasedDriverAgeing driver => numberOk driver
  | .holdEntryLapse origin order => origin < 32 && order < 8
  | .noticeReceived length body _ => 48 < length.toNat || body.length ≤ length.toNat
  | .receiveLoss _ => true
  | .stopHeard => true
  | .contestHeard => true
  | .claimHeard => true
  | .claimEcho => true
  | .drawOnHeard => true
  | .drawOnEcho => true
  | .drawOffHeard => true
  | .releaseHeard => true
  | .releaseEcho => true
  | .holdIssueHeard => true
  | .holdCancelHeard => true
  | .statusHeard => true
  | .transmitStart => true
  | .arbitrationLost => true
  | .noticeBegun => true
  | .abort => true
  | .sentWhole => true
  | .logWriteStart => true
  | .logWriteComplete _ => true
  | .trimMarkWriteStart => true
  | .trimMarkWriteComplete _ => true
  | .couplerConnected _ => true
  | .startButtonRelease _ => true
  | .headerCharacterReceived _ => true
  | .breakReceived => true
  | .exchangeBegin => true

end Sys2Proof
end

