-- ==== Sys2Proof/Safety.lean ====
section
/-! DEFINITION. What claims speak of: when the port takes a request, which command carries which request, and the invariants
that every step keeps. -/

namespace Sys2Proof.Machine

/-! ### Requests -/

/-- The request a command carries, with its operands and its check word. -/
def requestOf : Instr → Option (Request × List Byte × CheckWord)
  | .checkIn ops k => some (.checkIn, ops, k)
  | .reDriver ops k => some (.reDriver, ops, k)
  | .paperEntry ops k => some (.paperEntry, ops, k)
  | .paperDelete ops k => some (.paperDelete, ops, k)
  | .papersClose ops k => some (.papersClose, ops, k)
  | .amend ops k => some (.amend, ops, k)
  | .release ops k => some (.release, ops, k)
  | .void ops k => some (.void, ops, k)
  | .unholdWatch ops k => some (.unholdWatch, ops, k)
  | .pourArm ops k => some (.pourArm, ops, k)
  | .pourStop ops k => some (.pourStop, ops, k)
  | .pourResume ops k => some (.pourResume, ops, k)
  | .holdIssue ops k => some (.holdIssue, ops, k)
  | .holdCancel ops k => some (.holdCancel, ops, k)
  | .holdDrop ops k => some (.holdDrop, ops, k)
  | .stopDrop ops k => some (.stopDrop, ops, k)
  | .watchSet ops k => some (.watchSet, ops, k)
  | .watchClear ops k => some (.watchClear, ops, k)
  | .readLane ops k => some (.readLane, ops, k)
  | .readChannel ops k => some (.readChannel, ops, k)
  | .readPeers ops k => some (.readPeers, ops, k)
  | .readAttention ops k => some (.readAttention, ops, k)
  | .readLog ops k => some (.readLog, ops, k)
  | .readCause ops k => some (.readCause, ops, k)
  | .trimLog ops k => some (.trimLog, ops, k)
  | .configure ops k => some (.configure, ops, k)
  | .restart ops k => some (.restart, ops, k)
  | _ => none

/-- A whole request of the code arrives in RECEIVING, outside a reset (R191, R192). -/
def State.receives (s : State) (r : Request) (ops : List Byte) : Prop :=
  s.inReset = false ∧ s.port.step = .receiving ∧ ops.length = r.operands

/-- The request is taken, and no read waits before it (R192, R195). -/
def State.takes (s : State) (r : Request) (ops : List Byte) (check : CheckWord) : Prop :=
  s.receives r ops ∧ check = requestCheck r ops ∧ s.port.reading = none

/-- The state with an answer of OK formed (R194). -/
def State.answersOk (s : State) (r : Request) (body : List Byte) : State := s.answerWith ⟨some r, .ok, body⟩

/-- Every channel that is not POURING is the same in both states. -/
def sameUnlessPouring (s t : State) : Prop := ∀ c, (s.chan c).state ≠ .pouring → t.chan c = s.chan c

/-- The parts that no event at the lanes, channels, lists or line touches. -/
def sameStation (s t : State) : Prop :=
  t.pending = s.pending ∧ t.pins = s.pins ∧ t.unit = s.unit ∧ t.released = s.released ∧ t.freeCount = s.freeCount

/-- The parts of a ms beyond the last whole one after one more bit time: 40, 20, 10 or 5 more at the four line rates (R126;
log entry 15). -/
def State.partsAfterBit (s : State) : Nat :=
  s.unit.subMs + match s.unit.rate with | 0 => 40 | 1 => 20 | 2 => 10 | _ => 5

/-! ### What events leave alone -/

/-- The rack line but for its Send Queue and its transmitter is the same in both states. -/
def lineKept (s t : State) : Prop :=
  t.line = { s.line with transmitter := t.line.transmitter, sendQueue := t.line.sendQueue }

/-- The same, the oldest heard notice having left the Receive Queue (R136). -/
def lineHeard (s t : State) : Prop :=
  t.line = { s.line with
    transmitter := t.line.transmitter
    sendQueue := t.line.sendQueue
    receiveQueue := s.line.receiveQueue.drop 1 }

/-- Every place of the Send Queue but the touched ones holds what it held (R129). -/
def noticesKept (touched : Place → Prop) (s t : State) : Prop := ∀ p, ¬ touched p → t.noticeAt p = s.noticeAt p

/-- The lane that a notice is of. -/
def noticeLane : Notice → Option LaneId
  | .contest ℓ .. => some ℓ
  | .claim ℓ .. => some ℓ
  | .release ℓ .. => some ℓ
  | .stop _ => none
  | .draw .. => none
  | .hold .. => none
  | .status => none

/-- The places that a notice sent whole may empty or fill: its own, and those its owner then queues in (R135). -/
def noticeTouches : Notice → Place → Prop
  | .claim ℓ .., p => p = .claim ℓ ∨ p = .release ℓ
  | .release ℓ .., p => p = .release ℓ ∨ p = .claim ℓ ∨ p = .contest ℓ
  | .draw .., p => ∃ c, p = .draw c
  | .stop b, p => p = (Notice.stop b).place
  | .contest ℓ d f, p => p = (Notice.contest ℓ d f).place
  | .hold b n k x y, p => p = (Notice.hold b n k x y).place
  | .status, p => p = .status

/-- A DRAW place (R129). -/
def isDrawPlace (p : Place) : Prop := ∃ c, p = .draw c

/-- Every channel but the changed ones is the same, or has only been offered a draw (R89). -/
def othersAsk (changed : ChanId → Prop) (s t : State) : Prop :=
  ∀ d, ¬ changed d →
    t.chan d = s.chan d ∨ ((s.chan d).wantsDraw = true ∧ t.chan d = { s.chan d with draw := .asked })

/-- What an event at the channels leaves alone: all but the channels it changes, offers to others and DRAW notices. -/
def channelEvent (changed : ChanId → Prop) (s t : State) : Prop :=
  othersAsk changed s t ∧ lineKept s t ∧ noticesKept isDrawPlace s t ∧ t.lists = s.lists ∧ t.view = s.view ∧
    t.log = s.log ∧ t.pending = s.pending ∧ t.unit = s.unit ∧ t.released = s.released ∧ t.freeCount = s.freeCount

/-! ### The pours -/

/-- The draw state after a channel gives up its draw (R91). -/
def drawGivenUp (s : State) (c : ChanId) : DrawState :=
  match (s.chan c).draw with
  | .granted => .returning
  | .sent => .returning
  | .asked => if s.begunAt (.draw c) then .returning else .none
  | .none => .none
  | .returning => .returning

/-- A channel that held a place, or had sent for one, has its DRAW-OFF waiting unless a begun notice holds its place (R91). -/
def drawReturned (s t : State) (c : ChanId) : Prop :=
  ((s.chan c).draw = .granted ∨ (s.chan c).draw = .sent) → s.begunAt (.draw c) = false →
    t.noticeAt (.draw c) = some ⟨.draw false c (s.headerOf c), false⟩

/-- The pour of a channel has ended with a status (R98). -/
def pourEnds (s t : State) (c : ChanId) (e : EndStatus) : Prop :=
  drawReturned s t c ∧ t.chan c = { s.chan c with
    state := .settling
    phase := none
    permit := .off
    draw := drawGivenUp s c
    noFlow := none
    pourEnd := some e
    pourFinish := some s.minute
    settle := some s.settleMs }

/-- A channel runs a pour: POURING or SUSPENDED. -/
def runsPour (s : State) (c : ChanId) : Prop := (s.chan c).state = .pouring ∨ (s.chan c).state = .suspended

/-- The pour of a channel has been suspended (R94). -/
def pourSuspends (s t : State) (c : ChanId) : Prop :=
  drawReturned s t c ∧ (Reason.suspended c, false) ∈ t.attention ∧ t.chan c = { s.chan c with
    state := .suspended
    phase := none
    permit := .off
    draw := drawGivenUp s c
    noFlow := none }

/-- A channel is POURING and a cause of the later state stands against it (R93, R94). -/
def meetsCause (s t : State) (c : ChanId) : Prop := (s.chan c).state = .pouring ∧ (t.causes c).any = true

/-- The causes have reached the channels: the POURING ones against which one stands are suspended, the others at most offered
a draw, and only SUSPENDED has joined the attention set (R89, R93, R94). -/
def causesReach (s t : State) : Prop :=
  (∀ c, meetsCause s t c → pourSuspends s t c) ∧ othersAsk (meetsCause s t) s t ∧
    (∀ p ∈ t.attention, p ∈ s.attention ∨ ∃ c, meetsCause s t c ∧ p = (Reason.suspended c, false))

/-- The channels of a header that a round offers before a channel: those in WAIT with no draw outstanding and a lower number
(R89). -/
def State.waitersBelow (s : State) (h : Nat) (c : ChanId) : Nat :=
  ChanId.all.countP (fun d => decide (d.index < c.index) && s.onHeader d h && (s.chan d).wantsDraw)

/-- The phase is the one the quantities give (R84). -/
def phaseFits (s : State) (c : ChanId) (cfg : ChannelCfg) (ph : Phase) : Prop :=
  (s.meteredAt c < cfg.startVol → ph = .start) ∧
  (cfg.startVol ≤ s.meteredAt c →
    ((s.chan c).slow.getD 0 ≤ (s.pourLitres c : Int) ∨ s.switchLoaded c = true ∨ s.headerLimit cfg.header = 0) →
    ph = .slow) ∧
  (cfg.startVol ≤ s.meteredAt c →
    ¬ ((s.chan c).slow.getD 0 ≤ (s.pourLitres c : Int) ∨ s.switchLoaded c = true ∨ s.headerLimit cfg.header = 0) →
    ph = if (s.chan c).draw = .granted then .full else .wait)

/-- The channel goes on pouring: the no-flow timer runs, the phase is decided and the permit takes its level, and a channel
entering WAIT may be offered a draw (R80, R84, R86, R89, R96). `before` is the channel as the pour starts or goes on. -/
def poursOn (s t : State) (c : ChanId) (cfg : ChannelCfg) (before : Channel) : Prop :=
  ∃ ph draw, phaseFits s c cfg ph ∧
    (draw = before.draw ∨ (ph = .wait ∧ before.draw = .none ∧ draw = .asked)) ∧
    t.chan c = { before with
      state := .pouring
      noFlow := some s.noFlowMs
      phase := some ph
      permit := if ph = .full then .high else .low
      draw := draw }

/-! ### The lanes -/

/-- The duty timer has been armed again from the record's duty result, its warning and its hold tested at once (R68). -/
def rearmed (s t : State) (ℓ : LaneId) (r : LoadRecord) : Prop :=
  (∀ d, r.duty = some d → s.minute ≤ d.latest →
    (t.lane ℓ).dutyTimer = some ⟨d.latest, d.setBy, decide (d.latest ≤ s.minute + s.warn)⟩ ∧
    (t.lane ℓ).holds.duty = (s.lane ℓ).holds.duty) ∧
  (∀ d, r.duty = some d → d.latest < s.minute → (t.lane ℓ).dutyTimer = none ∧ (t.lane ℓ).holds.duty = true) ∧
  (∀ d, r.duty = some d → d.latest ≤ s.minute + s.warn → (Reason.dutyNear ℓ, false) ∈ t.attention)

/-- A CLOSING lane has gone back to LOADING with an outcome, its kept figures discarded and its timer armed again (R29,
R30). -/
def backToLoading (s t : State) (ℓ : LaneId) (r : LoadRecord) (o : ResultOutcome) : Prop :=
  (∃ f, t.lane ℓ = { s.lane ℓ with
    state := .loading
    closing := none
    record := some { r with findings := f }
    holds := { (s.lane ℓ).holds with order := (t.lane ℓ).holds.order, duty := (t.lane ℓ).holds.duty }
    dutyTimer := (t.lane ℓ).dutyTimer
    result := some (.close, o)
    backlog := (t.lane ℓ).backlog }) ∧
  rearmed s t ℓ r ∧ (Reason.laneDone ℓ, false) ∈ t.attention

/-- A lane has left CLOSING for VACANT: the end-of-load RELEASE is queued with the kept figures, and only a released load is
pulsed, for 5 s (R27, R28). -/
def leftClosing (s t : State) (ℓ : LaneId) (r : LoadRecord) (c : Closing) : Prop :=
  (t.lane ℓ).state = .vacant ∧ (t.lane ℓ).record = none ∧ (t.lane ℓ).closing = none ∧ (t.lane ℓ).reclaim = none ∧
  (t.lane ℓ).holds = HoldSet.empty ∧ (t.lane ℓ).dutyTimer = none ∧ (t.lane ℓ).backlog = [] ∧
  (t.lane ℓ).result = some (.close, if c.outcome = .released then .released else .voided) ∧
  (Reason.laneDone ℓ, false) ∈ t.attention ∧
  (c.outcome = .released → (t.lane ℓ).dispatch = true ∧ (t.lane ℓ).pulse = some 5000) ∧
  (c.outcome ≠ .released → (t.lane ℓ).dispatch = (s.lane ℓ).dispatch ∧ (t.lane ℓ).pulse = (s.lane ℓ).pulse) ∧
  t.noticeAt (.release ℓ) = some ⟨.release ℓ .endOfLoad r.current.driver c.figures, false⟩

/-- The slot of a load that ends under LOG_FAULT leaves OPEN: CLOSED where a stage of the load had been written, FREE where
none had (R173). -/
def slotAfterFault (e : SlotEntry) (seq : Nat) : SlotEntry :=
  if e.seq = some seq ∧ e.state = .opened then
    if 1 < e.next then { e with state := .closed } else SlotEntry.free
  else e

/-- The log has entered LOG_FAULT: every stage waiting is discarded, a channel in ENDED goes on to IDLE, a lane that is CLOSING
for a release not yet written goes back to LOADING, and one that is CLOSING for a void leaves once its channels are IDLE and no
RELEASE of it waits (R26, R27, R30, R100, R173, R180). -/
def logFaultReaches (s t : State) : Prop :=
  t.log.state = .logFault ∧ t.log.queue = [] ∧ t.log.writing = none ∧ t.log.pendingMark = none ∧
  (Reason.logFault, false) ∈ t.attention ∧
  (∀ c, (s.chan c).state = .ended → (t.chan c).state = .idle ∧ (t.chan c).assigned = none) ∧
  (∀ c, (s.chan c).state ≠ .ended → t.chan c = s.chan c) ∧
  (∀ ℓ, (s.lane ℓ).closing = none → t.lane ℓ = { s.lane ℓ with backlog := [] }) ∧
  (∀ ℓ r c, (s.lane ℓ).record = some r → (s.lane ℓ).closing = some c → c.outcome = .released → c.written = false →
    backToLoading s t ℓ r .logFault ∧ (t.lane ℓ).holds.order = (s.lane ℓ).holds.order ∧ (t.lane ℓ).backlog = []) ∧
  (∀ ℓ r c, (s.lane ℓ).record = some r → (s.lane ℓ).closing = some c → c.outcome = .voided →
    (s.releaseWaiting ℓ = false → (∀ ch, (s.chan ch).atLane ℓ = true → (s.chan ch).state = .ended) →
      leftClosing s t ℓ r c) ∧
    ((s.releaseWaiting ℓ = true ∨ ∃ ch, (s.chan ch).atLane ℓ = true ∧ (s.chan ch).state ≠ .ended) →
      t.lane ℓ = { s.lane ℓ with backlog := [] })) ∧
  (∀ p, t.log.slot p = s.log.slot p ∨ ∃ ℓ r c, (s.lane ℓ).record = some r ∧ (s.lane ℓ).closing = some c ∧
    (c.outcome = .voided ∨ c.written = true) ∧ p = r.slot ∧ t.log.slot p = slotAfterFault (s.log.slot p) r.seq) ∧
  (∀ ℓ r c, (s.lane ℓ).record = some r → (s.lane ℓ).closing = some c → c.outcome = .voided →
    s.releaseWaiting ℓ = false → (∀ ch, (s.chan ch).atLane ℓ = true → (s.chan ch).state = .ended) →
    (t.log.slot r.slot).state ≠ .opened ∨ (t.log.slot r.slot).seq ≠ some r.seq) ∧
  ((∀ ℓ, (s.lane ℓ).closing = none) → t.line = s.line ∧ t.log.table = s.log.table) ∧
  t.lists = s.lists ∧ t.view = s.view ∧ t.port = s.port ∧ t.released = s.released ∧ t.pins = s.pins ∧ t.unit = s.unit ∧
  t.pending = s.pending

/-- An ORDER of the later state's Hold List reaches a lane that is CLOSING for a release whose outcome stage can still be
withdrawn (R29, R181). -/
def orderTakesBack (s t : State) (ℓ : LaneId) : Bool :=
  match (s.lane ℓ).state, (s.lane ℓ).record, (s.lane ℓ).closing with
  | .closing, some r, some c =>
    t.lists.holds.any (fun e => e.matchesRecord r) && c.outcome == .released && s.log.unbegun.any (fun w => w.isOutcomeOf ℓ)
  | _, _, _ => false

/-- Every lane with a record has been matched against the Hold List: ORDER follows the match in CLAIMING, OPEN and LOADING; a
lane that is CLOSING for a release goes back to LOADING with ORDER where its outcome stage can be withdrawn, the stage leaving
the Log Write Queue, and any other CLOSING lane stays. No lane without a record has changed; a POURING channel may have been
suspended (R29, R94, R120, R181). -/
def rematched (s t : State) : Prop :=
  (∀ ℓ r, (s.lane ℓ).record = some r →
    ((s.lane ℓ).state = .claiming ∨ (s.lane ℓ).state = .opened ∨ (s.lane ℓ).state = .loading) →
    ∃ f, t.lane ℓ = { s.lane ℓ with
      holds := { (s.lane ℓ).holds with order := t.lists.holds.any (fun e => e.matchesRecord r) }
      record := some { r with findings := f } }) ∧
  (∀ ℓ r, (s.lane ℓ).record = some r → orderTakesBack s t ℓ = true →
    backToLoading s t ℓ r .held ∧ (t.lane ℓ).holds.order = true ∧ (t.lane ℓ).backlog = (s.lane ℓ).backlog) ∧
  (∀ ℓ, (s.lane ℓ).state = .closing → orderTakesBack s t ℓ = false → t.lane ℓ = s.lane ℓ) ∧
  (∀ ℓ, (s.lane ℓ).record = none → t.lane ℓ = s.lane ℓ) ∧ sameUnlessPouring s t ∧
  t.log = { s.log with queue := (if s.log.writingStage then s.log.queue.take 1 else []) ++ s.log.unbegun.filter (fun w =>
    !(orderTakesBack s t .a && w.isOutcomeOf .a) && !(orderTakesBack s t .b && w.isOutcomeOf .b)) } ∧
  t.released = s.released ∧ t.pins = s.pins ∧ t.unit = s.unit ∧ t.pending = s.pending

/-- The row of a station after a notice of his (R146 steps 3 and 4). -/
def rowHeard (s : State) (a : Nat) : PeerRow :=
  { (if (s.view.row a).valid then s.view.row a else { PeerRow.reset with stop := s.lists.stop a != .absent }) with
    valid := true
    missed := 0
    lastHeard := s.unit.clock }

/-- The lists as a notice from a station finds them: its ORPHAN entries are LIVE again (R108, R114, R146 step 3). -/
def listsHeard (s : State) (a : Nat) : Lists := if (s.view.row a).valid then s.lists else s.lists.revive a

/-- The oldest heard notice is of a kind and from a station, with the body (R136). -/
def hears (s : State) (kind sender : Nat) (body : List Byte) : Prop :=
  s.lineOn = true ∧ s.line.receiveQueue.head? = some ⟨kind, sender, body⟩

/-- Every row but that of a station is the same. -/
def rowsKept (s t : State) (a : Nat) : Prop :=
  (∀ b, b ≠ a → t.view.row b = s.view.row b) ∧ t.view.resync = s.view.resync ∧ t.view.joining = s.view.joining ∧
    t.view.refresh = s.view.refresh

/-- The lane is VACANT after its claim was lost to another station (R14). -/
def claimLost (s t : State) (ℓ : LaneId) (r : LoadRecord) : Prop :=
  (t.lane ℓ).state = .vacant ∧ (t.lane ℓ).record = none ∧ (t.lane ℓ).claim = none ∧ (t.lane ℓ).holds = HoldSet.empty ∧
    (t.lane ℓ).result = some (.claim, .driverElsewhere) ∧ (Reason.laneDone ℓ, false) ∈ t.attention ∧
    t.log.slot r.slot = SlotEntry.free ∧ t.log.memory = s.log.memory

/-- A receive loss has reached its four blocks (R92, R141, R164). -/
def lossReaches (s t : State) : Prop :=
  t.attention = addReasonTo .lineLoss s.attention ∧
  t.view = { s.view with resync := some (max (s.view.resync.getD 0) s.refreshMs) } ∧
  (∀ c, t.chan c = { s.chan c with draw := if (s.chan c).draw = .sent then .none else (s.chan c).draw }) ∧
  (∀ ℓ c, (s.lane ℓ).progress? = some c →
    (c.step = .sent ∨ (c.step = .queued ∧ s.view.resync = none ∧ s.begunAt (.claim ℓ) = false)) →
    t.lane ℓ = (s.lane ℓ).modProgress (fun x => { x with step := .waiting })) ∧
  (∀ ℓ, (∀ c, (s.lane ℓ).progress? = some c →
      ¬ (c.step = .sent ∨ (c.step = .queued ∧ s.view.resync = none ∧ s.begunAt (.claim ℓ) = false))) →
    t.lane ℓ = s.lane ℓ) ∧
  (∀ ℓ c, (s.lane ℓ).progress? = some c → c.step = .queued → s.view.resync = none → s.begunAt (.claim ℓ) = false →
    t.noticeAt (.claim ℓ) = none) ∧
  noticesKept (fun p => ∃ ℓ, p = .claim ℓ) s t ∧ t.line.receiveQueue = s.line.receiveQueue ∧
  t.line.abortRun = s.line.abortRun ∧ t.line.faulted = s.line.faulted ∧ t.lists = s.lists ∧ t.log = s.log ∧
  t.port = s.port ∧ t.released = s.released ∧ t.pins = s.pins ∧ t.unit = s.unit ∧ t.pending = s.pending

/-- Every block has its values after reset, the straps are read and the log begins its scan of the memory it keeps (R209,
R210). -/
def blocksReset (s t : State) (address rate : Nat) : Prop :=
  t.lanes = ⟨Lane.reset, Lane.reset⟩ ∧ t.channels = PerChannel.all Channel.reset ∧ t.released = [] ∧
    t.lists = Lists.reset ∧ t.line = RackLine.reset ∧ t.view = PeerView.reset ∧ t.port = PanelPort.reset ∧
    t.attention = [] ∧ t.log = DeliveryLog.scan t.log.memory s.log.markImage ∧ t.unit.address = address ∧
    t.unit.rate = rate ∧ t.pins.strapAddress = address ∧ t.pins.strapRate = rate ∧ t.pending = s.pending

/-- The areas that an abandoned or failing write may have touched: its own, and the slot's others for a HEADER (R169, R182). -/
def writeTouches (s : State) (key : Nat) : Prop :=
  ∃ area number second w, s.log.writing = some (.stage area number second) ∧ s.log.queue.head? = some w ∧
    (key = areaKey w.slot area ∨ (area = areaHeader ∧ key / areasPerSlot = w.slot))

/-- The areas that an abandoned start scan may have touched: those whose image fails its check, which it blanks, and the OUTCOME
areas, which it writes (R182, R189). -/
def scanTouches (s : State) (key : Nat) : Prop :=
  s.log.state = .scanning ∧
    (key % areasPerSlot = areaOutcome ∨ ∃ e ∈ s.log.memory, e.1 = key ∧ verifies e.2 = false)

/-- Every area that neither the write in progress nor the start scan has touched reads as before (R182, R189). -/
def memoryKept (s t : State) : Prop :=
  ∀ key, ¬ writeTouches s key → ¬ scanTouches s key → readArea t.log.memory key = readArea s.log.memory key

/-- An area of a slot holds a stage that verifies, of a sequence number and a stage number (R169, R188). -/
def stageVerifies (s : State) (p seq n area : Nat) : Prop :=
  area < areasPerSlot ∧ verifies (readArea s.log.memory (areaKey p area)) = true ∧
    imageSeq (readArea s.log.memory (areaKey p area)) = seq ∧ imageStage (readArea s.log.memory (areaKey p area)) = n

/-- The highest sequence number of a slot's verifying areas, and the highest stage number under it (R188, R189). -/
def newestStage (s : State) (p seq top : Nat) : Prop :=
  (∃ area, stageVerifies s p seq top area) ∧
    ∀ seq' n area, stageVerifies s p seq' n area → seq' < seq ∨ (seq' = seq ∧ n ≤ top)

/-- An area holds a failing image whose stage number, as read, lies above a number (R189). -/
def tornAbove (s : State) (p area top : Nat) : Bool :=
  !(readArea s.log.memory (areaKey p area)).isEmpty && !verifies (readArea s.log.memory (areaKey p area)) &&
    top < imageStage (readArea s.log.memory (areaKey p area))

/-- The scan still writes at a slot: no write of it has failed twice at that slot or a lower one (R189). -/
def scanWrites (fault : Option Nat) (t : State) (p : Nat) : Prop :=
  t.log.state = .ready ∨ ∃ f, fault = some f ∧ p < f

/-- Every area of a slot reads as before. -/
def slotKept (s t : State) (p : Nat) : Prop :=
  ∀ area, area < areasPerSlot → readArea t.log.memory (areaKey p area) = readArea s.log.memory (areaKey p area)

/-- The figures of a driver as a heard RELEASE stores them: in place of his entry, in a free place, or in place of the entry
with the earliest stamp (R58, R59). -/
def figuresStored (before after : List (Nat × FigureSet)) (d : Nat) (f : FigureSet) : Prop :=
  ((∃ e ∈ before, e.1 = d) → after = before.map (fun e => if e.1 = d then (d, f) else e)) ∧
  ((∀ e ∈ before, e.1 ≠ d) → before.length < 32 → after = before ++ [(d, f)]) ∧
  ((∀ e ∈ before, e.1 ≠ d) → 32 ≤ before.length → ∃ out ∈ before,
    (∀ e ∈ before, out.2.stamp < e.2.stamp ∨ (out.2.stamp = e.2.stamp ∧ out.1 ≤ e.1)) ∧
    after = if f.stamp < out.2.stamp then before else before.filter (fun e => e.1 != out.1) ++ [(d, f)])

/-- The watch has been matched on a heard notice: a hit overwrites the latch and raises the count (R122). -/
def watchMatched (l : Lists) (t : State) (driver : Nat) (vehicle : Option Nat) (x : Latch) : Prop :=
  match l.watch with
  | none => t.lists = l
  | some w =>
    if (w.kind = .driver ∧ w.key = driver) ∨ (w.kind = .vehicle ∧ vehicle = some w.key) then
      t.lists = { l with latch := some x, matchCount := min (l.matchCount + 1) 255 } ∧
        (Reason.watch, false) ∈ t.attention
    else t.lists = l

/-- The watch is in STOP mode and names the driver or the vehicle (R121, R123). -/
def Lists.stopWatches (l : Lists) (driver vehicle : Nat) : Bool :=
  match l.watch with
  | none => false
  | some w => w.stopMode && ((w.kind == .driver && w.key == driver) || (w.kind == .vehicle && w.key == vehicle))

/-! ### Invariants -/

/-- The log memory has its canonical form (R169, R213). -/
def memoryCanonical (s : State) : Prop := Assoc.wf [] s.log.memory = true

/-- The permit output at the level of the channel's state and phase: HIGH in POURING and FULL, with a granted draw, LOW in POURING
and START, WAIT or SLOW, and OFF in every other state (R86). -/
def permitFollows (ch : Channel) : Prop :=
  (ch.state = .pouring → ∃ ph, ch.phase = some ph ∧ ch.permit = (if ph = .full then .high else .low) ∧
    (ph = .full → ch.draw = .granted)) ∧
  (ch.state ≠ .pouring → ch.phase = none ∧ ch.permit = .off)

/-- Every channel's permit follows its state and phase, and is OFF while the reset pin is held (R86, R209). -/
def permitsFollow (s : State) : Prop :=
  (s.inReset = false → ∀ c, permitFollows (s.chan c)) ∧ (s.inReset = true → ∀ c, (s.chan c).permit = .off)

/-- A DRAW-OFF waits only for a channel that is returning its place (R88, R91). -/
def drawOffsReturn (s : State) : Prop :=
  ∀ e ∈ s.line.sendQueue, ∀ c h, e.notice = .draw false c h → (s.chan c).draw = .returning

/-- The attention set holds at most one instance of each reason (R198). -/
def attentionOnce (s : State) : Prop := (s.attention.map Prod.fst).Nodup

/-- The Send Queue holds one notice for a place and keeps smaller kinds ahead (R129). -/
def sendQueueOrdered (s : State) : Prop :=
  (s.line.sendQueue.map (fun e => e.notice.place)).Nodup ∧
    s.line.sendQueue.Pairwise (fun x y => x.notice.kind ≤ y.notice.kind)

/-- A HOLD place is that of one of the eight own order slots (R116, R129). -/
def holdPlaces (s : State) : Prop := ∀ e ∈ s.line.sendQueue, ∀ n, e.notice.place = .hold n → n < 8

/-- The Log Write Queue holds at most two stages of a lane, and one of a channel, which is then in ENDED (R19, R99, R177). -/
def stagesBounded (s : State) : Prop :=
  (∀ ℓ, s.log.queue.countP (fun w => w.owner == .lane ℓ) ≤ 2) ∧
  (∀ c, s.log.queue.countP (fun w => w.owner == .channel c) ≤ if (s.chan c).state = .ended then 1 else 0)

/-- The Receive Queue and the abort run keep their bounds, FAULTED stands exactly at a run of 8, and a break has at most 12 bit
times left and no notice is driven meanwhile (R133, R134, R136). -/
def lineBounded (s : State) : Prop :=
  s.line.receiveQueue.length ≤ 2 ∧ s.line.abortRun ≤ 8 ∧ s.line.faulted = (s.line.abortRun == 8) ∧
    s.line.breakLeft ≤ 12 ∧ (s.line.breakLeft ≠ 0 → s.line.transmitter = none)

/-- The Hold List, the Released-Driver Table and the match count keep their bounds (R57, R110, R121). -/
def listsBounded (s : State) : Prop :=
  s.lists.holds.length ≤ 24 ∧ s.released.length ≤ 32 ∧ s.lists.matchCount ≤ 255

end Sys2Proof.Machine
end

