-- ==== Sys2Proof/Certificates/Slice0/Obligations.lean ====
section
/-! DEFINITION. The statements for the provers, by chapter of the spec. -/

open Sys2Proof Sys2Proof.Machine

/-! ### The step and the reset -/

/-- A step carries out the command at the front of the queue on the state with the queue's rest. -/
def Obligations.StepRunsFrontCommand : Prop :=
  ∀ (c : Instr) (rest : List Instr) (s : State), s.pending = c :: rest → step s = exec c { s with pending := rest }

/-- The values after reset that the spec gives, item by item (R2, R57, R76, R104, R126, R143, R171, R191, R198, R209). -/
def Obligations.ResetLeavesStatedValues : Prop :=
  State.reset.unit.state = .unconfigured ∧ State.reset.unit.config = none ∧ State.reset.unit.clock = none ∧
  State.reset.unit.causes = ⟨true, false, false⟩ ∧
  (∀ ℓ, (State.reset.lane ℓ).state = .vacant ∧ (State.reset.lane ℓ).record = none ∧
    (State.reset.lane ℓ).holds = ⟨false, false, false, false⟩ ∧ (State.reset.lane ℓ).claim = none ∧
    (State.reset.lane ℓ).reclaim = none ∧ (State.reset.lane ℓ).result = none ∧ (State.reset.lane ℓ).backlog = [] ∧
    (State.reset.lane ℓ).dispatch = false ∧ (State.reset.lane ℓ).pulse = none ∧
    (State.reset.lane ℓ).dutyTimer = none ∧ (State.reset.lane ℓ).closing = none ∧
    (State.reset.lane ℓ).owedRelease = none) ∧
  (∀ c, (State.reset.chan c).state = .idle ∧ (State.reset.chan c).phase = none ∧
    (State.reset.chan c).assigned = none ∧ (State.reset.chan c).preset = none ∧ (State.reset.chan c).slow = none ∧
    (State.reset.chan c).close = none ∧ (State.reset.chan c).pulses = 0 ∧ (State.reset.chan c).noFlow = none ∧
    (State.reset.chan c).settle = none ∧ (State.reset.causes c).any = false ∧ (State.reset.chan c).draw = .none ∧
    (State.reset.chan c).grant = false ∧ (State.reset.chan c).stray = 0 ∧ (State.reset.chan c).lastEnd = none ∧
    (State.reset.chan c).permit = .off) ∧
  State.reset.released = [] ∧
  (∀ a, State.reset.lists.stop a = .absent) ∧ State.reset.lists.announcedAssert = false ∧
  State.reset.lists.holds = [] ∧ (∀ n, State.reset.lists.order n = .free) ∧ State.reset.lists.watch = none ∧
  State.reset.lists.latch = none ∧ State.reset.lists.matchCount = 0 ∧
  State.reset.line.transmitter = none ∧ State.reset.line.breakLeft = 0 ∧ State.reset.line.idleCount = 0 ∧
  State.reset.line.receiver = none ∧
  State.reset.line.sendQueue = [] ∧ State.reset.line.receiveQueue = [] ∧ State.reset.line.abortRun = 0 ∧
  State.reset.line.faulted = false ∧
  (∀ a, State.reset.view.row a = ⟨false, 0, none, PeerLane.blank, PeerLane.blank, [], false, false⟩) ∧
  (∀ h, State.reset.viewCount h = 0) ∧ State.reset.view.resync = none ∧ State.reset.view.joining = none ∧
  State.reset.view.refresh = none ∧
  State.reset.log.state = .scanning ∧ (∀ p, (State.reset.log.slot p).state ≠ .reserved) ∧
  State.reset.log.queue = [] ∧ State.reset.log.writing = none ∧ State.reset.log.pendingMark = none ∧
  State.reset.port.step = .idle ∧ State.reset.port.held = none ∧ State.reset.attention = []

/-- Every invariant of this file holds right after reset. The log memory is blank there: the model's choice, log entry
4. -/
def Obligations.InvariantsHoldAtReset : Prop :=
  memoryCanonical State.reset ∧ permitsFollow State.reset ∧ drawOffsReturn State.reset ∧ attentionOnce State.reset ∧
    sendQueueOrdered State.reset ∧ holdPlaces State.reset ∧ lineBounded State.reset ∧ listsBounded State.reset ∧
    stagesBounded State.reset

/-! ### Invariants that every step keeps -/

/-- The log memory keeps its canonical form. The canonical form is the model's own, log entry 21. -/
def Obligations.StepKeepsMemoryCanonical : Prop :=
  ∀ s t : State, memoryCanonical s → step s = .next t → memoryCanonical t

/-- The permit outputs stand at the level of state and phase: HIGH exactly in POURING and FULL, with a granted draw, LOW exactly
in POURING and START, WAIT or SLOW, OFF in every other state and in a held reset. A DRAW-OFF waits only for a channel that is
returning its place (R86, R88, R209). -/
def Obligations.StepKeepsPermits : Prop :=
  ∀ s t : State, permitsFollow s → drawOffsReturn s → step s = .next t → permitsFollow t ∧ drawOffsReturn t

/-- The attention set holds each reason at most once (R198). -/
def Obligations.StepKeepsAttentionOnce : Prop := ∀ s t : State, attentionOnce s → step s = .next t → attentionOnce t

/-- The Send Queue keeps one notice for a place, in send order (R129). -/
def Obligations.StepKeepsSendQueue : Prop := ∀ s t : State, sendQueueOrdered s → step s = .next t → sendQueueOrdered t

/-- The Receive Queue holds at most 2 notices, the abort run keeps to 8 with FAULTED, a break to 12 bit times, the Hold List to
24 entries, the Released-Driver Table to 32 and the match count to 255; the Send Queue holds at most 22 notices and the Log
Write Queue at most 10 stages, two of a lane and one of a channel (R19, R57, R99, R110, R121, R129, R134, R136, R177). -/
def Obligations.StepKeepsBounds : Prop :=
  ∀ s t : State, step s = .next t →
    (lineBounded s → listsBounded s → lineBounded t ∧ listsBounded t) ∧
    (sendQueueOrdered s → holdPlaces s → holdPlaces t ∧ t.line.sendQueue.length ≤ 22) ∧
    (stagesBounded s → stagesBounded t ∧ t.log.queue.length ≤ 10)

/-! ### The port (chapter 9) -/

/-- A request whose check word fails is answered BAD_FRAME and changes nothing else (R192). -/
def Obligations.WrongCheckWordIsBadFrame : Prop :=
  ∀ (i : Instr) (r : Request) (ops : List Byte) (k : CheckWord) (s : State),
    requestOf i = some (r, ops, k) → s.receives r ops → k ≠ requestCheck r ops →
    exec i s = .next (s.setPort { s.port with step := .answering, answer := some ⟨none, .badFrame, []⟩ })

/-- While UNCONFIGURED every taken request but five is answered NOT_CONFIGURED and changes nothing else (R196). -/
def Obligations.UnconfiguredRefusesRequests : Prop :=
  ∀ (i : Instr) (r : Request) (ops : List Byte) (k : CheckWord) (s : State),
    requestOf i = some (r, ops, k) → s.takes r ops k → s.unit.state = .unconfigured →
    r ≠ .configure → r ≠ .readCause → r ≠ .readLog → r ≠ .trimLog → r ≠ .restart →
    exec i s = .next (s.setPort { s.port with step := .answering, answer := some ⟨some r, .notConfigured, []⟩ })

/-- A request answered by a refusal other than FINDINGS changes nothing but the port (R196). -/
def Obligations.RefusalChangesNothing : Prop :=
  ∀ (i : Instr) (r : Request) (ops : List Byte) (k : CheckWord) (s t : State) (a : Answer),
    requestOf i = some (r, ops, k) → s.receives r ops → s.port.answer = none → exec i s = .next t →
    t.port.answer = some a → a.result ≠ .ok → a.result ≠ .findings → a.body = [] ∧ t = s.answerWith a

/-- A request that comes behind a waiting READ-LOG read is held and nothing else changes (R195). -/
def Obligations.RequestIsHeldBehindRead : Prop :=
  ∀ (i : Instr) (r : Request) (ops : List Byte) (k : CheckWord) (s : State),
    requestOf i = some (r, ops, k) → s.receives r ops → k = requestCheck r ops → s.port.reading ≠ none →
    exec i s = .next (s.setPort { s.port with step := .acting, held := some ⟨r, ops, true⟩ })

/-- An unknown code is answered UNKNOWN_REQUEST at once (R193). The command with a known code changes nothing: the model's
choice, log entry 8. -/
def Obligations.UnknownCodeIsAnswered : Prop :=
  ∀ (code : Byte) (s : State), s.inReset = false → s.port.step = .receiving →
    (codeUnknown code = true → exec (.unknownRequest code) s =
      .next (s.setPort { s.port with step := .answering, answer := some ⟨none, .unknownRequest, []⟩ })) ∧
    (codeUnknown code = false → exec (.unknownRequest code) s = .next s)

/-- The chip select goes active: the port is RECEIVING, or DONE while a request is held. It goes inactive without a
RESTART: the answer is discarded, a waiting read and a held request stay without it, every reported mark is cleared
and no cause leaves (R191, R195, R199, R211). The strap operands are the model's, log entry 12. -/
def Obligations.ExchangesBeginAndEnd : Prop :=
  (∀ s : State, s.pins.chipSelect = false → s.inReset = false →
    exec .exchangeBegin s = .next ((s.setPins { s.pins with chipSelect := true }).setPort { s.port with
      step := if s.port.held = none then .receiving else .done
      answer := none
      restartDue := false })) ∧
  (∀ (address : Fin 32) (rate : Fin 4) (s : State), s.pins.chipSelect = true → s.inReset = false →
    s.port.restartDue = false → ∃ t, exec (.exchangeEnd address rate) s = .next t ∧
    t.port.step = .idle ∧ t.port.answer = none ∧
    t.port.reading = s.port.reading.map (fun r => ⟨r.index, false⟩) ∧
    t.port.held = s.port.held.map (fun h => ⟨h.request, h.ops, false⟩) ∧
    t.attention = s.attention.map (fun p => (p.1, false)) ∧ t.unit = { s.unit with reported := CauseSet.none } ∧
    t.pins = { s.pins with chipSelect := false, strapAddress := address.val, strapRate := rate.val } ∧
    t.lanes = s.lanes ∧ t.channels = s.channels ∧ t.released = s.released ∧ t.lists = s.lists ∧ t.line = s.line ∧
    t.view = s.view ∧ t.log = s.log ∧ t.freeCount = s.freeCount ∧ t.pending = s.pending)

/-- A RESTART at the end of its exchange and a power-on reset, and the reset pin in its two halves: outputs OFF, the
write abandoned, every block at its values after reset, the straps read, the causes changed and the log memory kept
(R205, R209 to R211). Only a RESTART keeps the configuration and the clock. The model's choices: what an abandoned write
leaves (log entry 6), the strap operands (12), the log's values while it scans (5), what acts in a held reset pin (9, DEDUCED),
the phase of 0 that goes with a cleared clock (24, DEDUCED) and the field subMs (15). -/
def Obligations.ResetsClearTheStation : Prop :=
  (∀ (address : Fin 32) (rate : Fin 4) (s : State), s.pins.chipSelect = true → s.inReset = false →
    s.port.restartDue = true → ∃ t, exec (.exchangeEnd address rate) s = .next t ∧
    t.unit = ⟨if s.unit.config = none then .unconfigured else .starting, s.unit.config, s.unit.clock, s.unit.phase,
      s.unit.subMs, address.val, rate.val, { s.unit.causes with restart := true }, CauseSet.none⟩ ∧
    blocksReset s t address.val rate.val ∧ memoryKept s t ∧ t.pins.chipSelect = false) ∧
  (∀ (address : Fin 32) (rate : Fin 4) (s : State), ∃ t, exec (.powerOn address rate) s = .next t ∧
    t.unit = ⟨.unconfigured, none, none, 0, 0, address.val, rate.val, ⟨true, false, false⟩, CauseSet.none⟩ ∧
    blocksReset s t address.val rate.val ∧ memoryKept s t) ∧
  (∀ s : State, s.inReset = false → ∃ t, exec .resetPin s = .next t ∧
    t.pins = { s.pins with resetAsserted := true } ∧ (∀ c, t.chan c = { s.chan c with permit := .off }) ∧
    (∀ ℓ, t.lane ℓ = { s.lane ℓ with dispatch := false, pulse := none }) ∧ t.port = PanelPort.reset ∧
    t.line = { s.line with transmitter := none, breakLeft := 0 } ∧
    t.log = { s.log with writing := none, memory := t.log.memory } ∧
    memoryKept s t ∧ t.unit = { s.unit with reported := CauseSet.none } ∧ t.attention = s.attention ∧
    t.lists = s.lists ∧ t.view = s.view ∧ t.released = s.released ∧ t.pending = s.pending) ∧
  (∀ (address : Fin 32) (rate : Fin 4) (s : State), s.inReset = true →
    ∃ t, exec (.resetPinRelease address rate) s = .next t ∧
    t.unit = ⟨.unconfigured, none, none, 0, 0, address.val, rate.val, { s.unit.causes with resetPin := true },
      CauseSet.none⟩ ∧
    blocksReset s t address.val rate.val ∧ t.log.memory = s.log.memory ∧ t.pins.resetAsserted = false)

/-- READ-ATTENTION marks every reason reported; READ-CAUSE marks the causes it answers; neither changes anything else but the
port (R199, R203, R211). -/
def Obligations.EmptyingReadsMarkWhatTheyCarry : Prop :=
  (∀ (k : CheckWord) (s : State), s.takes .readAttention [] k → s.unit.state ≠ .unconfigured →
    exec (.readAttention [] k) s =
      .next ((s.setAttention (s.attention.map (fun p => (p.1, true)))).answersOk .readAttention s.attentionBody)) ∧
  (∀ (k : CheckWord) (s : State), s.takes .readCause [] k →
    exec (.readCause [] k) s =
      .next ((s.setUnit { s.unit with reported := s.unit.causes }).answersOk .readCause s.causeBody))

/-- A delivered READ-ATTENTION answer takes the reasons still marked out of the set, a delivered READ-CAUSE answer the causes
it carried; any other delivery changes the port alone (R195, R199, R211). -/
def Obligations.DeliveryEmptiesWhatWasReported : Prop :=
  ∀ (s : State) (a : Answer), s.inReset = false → s.port.step = .answering → s.port.answer = some a →
    ∃ t, exec .answerDelivered s = .next t ∧ t.port = { s.port with step := .done, answer := none } ∧
    t.attention = (if a.request = some .readAttention ∧ a.result = .ok then s.attention.filter (fun p => !p.2)
      else s.attention) ∧
    t.unit = (if a.request = some .readCause ∧ a.result = .ok then
        { s.unit with causes := s.unit.causes.less s.unit.reported, reported := CauseSet.none }
      else s.unit) ∧
    t.pins = s.pins ∧ t.lanes = s.lanes ∧ t.channels = s.channels ∧ t.released = s.released ∧ t.lists = s.lists ∧
    t.line = s.line ∧ t.view = s.view ∧ t.log = s.log ∧ t.freeCount = s.freeCount ∧ t.pending = s.pending

/-- READ-LANE, READ-CHANNEL and READ-PEERS answer with the body of chapter 11 and change nothing but the port (R167, R201 to
R203). -/
def Obligations.ReadsChangeNothing : Prop :=
  (∀ (ops : List Byte) (k : CheckWord) (s : State) (ℓ : LaneId), s.takes .readLane ops k →
    s.unit.state ≠ .unconfigured → s.laneOperand ops 0 = some ℓ →
    exec (.readLane ops k) s = .next (s.answersOk .readLane (s.laneBody ℓ))) ∧
  (∀ (ops : List Byte) (k : CheckWord) (s : State) (c : ChanId) (cfg : ChannelCfg), s.takes .readChannel ops k →
    s.unit.state ≠ .unconfigured → s.chanOperand ops 0 = some (c, cfg) →
    exec (.readChannel ops k) s = .next (s.answersOk .readChannel (s.channelBody c))) ∧
  (∀ (ops : List Byte) (k : CheckWord) (s : State), s.takes .readPeers ops k → s.unit.state ≠ .unconfigured →
    field ops 0 1 ≤ 31 →
    exec (.readPeers ops k) s = .next (s.answersOk .readPeers
      (be 1 (field ops 0 1) ++ be 1 ((s.nextIndex (field ops 0 1)).getD 255) ++
        (if field ops 0 1 = s.unit.address then s.ownBody else s.peerBody (field ops 0 1)))))

/-- READ-LOG of a slot in use waits for the memory's turn, which answers it from the log as it then stands; neither
changes the log. A read whose exchange has ended is served and its answer discarded; a request held behind the read is
then handed to its owner as it would be taken, its answer kept while its exchange lasts and discarded after; a held
RESTART whose exchange has ended is carried out (R183, R194, R195, R210). The index is resolved again at the memory's
turn, and the strap pins show the command's operands: the model's choices, log entries 10 and 12. -/
def Obligations.LogReadWaitsForTheMemory : Prop :=
  (∀ (ops : List Byte) (k : CheckWord) (s : State), s.takes .readLog ops k → s.log.state ≠ .scanning →
    field ops 0 2 < s.log.inUse.length →
    exec (.readLog ops k) s = .next (s.setPort { s.port with
      reading := some ⟨field ops 0 2, true⟩
      step := .acting })) ∧
  (∀ (address : Fin 32) (rate : Fin 4) (s : State) (index p : Nat) (e : SlotEntry), s.inReset = false →
    s.port.reading = some ⟨index, true⟩ → s.port.held = none → s.log.writing = none → s.log.pendingMark = none →
    s.log.state ≠ .scanning → s.log.inUse[index]? = some (p, e) →
    exec (.logReadServed address rate) s =
      .next ((s.setPins { s.pins with strapAddress := address.val, strapRate := rate.val }).setPort { s.port with
        reading := none
        step := .answering
        answer := some ⟨some .readLog, .ok, readLogBody s.log p⟩ })) ∧
  (∀ (address : Fin 32) (rate : Fin 4) (s s' : State) (index : Nat), s.inReset = false →
    s.port.reading = some ⟨index, false⟩ → s.log.writing = none → s.log.pendingMark = none →
    s' = (s.setPins { s.pins with strapAddress := address.val, strapRate := rate.val }).setPort { s.port with
      reading := none
      held := none } →
    (s.port.held = none → exec (.logReadServed address rate) s = .next s') ∧
    (∀ (i : Instr) (r : Request) (ops : List Byte) (k : CheckWord), requestOf i = some (r, ops, k) →
      ops.length = r.operands → k = requestCheck r ops → s.port.step = .acting → s.port.held = some ⟨r, ops, true⟩ →
      exec (.logReadServed address rate) s = exec i (s'.setPort { s'.port with step := .receiving })) ∧
    (∀ (i : Instr) (r : Request) (ops : List Byte) (k : CheckWord), requestOf i = some (r, ops, k) → r ≠ .restart →
      ops.length = r.operands → k = requestCheck r ops → s.port.held = some ⟨r, ops, false⟩ →
      ∃ t u, exec (.logReadServed address rate) s = .next t ∧
        exec i (s'.setPort { s'.port with step := .receiving }) = .next u ∧ t.port.answer = s.port.answer ∧
        t.port.step = s.port.step ∧ t.port.held = none ∧ t.pins = u.pins ∧ t.lanes = u.lanes ∧
        t.channels = u.channels ∧ t.released = u.released ∧ t.lists = u.lists ∧ t.line = u.line ∧ t.view = u.view ∧
        t.log = u.log ∧ t.unit = { u.unit with reported := CauseSet.none } ∧
        t.attention = u.attention.map (fun x => (x.1, false)) ∧ t.freeCount = u.freeCount ∧ t.pending = u.pending) ∧
    (∀ ops : List Byte, s.port.held = some ⟨.restart, ops, false⟩ →
      ∃ t, exec (.logReadServed address rate) s = .next t ∧
        t.unit = ⟨if s.unit.config = none then .unconfigured else .starting, s.unit.config, s.unit.clock, s.unit.phase,
          s.unit.subMs, address.val, rate.val, { s.unit.causes with restart := true }, CauseSet.none⟩ ∧
        blocksReset s t address.val rate.val ∧ memoryKept s t))

/-- TRIM-LOG frees the oldest CLOSED slots up to n, and the mark becomes the last one's number and is to be written; nothing
else but the port changes (R185, R186). -/
def Obligations.TrimFreesTheOldestClosedSlots : Prop :=
  ∀ (ops : List Byte) (k : CheckWord) (s : State), s.takes .trimLog ops k → s.log.state = .ready → field ops 0 2 ≤ 1024 →
    Assoc.wf SlotEntry.free s.log.table = true →
    ∃ t gone, exec (.trimLog ops k) s = .next t ∧
    gone = (s.log.bySequence.take (field ops 0 2)).takeWhile (fun p => p.2.state == .closed) ∧
    (∀ p, t.log.slot p = if gone.any (fun e => e.1 == p) then SlotEntry.free else s.log.slot p) ∧
    (gone = [] → t.log = s.log) ∧
    (∀ last, gone.getLast? = some last → t.log = { s.log with
      table := t.log.table
      trimMark := last.2.seq.getD 0
      pendingMark := some (last.2.seq.getD 0) }) ∧
    t.port = { s.port with
      step := .answering
      answer := some ⟨some .trimLog, .ok, be 2 gone.length ++ be 2 t.log.freeSlots⟩ } ∧
    t.log.memory = s.log.memory ∧ t.log.queue = s.log.queue ∧ t.log.nextSeq = s.log.nextSeq ∧ sameStation s t ∧
    t.lanes = s.lanes ∧ t.channels = s.channels ∧ t.lists = s.lists ∧ t.line = s.line ∧ t.view = s.view ∧
    t.attention = s.attention

/-- CONFIGURE stores the configuration, starts the clock and takes the station into JOINING with a STATUS queued; the stop
chain is read then, and one that is pulled puts the own address into the stop set and a STOP ASSERT into the Send Queue. RESTART
is answered OK and left for the end of its exchange (R105, R106, R195, R204, R206). -/
def Obligations.StartUpRequestsAct : Prop :=
  (∀ (ops : List Byte) (k : CheckWord) (s : State) (cfg : Configuration) (m : Nat), s.takes .configure ops k →
    s.unit.state = .unconfigured → s.log.state ≠ .scanning → configureFields ops = some (cfg, m) →
    ∃ t, exec (.configure ops k) s = .next t ∧ t.unit = { s.unit with
        state := .joining, config := some cfg, clock := some m, phase := 0, subMs := 0 } ∧
      t.view = { s.view with
        refresh := some (cfg.refresh * 1000)
        resync := some (2 * (cfg.refresh * 1000))
        joining := some (2 * (cfg.refresh * 1000)) } ∧
      t.noticeAt .status ≠ none ∧
      (s.lists.announcedAssert = false → s.noticeAt .stop = none →
        t.noticeAt .stop = if s.pins.stopChain then some ⟨.stop true, false⟩ else none) ∧
      noticesKept (fun p => p = .status ∨ p = .stop) s t ∧
      t.lists = (if s.pins.stopChain then s.lists.setStop s.unit.address .live else s.lists) ∧
      t.port.answer = some ⟨some .configure, .ok, be 1 s.unit.address ++ be 1 s.unit.rate⟩ ∧
      t.pins = s.pins ∧ t.lanes = s.lanes ∧ t.channels = s.channels ∧ t.released = s.released ∧ t.log = s.log ∧
      t.line = { s.line with sendQueue := t.line.sendQueue } ∧ t.attention = s.attention ∧ t.freeCount = s.freeCount ∧
      t.pending = s.pending) ∧
  (∀ (k : CheckWord) (s : State), s.takes .restart [] k →
    exec (.restart [] k) s = .next (s.setPort { s.port with
      restartDue := true
      step := .answering
      answer := some ⟨some .restart, .ok, []⟩ }))

/-! ### The lanes' requests (chapters 1 to 3) -/

/-- An accepted CHECK-IN: the lane is CLAIMING with a new record, the lowest FREE slot is reserved under the counter's number,
ORDER follows the match of the Hold List, and an own accept meets the watch: a hit overwrites the latch and raises the count and
sets WATCH in STOP mode. The other lane and every channel that is not POURING are as before (R3, R4, R9, R15, R61, R120, R122,
R123, R172). -/
def Obligations.CheckInClaimsTheLane : Prop :=
  ∀ (ops : List Byte) (k : CheckWord) (s : State) (ℓ : LaneId) (x : CheckInFields), s.takes .checkIn ops k →
    s.joined = true → s.laneOperand ops 0 = some ℓ → (s.lane ℓ).state = .vacant → checkInFields ops = some x →
    (s.lane (otherLane ℓ)).holdsDriver x.driver = false → s.view.shows x.driver = false → s.log.state ≠ .logFault →
    s.log.canReserve = true → Assoc.wf SlotEntry.free s.log.table = true →
    ∃ t r c, exec (.checkIn ops k) s = .next t ∧ (t.lane ℓ).state = .claiming ∧ (t.lane ℓ).record = some r ∧
      (t.lane ℓ).claim = some c ∧ c.driver = x.driver ∧ c.announced = false ∧ c.timer = none ∧
      r.seq = s.log.nextSeq ∧ r.openMinute = s.minute ∧ r.first.driver = x.driver ∧ r.second = none ∧
      (r.first.figures, r.first.source) =
        mergeFigures s.stale s.minute x.figures (releasedOf s.released x.driver) ∧
      r.vehicle = x.vehicle ∧ r.permit = x.permit ∧ r.comps = x.comps ∧ r.plan = x.plan ∧ r.papers = [] ∧
      r.duty = none ∧
      (s.log.slot r.slot).state = .free ∧ (∀ p, p < r.slot → (s.log.slot p).state ≠ .free) ∧
      t.log.slot r.slot = ⟨.reserved, some s.log.nextSeq, 1⟩ ∧ (∀ p, p ≠ r.slot → t.log.slot p = s.log.slot p) ∧
      t.log.nextSeq = s.log.nextSeq + 1 ∧ t.log.memory = s.log.memory ∧ t.log.queue = s.log.queue ∧
      t.port.answer = some ⟨some .checkIn, .ok, be 4 s.log.nextSeq ++ be 1 r.first.source.code⟩ ∧
      t.lane (otherLane ℓ) = s.lane (otherLane ℓ) ∧ sameUnlessPouring s t ∧ sameStation s t ∧ t.view = s.view ∧
      t.lists.holds = s.lists.holds ∧ t.lists.stops = s.lists.stops ∧ t.lists.orders = s.lists.orders ∧
      watchMatched s.lists t x.driver (some x.vehicle) ⟨s.unit.address, ℓ, .checkIn, s.minute⟩ ∧
      (t.lane ℓ).holds.order = s.lists.holds.any (fun e =>
        (e.kind == .driver && e.key == x.driver) || (e.kind == .vehicle && e.key == x.vehicle)) ∧
      (t.lane ℓ).holds.watch = ((s.lane ℓ).holds.watch || s.lists.stopWatches x.driver x.vehicle) ∧
      ((t.lane ℓ).holds.order = true ∨ (t.lane ℓ).holds.watch = true → (s.lane ℓ).holds = HoldSet.empty →
        (Reason.holdSet ℓ, false) ∈ t.attention ∧ ⟨.hold, [], none⟩ ∈ r.findings)

/-- An accepted RE-DRIVER: the lane gains a pending reclaim with the merged figures, and meets the watch as an own accept; its
state, its driver and its papers are as before (R20, R61, R122, R123). -/
def Obligations.ReDriverStartsReclaim : Prop :=
  ∀ (ops : List Byte) (k : CheckWord) (s : State) (ℓ : LaneId) (r : LoadRecord) (d : Nat) (f : FigureSet),
    s.takes .reDriver ops k → s.joined = true → s.laneOperand ops 0 = some ℓ → (s.lane ℓ).record = some r →
    (s.lane ℓ).claim = none → ((s.lane ℓ).state = .opened ∨ (s.lane ℓ).state = .loading) → (s.lane ℓ).reclaim = none →
    reDriverFields ops = some (d, f) → (d = r.current.driver ∨ r.second = none) →
    (s.lane (otherLane ℓ)).holdsDriver d = false → (d = r.current.driver ∨ s.view.shows d = false) →
    ∃ t r' rc, exec (.reDriver ops k) s = .next t ∧ (t.lane ℓ).reclaim = some rc ∧ rc.claim.driver = d ∧
      rc.claim.announced = false ∧ rc.claim.timer = none ∧
      (rc.figures, rc.source) = mergeFigures s.stale s.minute f (releasedOf s.released d) ∧
      (t.lane ℓ).state = (s.lane ℓ).state ∧ (t.lane ℓ).record = some r' ∧ r' = { r with findings := r'.findings } ∧
      t.port.answer = some ⟨some .reDriver, .ok, be 1 rc.source.code⟩ ∧
      t.lane (otherLane ℓ) = s.lane (otherLane ℓ) ∧ sameUnlessPouring s t ∧ sameStation s t ∧ t.view = s.view ∧
      t.log = s.log ∧ watchMatched s.lists t d (some r.vehicle) ⟨s.unit.address, ℓ, .reDriver, s.minute⟩ ∧
      (t.lane ℓ).holds = { (s.lane ℓ).holds with
        watch := (s.lane ℓ).holds.watch || s.lists.stopWatches d r.vehicle } ∧
      (s.lists.stopWatches d r.vehicle = true → (s.lane ℓ).holds.watch = false →
        (Reason.holdSet ℓ, false) ∈ t.attention)

/-- An accepted PAPER-ENTRY joins the papers list in order of compartment with its switch-load mark, and nothing else
but the port changes (R34 to R36, R46). -/
def Obligations.PaperEntryJoinsTheList : Prop :=
  ∀ (ops : List Byte) (k : CheckWord) (s : State) (ℓ : LaneId) (cfg : Configuration) (r : LoadRecord) (comp : Comp)
    (product : Product) (group : Packing), s.takes .paperEntry ops k → s.joined = true →
    s.laneOperand ops 0 = some ℓ → s.unit.config = some cfg → (s.lane ℓ).record = some r → (s.lane ℓ).state = .opened →
    r.comp? (field ops 1 1) = some comp → r.entry? (field ops 1 1) = none → cfg.product (field ops 2 1) = some product →
    Packing.ofCode? (field ops 6 1) = some group →
    product = ⟨field ops 3 2, field ops 5 1, group, product.high⟩ → 1 ≤ field ops 3 2 → field ops 3 2 ≤ 9999 →
    field ops 5 1 ≤ 15 → 1 ≤ field ops 7 2 → field ops 7 2 ≤ comp.capacity →
    (field ops 9 1 = 255 ∨ cfg.product (field ops 9 1) ≠ none) →
    ∃ e, e = (⟨field ops 1 1, field ops 2 1, field ops 3 2, field ops 5 1, group, field ops 7 2,
        if field ops 9 1 = 255 then none else some (field ops 9 1),
        !product.high && (match cfg.product (field ops 9 1) with
          | some q => field ops 9 1 == 255 || q.high
          | none => true),
        false⟩ : PaperEntry) ∧
      exec (.paperEntry ops k) s = .next ((s.setLane ℓ { s.lane ℓ with
        record := some { r with papers := insertEntry e r.papers } }).answersOk .paperEntry (be 1 (r.papers.length + 1)))

/-- An accepted PAPER-DELETE takes the compartment's entry out, and nothing else but the port changes (R37). -/
def Obligations.PaperDeleteTakesTheEntryOut : Prop :=
  ∀ (ops : List Byte) (k : CheckWord) (s : State) (ℓ : LaneId) (r : LoadRecord), s.takes .paperDelete ops k →
    s.joined = true → s.laneOperand ops 0 = some ℓ → (s.lane ℓ).record = some r → (s.lane ℓ).state = .opened →
    r.entry? (field ops 1 1) ≠ none →
    ∃ kept, kept = r.papers.filter (fun e => e.comp != field ops 1 1) ∧
      exec (.paperDelete ops k) s = .next ((s.setLane ℓ { s.lane ℓ with
        record := some { r with papers := kept } }).answersOk .paperDelete (be 1 kept.length))

/-- A passing PAPERS-CLOSE: the lane is LOADING with the duty result, the timer is armed with L and the papers stage is handed
over. One that does not pass is answered with its findings, which join the record's list; the record keeps the plan given, and
nothing else but the port changes (R5, R18, R19, R38, R39, R44, R68). -/
def Obligations.PapersCloseStartsLoading : Prop :=
  (∀ (ops : List Byte) (k : CheckWord) (s : State) (ℓ : LaneId) (cfg : Configuration) (r r' : LoadRecord)
    (given : Option Plan) (d : DutyResult), s.takes .papersClose ops k → s.joined = true →
    s.laneOperand ops 0 = some ℓ → s.unit.config = some cfg → (s.lane ℓ).record = some r → (s.lane ℓ).state = .opened →
    s.stagesFull ℓ = false → planField ops 1 = some given →
    r' = { r with plan := if given = none then r.plan else given } → closeFindings cfg r' s.minute = [] →
    recordDuty cfg r' s.minute = some (.pass d) → s.minute ≤ Config.clockMax →
    ∃ t, exec (.papersClose ops k) s = .next t ∧ (t.lane ℓ).state = .loading ∧
      (t.lane ℓ).record = some { r' with duty := some d } ∧ (t.lane ℓ).holds = (s.lane ℓ).holds ∧
      (t.lane ℓ).dutyTimer = some ⟨d.latest, d.setBy, decide (d.latest ≤ s.minute + cfg.limits.warn)⟩ ∧
      t.log.queue = (if s.log.state = .logFault then s.log.queue
        else s.log.queue ++ [⟨r.slot, r.seq, ⟨.papers, papersContent r'⟩, .lane ℓ⟩]) ∧
      t.port.answer = some ⟨some .papersClose, .ok, dutyBytes (some d)⟩ ∧
      t.lane (otherLane ℓ) = s.lane (otherLane ℓ) ∧ t.channels = s.channels ∧ sameStation s t ∧ t.lists = s.lists ∧
      t.line = s.line ∧ t.view = s.view ∧ t.log.table = s.log.table ∧ t.log.memory = s.log.memory) ∧
  (∀ (ops : List Byte) (k : CheckWord) (s : State) (ℓ : LaneId) (cfg : Configuration) (r r' : LoadRecord)
    (given : Option Plan), s.takes .papersClose ops k → s.joined = true → s.laneOperand ops 0 = some ℓ →
    s.unit.config = some cfg → (s.lane ℓ).record = some r → (s.lane ℓ).state = .opened → s.stagesFull ℓ = false →
    planField ops 1 = some given → r' = { r with plan := if given = none then r.plan else given } →
    closeFindings cfg r' s.minute ≠ [] →
    exec (.papersClose ops k) s = .next ((s.setLane ℓ { s.lane ℓ with
        record := some { r' with findings := (closeFindings cfg r' s.minute).foldl joinFinding r.findings } }).answerWith
      ⟨some .papersClose, .findings, findingsBytes (closeFindings cfg r' s.minute)⟩))

/-- An accepted AMEND: the entry takes the litres and the amended mark, or leaves the list at 0 litres, and an amend stage is
handed over; nothing else but the port changes. An amount that takes the load past its dangerous litres is answered with that
finding, which joins the record's list, and the entry stays (R5, R41, R48 to R50). -/
def Obligations.AmendChangesTheEntry : Prop :=
  (∀ (ops : List Byte) (k : CheckWord) (s : State) (ℓ : LaneId) (r : LoadRecord) (e : PaperEntry) (comp : Comp)
    (papers : List PaperEntry), s.takes .amend ops k → s.joined = true → s.laneOperand ops 0 = some ℓ →
    (s.lane ℓ).record = some r → (s.lane ℓ).state = .loading → r.entry? (field ops 1 1) = some e →
    r.comp? (field ops 1 1) = some comp → s.compBusy ℓ (field ops 1 1) = false →
    ((1 ≤ field ops 2 2 ∧ field ops 2 2 ≤ comp.capacity) ∨ (field ops 2 2 = 0 ∧ comp.metered = 0)) →
    s.stagesFull ℓ = false →
    papers = (if field ops 2 2 = 0 then r.papers.filter (fun x => x.comp != field ops 1 1)
      else r.papers.map (fun x => if x.comp = field ops 1 1 then { e with declared := field ops 2 2, amended := true }
        else x)) →
    testDangerous r papers = [] →
    exec (.amend ops k) s = .next (((s.setLane ℓ { s.lane ℓ with record := some { r with papers := papers } }).setLog
        { s.log with queue := if s.log.state = .logFault then s.log.queue
            else s.log.queue ++ [⟨r.slot, r.seq, ⟨.amend, papersContent { r with papers := papers }⟩, .lane ℓ⟩] }).answersOk
      .amend (if field ops 2 2 = 0 then be 1 (field ops 1 1) ++ be 9 0
        else ({ e with declared := field ops 2 2, amended := true } : PaperEntry).bytes))) ∧
  (∀ (ops : List Byte) (k : CheckWord) (s : State) (ℓ : LaneId) (r : LoadRecord) (e : PaperEntry) (comp : Comp)
    (papers : List PaperEntry), s.takes .amend ops k → s.joined = true → s.laneOperand ops 0 = some ℓ →
    (s.lane ℓ).record = some r → (s.lane ℓ).state = .loading → r.entry? (field ops 1 1) = some e →
    r.comp? (field ops 1 1) = some comp → s.compBusy ℓ (field ops 1 1) = false → 1 ≤ field ops 2 2 →
    field ops 2 2 ≤ comp.capacity → s.stagesFull ℓ = false →
    papers = r.papers.map (fun x => if x.comp = field ops 1 1 then { e with declared := field ops 2 2, amended := true }
      else x) →
    r.permit.maxDangerous < ((papers.filter (fun x => x.cls != 0)).map PaperEntry.declared).sum →
    exec (.amend ops k) s = .next ((s.setLane ℓ { s.lane ℓ with
        record := some { r with findings := joinFinding r.findings ⟨.dangerousOver, [], none⟩ } }).answerWith
      ⟨some .amend, .findings, findingsBytes [⟨.dangerousOver, [], none⟩]⟩))

/-- An accepted RELEASE: the lane is CLOSING with the fresh duty result, the onward figures are kept, the timer stops and a
RELEASED outcome stage is queued; nothing else but the port changes. A RELEASE whose tests find something is answered with the
findings, which join the record's list, and the lane stays LOADING (R5, R24, R51, R54, R71, R73). -/
def Obligations.ReleaseStartsClosing : Prop :=
  (∀ (ops : List Byte) (k : CheckWord) (s : State) (ℓ : LaneId) (cfg : Configuration) (r : LoadRecord) (plan : Plan)
    (d : DutyResult), s.takes .release ops k → s.joined = true → s.laneOperand ops 0 = some ℓ →
    s.unit.config = some cfg → (s.lane ℓ).record = some r → (s.lane ℓ).state = .loading → (s.lane ℓ).reclaim = none →
    s.log.state ≠ .logFault → s.laneBusy ℓ = false → s.stagesFull ℓ = false → r.plan = some plan →
    releaseFindings cfg r (s.lane ℓ).holds (s.probe ℓ) s.minute = [] → recordDuty cfg r s.minute = some (.pass d) →
    ∃ onward, onward = onwardFigures cfg.limits r.current.figures plan s.minute ∧
      exec (.release ops k) s = .next (((s.setLane ℓ { s.lane ℓ with
          state := .closing
          record := some { r with duty := some d }
          dutyTimer := none
          closing := some ⟨.released, s.minute, onward, true, false⟩ }).setLog { s.log with
          queue := s.log.queue ++ [⟨r.slot, r.seq,
            ⟨.outcome, outcomeContent 1 (some s.minute) (some d) r.findings onward⟩, .lane ℓ⟩] }).answersOk .release [])) ∧
  (∀ (ops : List Byte) (k : CheckWord) (s : State) (ℓ : LaneId) (cfg : Configuration) (r : LoadRecord)
    (fs : List Finding), s.takes .release ops k → s.joined = true → s.laneOperand ops 0 = some ℓ →
    s.unit.config = some cfg → (s.lane ℓ).record = some r → (s.lane ℓ).state = .loading → (s.lane ℓ).reclaim = none →
    s.log.state ≠ .logFault → s.laneBusy ℓ = false → s.stagesFull ℓ = false →
    fs = releaseFindings cfg r (s.lane ℓ).holds (s.probe ℓ) s.minute → fs ≠ [] →
    exec (.release ops k) s = .next ((s.setLane ℓ { s.lane ℓ with
        record := some { r with findings := fs.foldl joinFinding r.findings } }).answerWith
      ⟨some .release, .findings, findingsBytes fs⟩))

/-- A VOID in CLAIMING withdraws the claim and frees the slot; a VOID of an open load takes the lane into CLOSING for a void,
sends its ARMED channels to IDLE and ends its running pours VOIDED. Under LOG_FAULT no outcome stage is produced: the lane goes
on to VACANT at once where no pour runs, its slot leaving OPEN, and waits for its channels where one does (R14, R25 to R28, R79,
R173). -/
def Obligations.VoidAbandonsTheLoad : Prop :=
  (∀ (ops : List Byte) (k : CheckWord) (s : State) (ℓ : LaneId) (r : LoadRecord) (c : Claim), s.takes .void ops k →
    s.joined = true → s.laneOperand ops 0 = some ℓ → (s.lane ℓ).state = .claiming → (s.lane ℓ).record = some r →
    (s.lane ℓ).claim = some c → Assoc.wf SlotEntry.free s.log.table = true →
    ∃ t, exec (.void ops k) s = .next t ∧ (t.lane ℓ).state = .vacant ∧ (t.lane ℓ).record = none ∧
      (t.lane ℓ).claim = none ∧ (t.lane ℓ).holds = HoldSet.empty ∧
      (t.lane ℓ).result = some (.claim, .voided) ∧ (Reason.laneDone ℓ, false) ∈ t.attention ∧
      t.log.slot r.slot = SlotEntry.free ∧ (∀ p, p ≠ r.slot → t.log.slot p = s.log.slot p) ∧
      t.log.queue = s.log.queue ∧ t.log.memory = s.log.memory ∧
      (c.announced = true → s.noticeAt (.release ℓ) = none →
        t.noticeAt (.release ℓ) = some ⟨.release ℓ .withdrawn c.driver none, false⟩) ∧
      t.port.answer = some ⟨some .void, .ok, []⟩ ∧ t.lane (otherLane ℓ) = s.lane (otherLane ℓ) ∧
      t.channels = s.channels ∧ sameStation s t ∧ t.lists = s.lists ∧ t.view = s.view) ∧
  (∀ (ops : List Byte) (k : CheckWord) (s : State) (ℓ : LaneId) (r : LoadRecord) (cfg : Configuration),
    s.takes .void ops k → s.joined = true → s.laneOperand ops 0 = some ℓ → s.unit.config = some cfg →
    ((s.lane ℓ).state = .opened ∨ (s.lane ℓ).state = .loading) → (s.lane ℓ).record = some r →
    s.laneSettling ℓ = false → s.log.state ≠ .logFault →
    ∃ t c, exec (.void ops k) s = .next t ∧ (t.lane ℓ).state = .closing ∧ (t.lane ℓ).record = some r ∧
      (t.lane ℓ).closing = some c ∧ c.outcome = .voided ∧ c.minute = s.minute ∧
      c.figures = onwardFigures cfg.limits r.current.figures ⟨0, 0⟩ s.minute ∧ c.handed = !t.laneBusy ℓ ∧
      (t.lane ℓ).reclaim = none ∧ (t.lane ℓ).dutyTimer = none ∧ (t.lane ℓ).holds = (s.lane ℓ).holds ∧
      (∀ ch, (s.chan ch).atLane ℓ = true → (s.chan ch).state = .armed → (t.chan ch).state = .idle) ∧
      (∀ ch, (s.chan ch).atLane ℓ = true → ((s.chan ch).state = .pouring ∨ (s.chan ch).state = .suspended) →
        (t.chan ch).state = .settling ∧ (t.chan ch).pourEnd = some .voided ∧ (t.chan ch).permit = .off) ∧
      (∀ ch, (s.chan ch).atLane ℓ = false → (s.chan ch).state ≠ .pouring → t.chan ch = s.chan ch) ∧
      t.port.answer = some ⟨some .void, .ok, []⟩ ∧ t.lane (otherLane ℓ) = s.lane (otherLane ℓ) ∧ sameStation s t ∧
      t.lists = s.lists ∧ t.view = s.view ∧ t.log.memory = s.log.memory) ∧
  (∀ (ops : List Byte) (k : CheckWord) (s : State) (ℓ : LaneId) (r : LoadRecord) (cfg : Configuration) (c : Closing),
    s.takes .void ops k → s.joined = true → s.laneOperand ops 0 = some ℓ → s.unit.config = some cfg →
    ((s.lane ℓ).state = .opened ∨ (s.lane ℓ).state = .loading) → (s.lane ℓ).record = some r →
    s.laneSettling ℓ = false → s.log.state = .logFault → Assoc.wf SlotEntry.free s.log.table = true →
    c = ⟨.voided, s.minute, onwardFigures cfg.limits r.current.figures ⟨0, 0⟩ s.minute, false, false⟩ →
    ∃ t, exec (.void ops k) s = .next t ∧ t.port.answer = some ⟨some .void, .ok, []⟩ ∧
      ((∀ ch, (s.chan ch).atLane ℓ = true → (s.chan ch).state = .armed) → (s.lane ℓ).reclaim = none →
        s.releaseWaiting ℓ = false →
        leftClosing s t ℓ r c ∧ (∀ p, t.log.slot p =
          if p = r.slot then slotAfterFault (s.log.slot p) r.seq else s.log.slot p)) ∧
      ((∃ ch, (s.chan ch).atLane ℓ = true ∧ (s.chan ch).state ≠ .armed) →
        (t.lane ℓ).state = .closing ∧ (t.lane ℓ).record = some r ∧ (t.lane ℓ).closing = some c ∧
        (t.lane ℓ).reclaim = none ∧ (t.lane ℓ).dutyTimer = none ∧ t.log = s.log) ∧
      t.log = { s.log with table := t.log.table } ∧ t.lane (otherLane ℓ) = s.lane (otherLane ℓ) ∧ sameStation s t ∧
      t.lists = s.lists ∧ t.view = s.view)

/-! ### Driver duty arithmetic (chapter 3) -/

/-- The break count is 0 where P is no greater than the room, the larger of 0 and CONT_LIMIT − C, and else the ceiling of
(P − room) / CONT_LIMIT (R64). -/
def Obligations.BreakCountIsTheCeiling : Prop :=
  ∀ (lim : Limits) (f : FigureSet) (p : Nat), 0 < lim.cont →
    ((breakRoom lim f : Int) = max 0 ((lim.cont : Int) - f.cont)) ∧
    (p ≤ breakRoom lim f → breakCount lim f p = 0) ∧
    (breakRoom lim f < p → ∃ q r, p - breakRoom lim f = q * lim.cont + r ∧ r < lim.cont ∧
      breakCount lim f p = if r = 0 then q else q + 1) ∧
    (30 ≤ lim.cont → p ≤ 1440 → breakCount lim f p ≤ 48) ∧
    (lim.cont = 30 → 30 ≤ f.cont → breakCount lim f 1440 = 48)

/-- The projected figures with the elapsed time, 0 for a stamp ahead; the four margins, the limiting figure as the first of
DRIVE, DUTY, WEEK, SPAN with the smallest margin, and the outcome: a pass exactly where that margin is 0 or more. A pass
carries L, the minute plus the smaller of the DUTY and SPAN margins, and the figure that set it; the onward figures are the
projected ones, each at most the top of its range, with C' the driving after the last break and the stamp at the trip's end.
Figures older than STALE end in STALE_FIGURES and give no onward figures (R63, R65 to R68, R72). -/
def Obligations.MarginsDecideTheOutcome : Prop :=
  ∀ (lim : Limits) (f : FigureSet) (plan : Plan) (t : Nat),
    ((lim.stale : Int) < (t : Int) - f.stamp →
      dutyCompute lim f plan t = .stale ∧ onwardFigures lim f plan t = none) ∧
    ((t : Int) - f.stamp ≤ lim.stale →
    ∃ (x : Projection) (e : Nat) (m : DutyFigure → Int) (fig : DutyFigure) (o : FigureSet), x = project lim f plan t ∧
      (e : Int) = max ((t : Int) - f.stamp) 0 ∧ x.drive = f.drive + plan.p ∧
      x.duty = f.duty + e + plan.p + plan.q ∧ x.week = f.week + plan.p ∧
      x.span = f.span + e + plan.p + plan.q + x.breaks * lim.breakMin ∧ x.breaks = breakCount lim f plan.p ∧
      m .drive = (lim.drive : Int) - x.drive ∧ m .duty = (lim.duty : Int) - x.duty ∧
      m .week = (lim.week : Int) - x.week ∧ m .span = (lim.span : Int) - x.span ∧
      (∀ g, m fig ≤ m g) ∧
      (∀ g, m g = m fig → fig = .drive ∨ g = fig ∨ (fig = .duty ∧ g ≠ .drive) ∨ (fig = .week ∧ g = .span)) ∧
      (0 ≤ m fig → ∃ d, dutyCompute lim f plan t = .pass d ∧ d.margin = m fig ∧ d.limiting = fig ∧
        d.breaks = x.breaks ∧ (d.latest : Int) = min ((t : Int) + min (m .duty) (m .span)) 4294967295 ∧
        d.setBy = (if m .duty ≤ m .span then .duty else .span)) ∧
      (m fig < 0 → dutyCompute lim f plan t = .short fig) ∧
      onwardFigures lim f plan t = some o ∧ o.drive = min x.drive 1440 ∧ o.duty = min x.duty 1440 ∧
      o.week = min x.week 10080 ∧ o.span = min x.span 1440 ∧
      o.stamp = min (t + plan.p + plan.q + x.breaks * lim.breakMin) 4294967295 ∧
      (0 < lim.cont → (o.cont : Int) = min (if x.breaks = 0 then (f.cont : Int) + plan.p
        else ((plan.p : Int) - max 0 ((lim.cont : Int) - f.cont)) - ((x.breaks : Int) - 1) * lim.cont) 1440))

/-! ### The pour channels (chapter 4) -/

/-- An accepted POUR-ARM assigns the channel, fixes the preset and both thresholds, sets the pulse count to 0 and changes
nothing else but the port (R77, R78). -/
def Obligations.PourArmFixesTheQuantities : Prop :=
  ∀ (ops : List Byte) (k : CheckWord) (s : State) (c : ChanId) (cfg : ChannelCfg) (ℓ : LaneId) (r : LoadRecord)
    (comp : Comp) (e : PaperEntry), s.takes .pourArm ops k → s.joined = true → s.chanOperand ops 0 = some (c, cfg) →
    s.laneOperand ops 1 = some ℓ → (s.lane ℓ).record = some r → (s.lane ℓ).state = .loading →
    (s.lane ℓ).holds = HoldSet.empty → (s.chan c).state = .idle → cfg.reach.covers ℓ = true →
    r.comp? (field ops 2 1) = some comp → r.entry? (field ops 2 1) = some e → e.product = cfg.product →
    (∀ d, (s.chan d).assigned ≠ some (ℓ, field ops 2 1)) → comp.pours < 4 → comp.metered < e.declared →
    s.probe ℓ = .dry →
    ∃ preset slow close, preset = e.declared - comp.metered ∧ slow = (preset : Int) - cfg.slowVol ∧
      close = max (preset - cfg.closeLead) 1 ∧
      exec (.pourArm ops k) s = .next ((s.setChan c { s.chan c with
        state := .armed
        assigned := some (ℓ, field ops 2 1)
        preset := some preset
        slow := some slow
        close := some close
        pulses := 0 }).answersOk .pourArm (be 2 preset ++ beSigned slow ++ be 2 close))

/-- POUR-STOP sends an ARMED channel to IDLE and ends a running pour with STOPPED (R79, R91, R98). -/
def Obligations.PourStopEndsThePour : Prop :=
  ∀ (ops : List Byte) (k : CheckWord) (s : State) (c : ChanId) (cfg : ChannelCfg), s.takes .pourStop ops k →
    s.joined = true → s.chanOperand ops 0 = some (c, cfg) →
    ((s.chan c).state = .armed → exec (.pourStop ops k) s = .next ((s.setChan c { s.chan c with
        state := .idle
        assigned := none
        preset := none
        slow := none
        close := none }).answersOk .pourStop [])) ∧
    (runsPour s c → ∃ t, exec (.pourStop ops k) s = .next t ∧ pourEnds s t c .stopped ∧ channelEvent (· = c) s t ∧
      t.lanes = s.lanes ∧ t.attention = s.attention ∧ t.pins = s.pins ∧
      t.port.answer = some ⟨some .pourStop, .ok, []⟩)

/-- An accepted POUR-RESUME: the channel is POURING again in the phase its quantities give (R84, R86, R89, R96). -/
def Obligations.PourResumeGoesOn : Prop :=
  ∀ (ops : List Byte) (k : CheckWord) (s : State) (c : ChanId) (cfg : ChannelCfg), s.takes .pourResume ops k →
    s.joined = true → s.chanOperand ops 0 = some (c, cfg) → (s.chan c).state = .suspended → (s.chan c).phase = none →
    s.probeWetAt c = false → (s.causes c).any = false → s.pins.coupled.get c = true →
    ∃ t ph, exec (.pourResume ops k) s = .next t ∧ poursOn s t c cfg (s.chan c) ∧ (t.chan c).phase = some ph ∧
      channelEvent (· = c) s t ∧ t.lanes = s.lanes ∧ t.attention = s.attention ∧ t.pins = s.pins ∧
      t.port.answer = some ⟨some .pourResume, .ok, be 1 ph.code⟩

/-- A pulse is stray in IDLE, ARMED and ENDED, and adds to the pour in POURING, SUSPENDED and SETTLING; the compartment takes
the rise in litres, and a rise to the close threshold ends a running pour COMPLETE (R81 to R84, R87, R95, R101). -/
def Obligations.PulsesAreCounted : Prop :=
  (∀ (c : ChanId) (cfg : ChannelCfg) (s : State), s.inReset = false → s.chanCfg c = some cfg →
    ((s.chan c).state = .idle ∨ (s.chan c).state = .armed ∨ (s.chan c).state = .ended) →
    exec (.meterPulse c) s =
      if (s.chan c).stray < 65535 then
        .next ((s.setChan c { s.chan c with stray := (s.chan c).stray + 1 }).setAttention
          (if ((s.chan c).stray + 1) % cfg.k = 0 then addReasonTo (.stray c) s.attention else s.attention))
      else .next s) ∧
  (∀ (c : ChanId) (cfg : ChannelCfg) (s : State) (ℓ : LaneId) (n : Nat) (r : LoadRecord) (comp : Comp),
    s.inReset = false → s.chanCfg c = some cfg → (runsPour s c ∨ (s.chan c).state = .settling) →
    (s.chan c).assigned = some (ℓ, n) → (s.lane ℓ).record = some r → r.comp? n = some comp →
    ∃ t count old new closes, exec (.meterPulse c) s = .next t ∧ count = min ((s.chan c).pulses + 1) 16777215 ∧
      old = (s.chan c).pulses / cfg.k ∧ new = count / cfg.k ∧
      closes = (decide (old < new) && decide ((s.chan c).close.getD 0 ≤ new)) ∧
      (t.chan c).pulses = count ∧ (t.chan c).stray = (s.chan c).stray ∧
      t.lane ℓ = { s.lane ℓ with
        record := some (r.modComp n (fun x => { x with metered := comp.metered + (new - old) })) } ∧
      t.lane (otherLane ℓ) = s.lane (otherLane ℓ) ∧ channelEvent (· = c) s t ∧ t.attention = s.attention ∧
      t.pins = s.pins ∧ t.port = s.port ∧
      (runsPour s c → closes = true → drawReturned s t c ∧ t.chan c = { s.chan c with
        state := .settling
        pulses := count
        phase := none
        permit := .off
        draw := drawGivenUp s c
        noFlow := none
        pourEnd := some .complete
        pourFinish := some s.minute
        settle := some s.settleMs }) ∧
      ((s.chan c).state = .pouring → closes = false → (t.chan c).state = .pouring ∧
        (t.chan c).noFlow = some s.noFlowMs ∧
        (old < new → ∃ ph, phaseFits t c cfg ph ∧ (t.chan c).phase = some ph ∧
          (t.chan c).permit = if ph = .full then .high else .low)) ∧
      ((s.chan c).state = .settling ∨ ((s.chan c).state = .suspended ∧ closes = false) →
        t.chan c = { s.chan c with pulses := count }))

/-- A press starts the pour of an ARMED channel against which nothing stands, and changes the button's level alone
elsewhere; releasing the button and connecting the coupler change the input's level alone (R80). A press of a pressed
button changes nothing: the model's choice, log entry 8. -/
def Obligations.PressStartsThePour : Prop :=
  (∀ (c : ChanId) (cfg : ChannelCfg) (s : State), s.inReset = false → s.chanCfg c = some cfg →
    s.pins.pressed.get c = false → (s.chan c).state = .armed → (s.chan c).phase = none →
    s.pins.coupled.get c = true → s.groundOkAt c = true → s.probeWetAt c = false → (s.causes c).any = false →
    ∃ t, exec (.startPress c) s = .next t ∧ poursOn s t c cfg { s.chan c with pourStart := some s.minute } ∧
      channelEvent (· = c) s t ∧ t.lanes = s.lanes ∧ t.attention = s.attention ∧ t.port = s.port ∧
      t.pins = { s.pins with pressed := s.pins.pressed.set c true }) ∧
  (∀ (c : ChanId) (s : State), s.pins.pressed.get c = false →
    (s.inReset = true ∨ s.chanCfg c = none ∨ (s.chan c).state ≠ .armed ∨ s.pins.coupled.get c = false ∨
      s.groundOkAt c = false ∨ s.probeWetAt c = true ∨ (s.causes c).any = true) →
    exec (.startPress c) s = .next (s.setPins { s.pins with pressed := s.pins.pressed.set c true })) ∧
  (∀ (c : ChanId) (s : State), s.pins.pressed.get c = true → exec (.startPress c) s = .next s) ∧
  (∀ (c : ChanId) (s : State),
    exec (.startButtonRelease c) s = .next (s.setPins { s.pins with pressed := s.pins.pressed.set c false })) ∧
  (∀ (c : ChanId) (s : State),
    exec (.couplerConnected c) s = .next (s.setPins { s.pins with coupled := s.pins.coupled.set c true }))

/-- A coupler lost ends the pour of a POURING channel UNCOUPLED; a probe going WET ends every running pour of its lane PROBE;
in any other state the input's level alone changes (R17, R95, R97, R98). -/
def Obligations.LostInputsEndPours : Prop :=
  (∀ (c : ChanId) (cfg : ChannelCfg) (s : State), s.inReset = false → s.chanCfg c = some cfg →
    s.pins.coupled.get c = true →
    ((s.chan c).state = .pouring → ∃ t, exec (.couplerLost c) s = .next t ∧ pourEnds s t c .uncoupled ∧
      channelEvent (· = c) s t ∧ t.lanes = s.lanes ∧ t.attention = s.attention ∧ t.port = s.port ∧
      t.pins = { s.pins with coupled := s.pins.coupled.set c false }) ∧
    ((s.chan c).state ≠ .pouring →
      exec (.couplerLost c) s = .next (s.setPins { s.pins with coupled := s.pins.coupled.set c false }))) ∧
  (∀ (ℓ : LaneId) (s : State), s.inReset = false → s.probe ℓ = .dry →
    ∃ t, exec (.probeChange ℓ .wet) s = .next t ∧
      (∀ c, (s.chan c).atLane ℓ = true → runsPour s c → pourEnds s t c .probe) ∧
      channelEvent (fun c => (s.chan c).atLane ℓ = true ∧ runsPour s c) s t ∧ t.lanes = s.lanes ∧
      t.attention = s.attention ∧ t.port = s.port ∧ t.pins = s.pins.setProbe ℓ .wet) ∧
  (∀ (ℓ : LaneId) (s : State), exec (.probeChange ℓ .dry) s = .next (s.setPins (s.pins.setProbe ℓ .dry)))

/-- A lost ground and an asserted stop input suspend the POURING channels they reach; the own member follows the input and the
STOP that states it is queued where it differs from the announced direction (R93, R94, R105, R106). -/
def Obligations.CausesSuspendPours : Prop :=
  (∀ (ℓ : LaneId) (g : Ground) (s : State), s.inReset = false → s.ground ℓ ≠ g →
    ∃ t, exec (.groundChange ℓ g) s = .next t ∧ causesReach s t ∧
      (g = .lost → ∀ c, (s.chan c).atLane ℓ = true → (s.chan c).state = .pouring → pourSuspends s t c) ∧
      channelEvent (meetsCause s t) s t ∧ t.lanes = s.lanes ∧ t.port = s.port ∧ t.pins = s.pins.setGround ℓ g) ∧
  (∀ (asserted : Bool) (s : State), s.lineOn = true → s.pins.stopChain ≠ asserted →
    Assoc.wf StopMember.absent s.lists.stops = true →
    ∃ t, exec (.stopInputChange asserted) s = .next t ∧ causesReach s t ∧
      (asserted = true → ∀ c, (s.chan c).state = .pouring → pourSuspends s t c) ∧
      (∀ a, t.lists.stop a =
        if a = s.unit.address then (if asserted then .live else .absent) else s.lists.stop a) ∧
      t.lists = { s.lists with stops := t.lists.stops } ∧
      (s.begunAt .stop = false → t.noticeAt .stop =
        if asserted = s.lists.announcedAssert then none else some ⟨.stop asserted, false⟩) ∧
      (s.begunAt .stop = true → t.noticeAt .stop = s.noticeAt .stop) ∧ lineKept s t ∧
      noticesKept (fun p => p = .stop ∨ isDrawPlace p) s t ∧ t.lanes = s.lanes ∧ t.port = s.port ∧
      t.pins = { s.pins with stopChain := asserted } ∧ t.view = s.view ∧ t.log = s.log ∧ t.unit = s.unit ∧
      t.released = s.released ∧ t.pending = s.pending)

/-- A running settle timer's expiry: the compartment's pour count, last end status and overfill mark are written, the
pour stage joins the Log Write Queue with the stray count, the count is cleared and CHANNEL_END is added; under
LOG_FAULT the channel goes on to IDLE (R98 to R100, R102). The command needs only a running timer: the model's choice,
log entry 15. -/
def Obligations.SettleTimeEndsThePour : Prop :=
  ∀ (c : ChanId) (s : State) (ℓ : LaneId) (n : Nat) (r : LoadRecord) (comp after : Comp), s.inReset = false →
    (s.chan c).settle ≠ none → (s.chan c).state = .settling → (s.chan c).assigned = some (ℓ, n) →
    (s.lane ℓ).record = some r → r.comp? n = some comp →
    after = { comp with
      pours := comp.pours + 1
      lastEnd := (s.chan c).pourEnd
      overfill := comp.overfill || decide (comp.capacity < comp.metered) } →
    ∃ t, exec (.settleTimerExpiry c) s = .next t ∧ (Reason.channelEnd c, false) ∈ t.attention ∧
      (t.chan c).stray = 0 ∧ (t.chan c).lastEnd = (s.chan c).pourEnd ∧ (t.chan c).settle = none ∧
      (s.log.state ≠ .logFault →
        t.chan c = { s.chan c with state := .ended, settle := none, stray := 0, lastEnd := (s.chan c).pourEnd } ∧
        t.lane ℓ = { s.lane ℓ with record := some (r.modComp n (fun _ => after)) } ∧
        t.log = { s.log with queue := s.log.queue ++ [⟨r.slot, r.seq,
          ⟨.pour n after.pours, pourContent c n after.pours (s.chan c) (s.pourLitres c) after⟩, .channel c⟩] } ∧
        t.attention = addReasonTo (.channelEnd c) s.attention ∧ t.line = s.line) ∧
      (s.log.state = .logFault → (t.chan c).state = .idle ∧ (t.chan c).assigned = none ∧ (t.chan c).preset = none ∧
        t.log.queue = s.log.queue ∧ t.log.memory = s.log.memory) ∧
      (∀ d, d ≠ c → t.chan d = s.chan d) ∧ t.lane (otherLane ℓ) = s.lane (otherLane ℓ) ∧ t.lists = s.lists ∧
      t.view = s.view ∧ t.port = s.port ∧ sameStation s t

/-! ### Stops, holds and the watch (chapter 5) -/

/-- An accepted HOLD-ISSUE takes the lowest FREE slot, inserts the image, queues the ISSUE and re-matches the lanes; an ORDER that
reaches a lane CLOSING for a release takes it back to LOADING while its outcome stage can be withdrawn (R29, R117, R120, R181). -/
def Obligations.HoldIssueTakesTheLowestSlot : Prop :=
  ∀ (ops : List Byte) (k : CheckWord) (s : State) (n : Nat) (kind : KeyKind) (key : Nat), s.takes .holdIssue ops k →
    s.joined = true → keyFields ops = some (kind, key) → n < 8 → s.lists.order n = .free →
    (∀ m, m < n → s.lists.order m ≠ .free) → s.lists.holds.length < 24 →
    ∃ t, exec (.holdIssue ops k) s = .next t ∧ t.port.answer = some ⟨some .holdIssue, .ok, be 1 n⟩ ∧
      t.lists = { s.lists with
        orders := t.lists.orders
        holds := s.lists.holds ++ [⟨s.unit.address, n, kind, key, field ops 5 1, false, 0⟩] } ∧
      (∀ m, t.lists.order m = if m = n then .active kind key (field ops 5 1) else s.lists.order m) ∧
      (s.noticeAt (.hold n) = none → t.noticeAt (.hold n) = some ⟨.hold true n kind key (field ops 5 1), false⟩) ∧
      rematched s t ∧ lineKept s t ∧ noticesKept (fun p => p = .hold n ∨ isDrawPlace p) s t ∧ t.view = s.view

/-- An accepted HOLD-CANCEL removes the image, puts the slot into CANCELLING, removes an ISSUE that is not begun and queues
the CANCEL; a begun ISSUE stays (R118, R120). -/
def Obligations.HoldCancelWithdrawsTheOrder : Prop :=
  ∀ (ops : List Byte) (k : CheckWord) (s : State) (n : Nat) (kind : KeyKind) (key reason : Nat),
    s.takes .holdCancel ops k → s.joined = true → n = field ops 0 1 → n ≤ 7 →
    s.lists.order n = .active kind key reason →
    ∃ t, exec (.holdCancel ops k) s = .next t ∧ t.port.answer = some ⟨some .holdCancel, .ok, []⟩ ∧
      t.lists = { s.lists with
        orders := t.lists.orders
        holds := s.lists.holds.filter (fun e => !(e.origin == s.unit.address && e.order == n)) } ∧
      (∀ m, t.lists.order m = if m = n then .cancelling kind key reason else s.lists.order m) ∧
      (s.begunAt (.hold n) = false → t.noticeAt (.hold n) = some ⟨.hold false n kind key reason, false⟩) ∧
      (s.begunAt (.hold n) = true → t.noticeAt (.hold n) = s.noticeAt (.hold n)) ∧ rematched s t ∧ lineKept s t ∧
      noticesKept (fun p => p = .hold n ∨ isDrawPlace p) s t ∧ t.view = s.view

/-- HOLD-DROP takes an ORPHAN entry out and re-matches the lanes, STOP-DROP takes an ORPHAN member out; WATCH-SET and
WATCH-CLEAR write the watch, and UNHOLD-WATCH takes WATCH out of the lane's hold set (R109, R115, R121, R124). -/
def Obligations.ListRequestsAct : Prop :=
  (∀ (ops : List Byte) (k : CheckWord) (s : State) (e : HoldEntry), s.takes .holdDrop ops k → s.joined = true →
    field ops 0 1 ≤ 31 → field ops 0 1 ≠ s.unit.address → field ops 1 1 ≤ 7 →
    s.lists.hold? (field ops 0 1) (field ops 1 1) = some e → e.orphan = true →
    ∃ t left, exec (.holdDrop ops k) s = .next t ∧
      left = s.lists.holds.filter (fun x => !(x.origin == field ops 0 1 && x.order == field ops 1 1)) ∧
      t.lists = { s.lists with holds := left } ∧ t.port.answer = some ⟨some .holdDrop, .ok, be 1 left.length⟩ ∧
      rematched s t ∧ lineKept s t ∧ noticesKept isDrawPlace s t ∧ t.view = s.view) ∧
  (∀ (ops : List Byte) (k : CheckWord) (s : State), s.takes .stopDrop ops k → s.joined = true →
    field ops 0 1 ≤ 31 → field ops 0 1 ≠ s.unit.address → s.lists.stop (field ops 0 1) = .orphan →
    Assoc.wf StopMember.absent s.lists.stops = true →
    ∃ stops : Assoc StopMember,
      (∀ a, Assoc.get .absent a stops = if a = field ops 0 1 then .absent else s.lists.stop a) ∧
      exec (.stopDrop ops k) s =
        .next ((s.setLists { s.lists with stops := stops }).answersOk .stopDrop (be 1 stops.length))) ∧
  (∀ (ops : List Byte) (k : CheckWord) (s : State) (kind : KeyKind) (key : Nat), s.takes .watchSet ops k →
    s.joined = true → keyFields ops = some (kind, key) → field ops 5 1 ≤ 1 →
    exec (.watchSet ops k) s = .next ((s.setLists { s.lists with
      watch := some ⟨kind, key, field ops 5 1 == 1⟩
      latch := none
      matchCount := 0 }).answersOk .watchSet [])) ∧
  (∀ (k : CheckWord) (s : State), s.takes .watchClear [] k → s.joined = true →
    exec (.watchClear [] k) s = .next ((s.setLists { s.lists with watch := none }).answersOk .watchClear [])) ∧
  (∀ (ops : List Byte) (k : CheckWord) (s : State) (ℓ : LaneId), s.takes .unholdWatch ops k → s.joined = true →
    s.laneOperand ops 0 = some ℓ → (s.lane ℓ).holds.watch = true →
    exec (.unholdWatch ops k) s = .next ((s.setLane ℓ { s.lane ℓ with
      holds := { (s.lane ℓ).holds with watch := false } }).answersOk .unholdWatch []))

/-- A HOLD ISSUE heard replaces, inserts or fails to store its entry, a HOLD CANCEL heard removes it, and an entry
whose count has reached 3 lapses; a change of keys re-matches the lanes, and an ORDER that reaches a lane CLOSING for a release
takes it back to LOADING while its outcome stage can be withdrawn (R29, R111 to R114, R120, R181). An echo is taken by the same
commands and changes nothing but the queue: log entry 17. The lapse is a command of its own: log entry 16. -/
def Obligations.HoldNoticesChangeTheHoldList : Prop :=
  (∀ (s : State) (a n : Nat) (body : List Byte) (kind : KeyKind) (key reason : Nat), hears s 5 a body →
    parseHold body = some (true, n, kind, key, reason) → a ≠ s.unit.address →
    ∃ t l, exec .holdIssueHeard s = .next t ∧ l = listsHeard s a ∧ t.view.row a = rowHeard s a ∧ rowsKept s t a ∧
      lineHeard s t ∧ t.port = s.port ∧
      (∀ e, l.hold? a n = some e →
        t.lists = { l with holds := l.holds.map (fun x =>
          if x.origin = a ∧ x.order = n then ⟨a, n, kind, key, reason, false, 0⟩ else x) } ∧
        (e.kind = kind → e.key = key → t.lanes = s.lanes ∧ t.channels = s.channels ∧ t.attention = s.attention) ∧
        ((e.kind ≠ kind ∨ e.key ≠ key) → rematched s t)) ∧
      (l.hold? a n = none → l.holds.length < 24 →
        t.lists = { l with holds := l.holds ++ [⟨a, n, kind, key, reason, false, 0⟩] } ∧ rematched s t) ∧
      (l.hold? a n = none → 24 ≤ l.holds.length → t.lists = l ∧ t.lanes = s.lanes ∧ t.channels = s.channels ∧
        t.attention = addReasonTo .holdListFull s.attention)) ∧
  (∀ (s : State) (a n : Nat) (body : List Byte) (kind : KeyKind) (key reason : Nat), hears s 5 a body →
    parseHold body = some (false, n, kind, key, reason) → a ≠ s.unit.address →
    ∃ t l, exec .holdCancelHeard s = .next t ∧ l = listsHeard s a ∧ t.view.row a = rowHeard s a ∧ rowsKept s t a ∧
      lineHeard s t ∧ t.port = s.port ∧
      (l.hold? a n ≠ none →
        t.lists = { l with holds := l.holds.filter (fun e => !(e.origin == a && e.order == n)) } ∧ rematched s t) ∧
      (l.hold? a n = none → t.lists = l ∧ t.lanes = s.lanes ∧ t.channels = s.channels ∧ t.attention = s.attention)) ∧
  (∀ (s : State) (body : List Byte) (issue : Bool) (x : Nat × KeyKind × Nat × Nat),
    hears s 5 s.unit.address body → parseHold body = some (issue, x) →
    exec (if issue then .holdIssueHeard else .holdCancelHeard) s =
      .next (s.setLine { s.line with receiveQueue := s.line.receiveQueue.drop 1 })) ∧
  (∀ (s : State) (a n : Nat) (e : HoldEntry), s.inReset = false → s.lists.hold? a n = some e → e.orphan = false →
    e.missed = 3 → a ≠ s.unit.address →
    ∃ t, exec (.holdEntryLapse a n) s = .next t ∧
      t.lists = { s.lists with holds := s.lists.holds.filter (fun x => !(x.origin == a && x.order == n)) } ∧
      rematched s t ∧ lineKept s t ∧ noticesKept isDrawPlace s t ∧ t.view = s.view ∧ t.port = s.port)

/-! ### The lanes' timers and the minute (chapters 1 and 3) -/

/-- The claim window runs out: the lane is OPEN, its slot OPEN in the table, the header stage handed over and the
result CLAIM OK (R11, R173, R174). The command needs only a running timer: the model's choice, log entry 15. -/
def Obligations.ClaimWindowOpensTheLoad : Prop :=
  ∀ (ℓ : LaneId) (s : State) (r : LoadRecord) (c : Claim), s.inReset = false → (s.lane ℓ).record = some r →
    (s.lane ℓ).claim = some c → c.timer ≠ none → s.stagesFull ℓ = false →
    ∃ t, exec (.claimTimerExpiry ℓ) s = .next t ∧
      t.lane ℓ = { s.lane ℓ with state := .opened, claim := none, result := some (.claim, .ok) } ∧
      t.attention = addReasonTo (.laneDone ℓ) s.attention ∧
      (∀ p, t.log.slot p = if p = r.slot then { s.log.slot p with state := .opened } else s.log.slot p) ∧
      t.log = { s.log with
        table := t.log.table
        queue := if s.log.state = .logFault then s.log.queue
          else s.log.queue ++ [⟨r.slot, r.seq, ⟨.header, headerContent ℓ r⟩, .lane ℓ⟩] } ∧
      t.lane (otherLane ℓ) = s.lane (otherLane ℓ) ∧ t.channels = s.channels ∧ t.lists = s.lists ∧ t.line = s.line ∧
      t.view = s.view ∧ t.port = s.port ∧ sameStation s t

/-- The reclaim window runs out. For the current driver DUPLICATE leaves the hold set and nothing else of the load
changes; for another driver he becomes current, the handover RELEASE is queued, DUPLICATE leaves the set, the Hold
List is matched again and, in LOADING, the duty result is his or absent with DUTY set (R22, R23, R71, R73). The
command needs only a running timer: the model's choice, log entry 15. -/
def Obligations.ReclaimWindowEnds : Prop :=
  (∀ (ℓ : LaneId) (s : State) (r : LoadRecord) (rc : Reclaim), s.inReset = false → (s.lane ℓ).record = some r →
    (s.lane ℓ).reclaim = some rc → rc.claim.timer ≠ none → rc.claim.driver = r.current.driver →
    exec (.reclaimTimerExpiry ℓ) s = .next ((s.setLane ℓ { s.lane ℓ with
      holds := { (s.lane ℓ).holds with duplicate := false }
      reclaim := none
      result := some (.reclaim, .ok) }).setAttention (addReasonTo (.laneDone ℓ) s.attention))) ∧
  (∀ (ℓ : LaneId) (s : State) (r : LoadRecord) (rc : Reclaim) (cfg : Configuration), s.inReset = false →
    s.unit.config = some cfg → (s.lane ℓ).record = some r → (s.lane ℓ).reclaim = some rc → rc.claim.timer ≠ none →
    rc.claim.driver ≠ r.current.driver → ((s.lane ℓ).state = .opened ∨ (s.lane ℓ).state = .loading) →
    s.stagesFull ℓ = false → s.minute ≤ Config.clockMax →
    ∃ t r' figures, exec (.reclaimTimerExpiry ℓ) s = .next t ∧
      figures = onwardFigures cfg.limits r.current.figures ⟨0, 0⟩ s.minute ∧
      (t.lane ℓ).state = (s.lane ℓ).state ∧ (t.lane ℓ).reclaim = none ∧ (t.lane ℓ).result = some (.reclaim, .ok) ∧
      (Reason.laneDone ℓ, false) ∈ t.attention ∧ (t.lane ℓ).record = some r' ∧
      r' = { r with
        second := some ⟨rc.claim.driver, rc.figures, rc.source⟩
        findings := r'.findings
        duty := r'.duty } ∧
      (s.noticeAt (.release ℓ) = none →
        t.noticeAt (.release ℓ) = some ⟨.release ℓ .handover r.current.driver figures, false⟩) ∧
      t.log = { s.log with queue := if s.log.state = .logFault then s.log.queue
        else s.log.queue ++ [⟨r.slot, r.seq,
          ⟨.driver, driverContent ⟨rc.claim.driver, rc.figures, rc.source⟩ s.minute figures⟩, .lane ℓ⟩] } ∧
      (t.lane ℓ).holds.duplicate = false ∧ (t.lane ℓ).holds.watch = (s.lane ℓ).holds.watch ∧
      (t.lane ℓ).holds.order = s.lists.holds.any (fun e => e.matchesRecord r') ∧
      ((s.lane ℓ).state = .opened → r'.duty = r.duty ∧ (t.lane ℓ).holds.duty = false) ∧
      ((s.lane ℓ).state = .loading → ∀ plan o, r.plan = some plan →
        o = dutyCompute cfg.limits rc.figures plan s.minute →
        (∀ d, o = .pass d → r'.duty = some d ∧ (t.lane ℓ).holds.duty = false ∧
          (t.lane ℓ).dutyTimer = some ⟨d.latest, d.setBy, decide (d.latest ≤ s.minute + cfg.limits.warn)⟩) ∧
        ((∀ d, o ≠ .pass d) → r'.duty = none ∧ (t.lane ℓ).dutyTimer = none ∧ (t.lane ℓ).holds.duty = true)) ∧
      t.lane (otherLane ℓ) = s.lane (otherLane ℓ) ∧ sameUnlessPouring s t ∧ t.lists = s.lists ∧ t.view = s.view ∧
      t.port = s.port ∧ sameStation s t)

/-- The dispatch pulse ends with its output OFF, a running no-flow timer's expiry ends the pour NOFLOW, and the
joining timer's expiry takes the station into ON_LINE and changes nothing else (R28, R97, R98, R101, R212). The
commands need only a running timer: the model's choice, log entry 15. -/
def Obligations.TimersRunOut : Prop :=
  (∀ (ℓ : LaneId) (s : State), s.inReset = false → (s.lane ℓ).pulse ≠ none →
    exec (.dispatchPulseEnd ℓ) s = .next (s.setLane ℓ { s.lane ℓ with dispatch := false, pulse := none })) ∧
  (∀ (c : ChanId) (s : State), s.inReset = false → (s.chan c).noFlow ≠ none → (s.chan c).state = .pouring →
    ∃ t, exec (.noFlowTimerExpiry c) s = .next t ∧ pourEnds s t c .noflow ∧ channelEvent (· = c) s t ∧
      t.lanes = s.lanes ∧ t.attention = s.attention ∧ t.pins = s.pins ∧ t.port = s.port) ∧
  (∀ s : State, s.inReset = false → s.view.joining ≠ none →
    exec .joiningTimerExpiry s =
      .next ((s.setView { s.view with joining := none }).setUnit { s.unit with state := .onLine }))

/-- An advance of the minute clock is one event: the clock rises by 1 and stops at its maximum; a timer that has come within
WARN of L warns once, one past L sets DUTY and stops, and every entry older than STALE leaves the Released-Driver Table (R60,
R69, R70, R208). An advance needs only a running clock and sets the phase to 0: the model's choice, log entry 15. Each of its
parts is a command too, which tests at the due minute while an advance is due: log entry 16. The step of an empty queue is one
bit time of the line: a break comes nearer its end, or the idle count rises by 1 unless the own notice is driven or a partial
notice waits for the loss of R139 (R131, R133). Each whole ms that bit times make up runs the timers down and raises the minute's
phase, to 60 s: the model's choice, log entry 15. -/
def Obligations.MinuteEventsAct : Prop :=
  (∀ (s : State) (m : Nat), s.inReset = false → s.unit.clock = some m → 4294967295 ≤ m →
    exec .minuteAdvance s = .next s) ∧
  (∀ (s : State) (m : Nat) (cfg : Configuration), s.inReset = false → s.unit.clock = some m → m < 4294967295 →
    s.unit.config = some cfg →
    ∃ t, exec .minuteAdvance s = .next t ∧ t.unit = { s.unit with clock := some (m + 1), phase := 0 } ∧
      t.released = s.released.filter (fun e => decide (((m + 1 : Nat) : Int) - e.2.stamp ≤ cfg.limits.stale)) ∧
      (∀ ℓ, (s.lane ℓ).dutyTimer = none → t.lane ℓ = s.lane ℓ) ∧
      (∀ ℓ x, (s.lane ℓ).dutyTimer = some x → m + 1 ≤ x.latest → t.lane ℓ = { s.lane ℓ with
        dutyTimer := some { x with warned := x.warned || decide (x.latest ≤ m + 1 + cfg.limits.warn) } }) ∧
      (∀ ℓ x r, (s.lane ℓ).dutyTimer = some x → x.latest < m + 1 → (s.lane ℓ).state = .loading →
        (s.lane ℓ).record = some r → (s.lane ℓ).holds.duty = false →
        t.lane ℓ = { s.lane ℓ with
          dutyTimer := none
          holds := { (s.lane ℓ).holds with duty := true }
          record := some { r with findings := joinFinding r.findings ⟨.dutyShort, [], some x.figure⟩ } } ∧
        (Reason.holdSet ℓ, false) ∈ t.attention) ∧
      (∀ ℓ x, (s.lane ℓ).dutyTimer = some x → x.warned = false → x.latest ≤ m + 1 + cfg.limits.warn →
        (Reason.dutyNear ℓ, false) ∈ t.attention) ∧
      (∀ p ∈ t.attention, p ∈ s.attention ∨ ∃ ℓ x, (s.lane ℓ).dutyTimer = some x ∧
        ((x.warned = false ∧ x.latest ≤ m + 1 + cfg.limits.warn ∧ p = (Reason.dutyNear ℓ, false)) ∨
          (x.latest < m + 1 ∧ p = (Reason.holdSet ℓ, false)))) ∧
      t.pins = s.pins ∧ t.channels = s.channels ∧ t.lists = s.lists ∧ t.line = s.line ∧ t.view = s.view ∧
      t.log = s.log ∧ t.port = s.port ∧ t.freeCount = s.freeCount ∧ t.pending = s.pending) ∧
  (∀ (ℓ : LaneId) (s : State) (x : DutyTimer) (cfg : Configuration), s.inReset = false → s.unit.config = some cfg →
    (s.lane ℓ).dutyTimer = some x → x.warned = false → x.latest ≤ s.dueMinute + cfg.limits.warn →
    exec (.dutyNear ℓ) s = .next ((s.setLane ℓ { s.lane ℓ with
      dutyTimer := some { x with warned := true } }).setAttention (addReasonTo (.dutyNear ℓ) s.attention))) ∧
  (∀ (ℓ : LaneId) (s : State) (x : DutyTimer) (r : LoadRecord), s.inReset = false → (s.lane ℓ).dutyTimer = some x →
    x.latest < s.dueMinute → (s.lane ℓ).state = .loading → (s.lane ℓ).record = some r → (s.lane ℓ).holds.duty = false →
    exec (.dutyTimerExpiry ℓ) s = .next ((s.setLane ℓ { s.lane ℓ with
      dutyTimer := none
      holds := { (s.lane ℓ).holds with duty := true }
      record := some { r with
        findings := joinFinding r.findings ⟨.dutyShort, [], some x.figure⟩ } }).setAttention
      (addReasonTo (.holdSet ℓ)
        (if x.warned then s.attention else addReasonTo (.dutyNear ℓ) s.attention)))) ∧
  (∀ (d m : Nat) (s : State) (f : FigureSet) (cfg : Configuration), s.inReset = false → s.unit.clock = some m →
    s.unit.config = some cfg → releasedOf s.released d = some f →
    exec (.releasedDriverAgeing d) s =
      if m < 4294967295 ∧ s.unit.phase = 60000 ∧ (cfg.limits.stale : Int) < ((m + 1 : Nat) : Int) - f.stamp then
        .next (s.setReleased (s.released.filter (fun e => e.1 != d)))
      else .next s) ∧
  (∀ (s : State) (m : Nat), s.unit.clock = some m → s.dueMinute =
    if s.inReset = false ∧ m < 4294967295 ∧ s.unit.phase = 60000 then m + 1 else m) ∧
  (∀ s : State, s.pending = [] → s.inReset = false →
    ∃ t, step s = .next t ∧
      (s.joined = false → t.line = s.line) ∧
      (s.joined = true → s.line.breakLeft ≠ 0 →
        t.line = { s.line with breakLeft := s.line.breakLeft - 1, idleCount := 0 }) ∧
      (s.joined = true → s.line.breakLeft = 0 → t.line = { s.line with
        idleCount := s.line.idleCount +
          if s.line.transmitter = none ∧ (s.line.receiver = none ∨ s.line.idleCount < 11) then 1 else 0 }) ∧
      (s.partsAfterBit < 1536 → t = (s.setLine t.line).setUnit { s.unit with subMs := s.partsAfterBit }) ∧
      (1536 ≤ s.partsAfterBit →
        (∀ ℓ, t.lane ℓ = { s.lane ℓ with
          pulse := (s.lane ℓ).pulse.map (· - 1)
          claim := (s.lane ℓ).claim.map (fun c => { c with timer := c.timer.map (· - 1) })
          reclaim := (s.lane ℓ).reclaim.map (fun r => { r with claim := { r.claim with
            timer := r.claim.timer.map (· - 1) } }) }) ∧
        (∀ c, t.chan c = { s.chan c with
          noFlow := (s.chan c).noFlow.map (· - 1)
          settle := (s.chan c).settle.map (· - 1) }) ∧
        t.view = { s.view with
          resync := s.view.resync.map (· - 1)
          joining := s.view.joining.map (· - 1)
          refresh := s.view.refresh.map (· - 1) } ∧
        t.unit = { s.unit with
          phase := if s.unit.clock = none then s.unit.phase else min (s.unit.phase + 1) 60000
          subMs := s.partsAfterBit - 1536 }) ∧
      t.pending = [] ∧ t.pins = s.pins ∧ t.released = s.released ∧ t.lists = s.lists ∧ t.log = s.log ∧
      t.port = s.port ∧ t.attention = s.attention ∧ t.freeCount = s.freeCount)

/-- A refresh tick queues a STATUS and the refreshes of the ACTIVE own orders, raises the missed count of every valid
row and starts again; a row whose count is 3 expires, its stop member and hold entries becoming ORPHAN (R108, R114,
R119, R147, R148). The tick needs only a running timer, and the expiry of a row is a command of its own: the model's choices,
log entries 15 and 16. -/
def Obligations.RefreshTicksAgeTheRows : Prop :=
  (∀ s : State, s.inReset = false → s.view.refresh ≠ none →
    ∃ t, exec .refreshTick s = .next t ∧
      t.view = { s.view with rows := t.view.rows, refresh := some s.refreshMs } ∧
      (∀ a, t.view.row a = if (s.view.row a).valid then
          { s.view.row a with missed := min ((s.view.row a).missed + 1) 3 }
        else s.view.row a) ∧
      t.noticeAt .status ≠ none ∧ (s.noticeAt .status ≠ none → t.noticeAt .status = s.noticeAt .status) ∧
      (∀ n kind key reason, n < 8 → s.lists.order n = .active kind key reason → s.noticeAt (.hold n) = none →
        t.noticeAt (.hold n) = some ⟨.hold true n kind key reason, false⟩) ∧
      (∀ n, (8 ≤ n ∨ s.noticeAt (.hold n) ≠ none ∨ ∀ kind key reason, s.lists.order n ≠ .active kind key reason) →
        t.noticeAt (.hold n) = s.noticeAt (.hold n)) ∧
      noticesKept (fun p => p = .status ∨ ∃ n, p = .hold n) s t ∧
      t.line = { s.line with sendQueue := t.line.sendQueue } ∧ t.lanes = s.lanes ∧ t.channels = s.channels ∧
      t.lists = s.lists ∧ t.log = s.log ∧ t.port = s.port ∧ t.attention = s.attention ∧ sameStation s t) ∧
  (∀ (a : Nat) (s : State), s.inReset = false → (s.view.row a).valid = true → (s.view.row a).missed = 3 →
    ∃ t, exec (.rowExpiry a) s = .next t ∧
      t.view.row a = { PeerRow.reset with missed := 3, lastHeard := (s.view.row a).lastHeard } ∧ rowsKept s t a ∧
      (∀ b, t.lists.stop b = if b = a ∧ s.lists.stop a = .live then .orphan else s.lists.stop b) ∧
      t.lists = { s.lists with
        stops := t.lists.stops
        holds := s.lists.holds.map (fun e => if e.origin = a then { e with orphan := true } else e) } ∧
      ((s.lists.stop a = .live ∨ ∃ e ∈ s.lists.holds, e.origin = a ∧ e.orphan = false) →
        t.attention = addReasonTo .orphan s.attention) ∧
      (¬ (s.lists.stop a = .live ∨ ∃ e ∈ s.lists.holds, e.origin = a ∧ e.orphan = false) →
        t.attention = s.attention) ∧
      othersAsk (fun _ => False) s t ∧ lineKept s t ∧ noticesKept isDrawPlace s t ∧ t.lanes = s.lanes ∧ t.log = s.log ∧
      t.port = s.port ∧ sameStation s t)

/-- Resync ends: every WAITING claim that nothing holds back queues its CLAIM, and a round is held for every header: a channel in
WAIT is offered a draw exactly where the count, the asking channels and the offers to lower channels leave room (R10, R89, R166).
The command needs only a running timer: the model's choice, log entry 15. -/
def Obligations.ResyncEndsWithRoundsAndClaims : Prop :=
  ∀ s : State, s.inReset = false → s.view.resync ≠ none →
    ∃ t, exec .resyncTimerExpiry s = .next t ∧ t.view = { s.view with resync := none } ∧
      othersAsk (fun _ => False) s t ∧
      (∀ c cfg, s.chanCfg c = some cfg → cfg.header ≤ 7 → (s.chan c).wantsDraw = true →
        (s.viewCount cfg.header + s.asking cfg.header + s.waitersBelow cfg.header c < s.headerLimit cfg.header →
          t.chan c = { s.chan c with draw := .asked } ∧ (s.noticeAt (.draw c) = none →
            t.noticeAt (.draw c) = some ⟨.draw true c cfg.header, false⟩)) ∧
        (s.headerLimit cfg.header ≤ s.viewCount cfg.header + s.asking cfg.header + s.waitersBelow cfg.header c →
          t.chan c = s.chan c ∧ t.noticeAt (.draw c) = s.noticeAt (.draw c))) ∧
      (∀ ℓ c, (s.lane ℓ).progress? = some c → c.step = .waiting → s.releaseWaiting ℓ = false →
        s.begunAt (.claim ℓ) = false →
        t.lane ℓ = (s.lane ℓ).modProgress (fun x => { x with step := .queued }) ∧
        (s.noticeAt (.claim ℓ) = none →
          t.noticeAt (.claim ℓ) = some ⟨.claim ℓ (s.lane ℓ).claim.isNone c.driver (s.lane ℓ).vehicle, false⟩)) ∧
      (∀ ℓ, (∀ c, (s.lane ℓ).progress? = some c →
          c.step ≠ .waiting ∨ s.releaseWaiting ℓ = true ∨ s.begunAt (.claim ℓ) = true) → t.lane ℓ = s.lane ℓ) ∧
      t.line = { s.line with sendQueue := t.line.sendQueue } ∧
      noticesKept (fun p => isDrawPlace p ∨ ∃ ℓ, p = .claim ℓ) s t ∧ t.lists = s.lists ∧ t.log = s.log ∧
      t.port = s.port ∧ t.attention = s.attention ∧ sameStation s t

/-! ### The rack line and the peer view (chapters 6 and 7) -/

/-- A header in WAITING is held; the characters that follow are held as they come, and a whole notice that checks joins the
Receive Queue and one of kind 7 does not. A break drops what is held, unmarked characters in WAITING are ignored, and the six
kinds of loss reach their four blocks. Every dominant bit sets the idle count to 0, and the idle gap inside a notice leaves it at
12 (R131, R137 to R141, R164). A notice comes in two commands or more, and each kind of loss through its own row or the row that
meets it: the model's choice, log entry 18. The idle count is log entry 15, and its 0 at the end of a notice 38, DEDUCED. -/
def Obligations.ReceptionTakesNoticesOrLosesThem : Prop :=
  (∀ (h : Byte) (s : State), s.lineOn = true →
    (s.line.receiver = none →
      exec (.headerCharacterReceived h) s =
        .next (s.setLine { s.line with receiver := some ⟨h, []⟩, idleCount := 0 })) ∧
    (s.line.receiver ≠ none →
      ∃ t, exec (.headerCharacterReceived h) s = .next t ∧ lossReaches s t ∧ t.line.receiver = some ⟨h, []⟩ ∧
        t.line.idleCount = 0)) ∧
  (∀ s : State, s.lineOn = true →
    exec .breakReceived s = .next (s.setLine { s.line with receiver := none, idleCount := 0 })) ∧
  (∀ (length : Byte) (body : List Byte) (check : CheckWord) (s : State), s.lineOn = true → s.line.receiver = none →
    exec (.noticeReceived length body check) s = .next (s.setLine { s.line with idleCount := 0 })) ∧
  (∀ (h length : Byte) (taken body : List Byte) (check : CheckWord) (s : State), s.lineOn = true →
    s.line.receiver = some ⟨h, taken⟩ → (∃ more, taken ++ more = length :: body) →
    (48 < length.toNat → ∃ t, exec (.noticeReceived length body check) s = .next t ∧ lossReaches s t ∧
      t.line.receiver = none ∧ t.line.idleCount = 0) ∧
    (length.toNat ≤ 48 → body.length < length.toNat → exec (.noticeReceived length body check) s =
      .next (s.setLine { s.line with receiver := some ⟨h, length :: body⟩, idleCount := 0 })) ∧
    (length.toNat ≤ 48 → body.length = length.toNat →
      (check ≠ checkWord (h :: length :: body) → ∃ t, exec (.noticeReceived length body check) s = .next t ∧
        lossReaches s t ∧ t.line.receiver = none) ∧
      (check = checkWord (h :: length :: body) → h.toNat / 32 = 7 →
        exec (.noticeReceived length body check) s =
          .next (s.setLine { s.line with receiver := none, idleCount := 0 })) ∧
      (check = checkWord (h :: length :: body) → h.toNat / 32 ≠ 7 → s.line.receiveQueue.length < 2 →
        exec (.noticeReceived length body check) s = .next (s.setLine { s.line with
          receiver := none
          idleCount := 0
          receiveQueue := s.line.receiveQueue ++ [⟨h.toNat / 32, h.toNat % 32, body⟩] })) ∧
      (check = checkWord (h :: length :: body) → h.toNat / 32 ≠ 7 → 2 ≤ s.line.receiveQueue.length →
        ∃ t, exec (.noticeReceived length body check) s = .next t ∧ lossReaches s t ∧ t.line.receiver = none))) ∧
  (∀ (kind : LossKind) (s : State), s.lineOn = true → (kind = .framing ∨ s.line.receiver ≠ none) →
    ∃ t, exec (.receiveLoss kind) s = .next t ∧ lossReaches s t ∧
      t.line.receiver = (match kind with | .markedEarly h => some ⟨h, []⟩ | _ => none) ∧
      t.line.idleCount = if kind = .idleWithin then 12 else 0)

/-- A STOP heard takes its sender into or out of the stop set and its row's flag with it, and the cause STOP reaches
every channel; a CONTEST heard ends a claim or reclaim for its driver and sets DUPLICATE on a settled lane. Echoes
change nothing (R21, R107, R146, R156, R162). What each command takes is log entry 17. -/
def Obligations.StopsAndContestsHeard : Prop :=
  (∀ (s : State) (a : Nat) (body : List Byte) (assert : Bool), hears s 0 a body → parseStop body = some assert →
    (a = s.unit.address → exec .stopHeard s =
      .next (s.setLine { s.line with receiveQueue := s.line.receiveQueue.drop 1 })) ∧
    (a ≠ s.unit.address → Assoc.wf StopMember.absent s.lists.stops = true →
      ∃ t, exec .stopHeard s = .next t ∧ t.view.row a = { rowHeard s a with stop := assert } ∧ rowsKept s t a ∧
        (∀ b, t.lists.stop b = if b = a then (if assert then .live else .absent) else s.lists.stop b) ∧
        t.lists = { listsHeard s a with stops := t.lists.stops } ∧ causesReach s t ∧ lineHeard s t ∧
        noticesKept isDrawPlace s t ∧ t.lanes = s.lanes ∧ t.log = s.log ∧ t.port = s.port ∧ sameStation s t)) ∧
  (∀ (s : State) (a d : Nat) (body : List Byte), hears s 1 a body → parseContest body = some d →
    (a = s.unit.address → exec .contestHeard s =
      .next (s.setLine { s.line with receiveQueue := s.line.receiveQueue.drop 1 })) ∧
    (a ≠ s.unit.address → Assoc.wf SlotEntry.free s.log.table = true →
      ∃ t, exec .contestHeard s = .next t ∧ t.view.row a = rowHeard s a ∧ rowsKept s t a ∧ t.lists = listsHeard s a ∧
        (∀ ℓ c r, (s.lane ℓ).claim = some c → (s.lane ℓ).record = some r → c.driver = d → claimLost s t ℓ r) ∧
        (∀ ℓ rc, (s.lane ℓ).claim = none → (s.lane ℓ).reclaim = some rc → rc.claim.driver = d →
          (t.lane ℓ).reclaim = none ∧ (t.lane ℓ).result = some (.reclaim, .driverElsewhere) ∧
          (t.lane ℓ).state = (s.lane ℓ).state) ∧
        (∀ ℓ, (s.lane ℓ).claim = none → (s.lane ℓ).driver? = some d →
          ((s.lane ℓ).state = .opened ∨ (s.lane ℓ).state = .loading) → (t.lane ℓ).holds.duplicate = true) ∧
        (∀ ℓ, (∀ c, (s.lane ℓ).claim = some c → c.driver ≠ d) → (s.lane ℓ).holdsDriver d = false →
          t.lane ℓ = s.lane ℓ) ∧
        t.channels = s.channels ∧ lineHeard s t ∧ t.log.memory = s.log.memory ∧ t.log.queue = s.log.queue ∧
        t.port = s.port ∧ sameStation s t))

/-- A CLAIM heard writes its sender's row, withdraws an earlier claim or reclaim for its driver or is contested, and
meets the watch; the own CLAIM's echo starts the window of the progress it matches (R11, R12, R122, R152 to R155).
What each command takes is log entry 17. That a lane in CLAIMING contests with the form of a running claim window is the model's
reading of R155: log entry 13, DEDUCED. -/
def Obligations.ClaimsHeardSettleOnTheLine : Prop :=
  (∀ (s : State) (a d v : Nat) (x : LaneId) (re : Bool) (body : List Byte), hears s 2 a body →
    parseClaim body = some (x, re, d, v) → a ≠ s.unit.address → Assoc.wf SlotEntry.free s.log.table = true →
    ∃ t old new, exec .claimHeard s = .next t ∧ old = (rowHeard s a).lane x ∧ new = (t.view.row a).lane x ∧
      (re = false → new = ⟨.claiming, some d, some v, none⟩) ∧
      (re = true → (old.state = .opened ∨ old.state = .loading) → new = { old with reclaim := some d }) ∧
      (re = true → old.state = .claiming → new = ⟨.opened, old.driver, some v, some d⟩) ∧
      (re = true → old.state = .vacant → new = ⟨.opened, none, some v, some d⟩) ∧
      t.view.row a = (rowHeard s a).setLane x new ∧ rowsKept s t a ∧
      (∀ ℓ c r, (s.lane ℓ).claim = some c → (s.lane ℓ).record = some r → c.driver = d → c.step ≠ .heard →
        claimLost s t ℓ r) ∧
      (∀ ℓ c, (s.lane ℓ).claim = some c → c.driver = d → c.step = .heard → (s.lane ℓ).state = .claiming →
        s.noticeAt (.contest ℓ) = none →
        t.lane ℓ = s.lane ℓ ∧ t.noticeAt (.contest ℓ) = some ⟨.contest ℓ d .claimWindow, false⟩) ∧
      (∀ ℓ, (s.lane ℓ).claim = none → (s.lane ℓ).reclaim = none → (s.lane ℓ).driver? = some d →
        (s.lane ℓ).state ≠ .claiming → s.noticeAt (.contest ℓ) = none →
        t.lane ℓ = s.lane ℓ ∧ t.noticeAt (.contest ℓ) = some ⟨.contest ℓ d .settled, false⟩) ∧
      (∀ ℓ rc, (s.lane ℓ).claim = none → (s.lane ℓ).reclaim = some rc → rc.claim.driver = d →
        (rc.claim.step ≠ .heard → (t.lane ℓ).reclaim = none ∧
          (t.lane ℓ).result = some (.reclaim, .driverElsewhere) ∧ (t.lane ℓ).record = (s.lane ℓ).record) ∧
        (rc.claim.step = .heard → (s.lane ℓ).state ≠ .claiming → s.noticeAt (.contest ℓ) = none →
          t.lane ℓ = s.lane ℓ ∧ t.noticeAt (.contest ℓ) = some ⟨.contest ℓ d
            (if (s.lane ℓ).driver? = some d then .settled else .reclaimWindow), false⟩)) ∧
      (∀ ℓ, (∀ c, (s.lane ℓ).claim = some c → c.driver ≠ d) → (s.lane ℓ).holdsDriver d = false →
        t.lane ℓ = s.lane ℓ ∧ t.noticeAt (.contest ℓ) = s.noticeAt (.contest ℓ)) ∧
      watchMatched (listsHeard s a) t d (some v) ⟨a, x, .claim, s.minute⟩ ∧ t.channels = s.channels ∧
      lineHeard s t ∧ t.log.memory = s.log.memory ∧ t.log.queue = s.log.queue ∧ t.port = s.port ∧ sameStation s t) ∧
  (∀ (s : State) (d v : Nat) (ℓ : LaneId) (re : Bool) (body : List Byte), hears s 2 s.unit.address body →
    parseClaim body = some (ℓ, re, d, v) →
    (∀ c, (s.lane ℓ).progress? = some c → c.driver = d →
      (c.step = .sent ∨ ((c.step = .waiting ∨ c.step = .queued) ∧ c.announced = true)) →
      ∃ t, exec .claimEcho s = .next t ∧
        t.lane ℓ = (s.lane ℓ).modProgress (fun y => { y with step := .heard, timer := some s.windowMs }) ∧
        (s.begunAt (.claim ℓ) = false → t.noticeAt (.claim ℓ) = none) ∧
        (s.begunAt (.claim ℓ) = true → t.noticeAt (.claim ℓ) = s.noticeAt (.claim ℓ)) ∧
        t.lane (otherLane ℓ) = s.lane (otherLane ℓ) ∧ t.channels = s.channels ∧ lineHeard s t ∧
        noticesKept (· = .claim ℓ) s t ∧ t.lists = s.lists ∧ t.view = s.view ∧ t.log = s.log ∧ t.port = s.port ∧
        t.attention = s.attention ∧ sameStation s t) ∧
    ((∀ c, (s.lane ℓ).progress? = some c → ¬ (c.driver = d ∧
        (c.step = .sent ∨ ((c.step = .waiting ∨ c.step = .queued) ∧ c.announced = true)))) →
      exec .claimEcho s = .next (s.setLine { s.line with receiveQueue := s.line.receiveQueue.drop 1 })))

/-- A DRAW-ON heard takes its place exactly where the count lies below the limit, a DRAW-OFF heard frees the channel's
pair, and the own DRAW-ON's echo is granted exactly where the count lies below the limit; the own grants then stay
within it (R90, R145, R159 to R161). What each command takes is log entry 17. -/
def Obligations.DrawsAreJudgedByTheCount : Prop :=
  (∀ (s : State) (a h : Nat) (c : ChanId) (body : List Byte), hears s 3 a body → parseDraw body = some (true, c, h) →
    a ≠ s.unit.address → Assoc.wf none (s.view.row a).draws = true →
    ∃ t, exec .drawOnHeard s = .next t ∧
      ((Assoc.get none c.index (t.view.row a).draws = some h ∧ t.viewCount h ≤ s.headerLimit h) ∨
        (Assoc.get none c.index (t.view.row a).draws = none ∧ s.headerLimit h ≤ t.viewCount h)) ∧
      (∀ i, i ≠ c.index →
        Assoc.get none i (t.view.row a).draws = Assoc.get none i (rowHeard s a).draws) ∧
      t.view.row a = { rowHeard s a with draws := (t.view.row a).draws } ∧ rowsKept s t a ∧
      t.lists = listsHeard s a ∧ othersAsk (fun _ => False) s t ∧ lineHeard s t ∧ noticesKept isDrawPlace s t ∧
      t.lanes = s.lanes ∧ t.log = s.log ∧ t.port = s.port ∧ t.attention = s.attention ∧ sameStation s t) ∧
  (∀ (s : State) (a h : Nat) (c : ChanId) (body : List Byte), hears s 3 a body → parseDraw body = some (false, c, h) →
    (a = s.unit.address → exec .drawOffHeard s =
      .next (s.setLine { s.line with receiveQueue := s.line.receiveQueue.drop 1 })) ∧
    (a ≠ s.unit.address → Assoc.wf none (s.view.row a).draws = true → ∃ t, exec .drawOffHeard s = .next t ∧
      (∀ i, Assoc.get none i (t.view.row a).draws =
        if i = c.index then none else Assoc.get none i (rowHeard s a).draws) ∧
      t.view.row a = { rowHeard s a with draws := (t.view.row a).draws } ∧ rowsKept s t a ∧
      t.lists = listsHeard s a ∧ othersAsk (fun _ => False) s t ∧ lineHeard s t ∧ noticesKept isDrawPlace s t ∧
      t.lanes = s.lanes ∧ t.log = s.log ∧ t.port = s.port ∧ t.attention = s.attention ∧ sameStation s t)) ∧
  (∀ (s : State) (h : Nat) (c : ChanId) (body : List Byte) (waits : Bool), hears s 3 s.unit.address body →
    parseDraw body = some (true, c, h) →
    waits = ((s.chan c).state == .pouring && (s.chan c).phase == some .wait) →
    ∃ t, exec .drawOnEcho s = .next t ∧
      ((s.chan c).draw = .granted ∨ (s.chan c).draw = .returning → t.chan c = s.chan c) ∧
      ((s.chan c).draw ≠ .granted → (s.chan c).draw ≠ .returning → s.viewCount h < s.headerLimit h → waits = true →
        t.chan c = { s.chan c with draw := .granted, phase := some .full, permit := .high } ∧
        (s.begunAt (.draw c) = false → t.noticeAt (.draw c) = none) ∧
        (s.onHeader c h = true → t.ownGrants h = s.ownGrants h + 1 ∧ t.ownGrants h ≤ s.headerLimit h)) ∧
      ((s.chan c).draw = .none → s.viewCount h < s.headerLimit h → waits = false →
        t.chan c = { s.chan c with draw := .returning } ∧ (s.begunAt (.draw c) = false →
          t.noticeAt (.draw c) = some ⟨.draw false c (s.headerOf c), false⟩)) ∧
      ((s.chan c).draw ≠ .granted → (s.chan c).draw ≠ .returning → s.headerLimit h ≤ s.viewCount h → waits = true →
        t.chan c = { s.chan c with draw := .none }) ∧
      (s.headerLimit h ≤ s.viewCount h → waits = false → t.chan c = s.chan c) ∧
      (∀ d, d ≠ c → t.chan d = s.chan d) ∧ lineHeard s t ∧ noticesKept (· = .draw c) s t ∧ t.lanes = s.lanes ∧
      t.lists = s.lists ∧ t.view = s.view ∧ t.log = s.log ∧ t.port = s.port ∧ t.attention = s.attention ∧
      sameStation s t)

/-- A RELEASE heard empties or changes its lane of the sender's row by its form, its figures are stored and it meets
the watch; the own RELEASE's echo stores its figures and does nothing else (R58, R59, R122, R157, R158). What each
command takes is log entry 17. -/
def Obligations.ReleasesHeardStoreFigures : Prop :=
  (∀ (s : State) (a d : Nat) (x : LaneId) (form : ReleaseForm) (f : Option FigureSet) (body : List Byte),
    hears s 4 a body → parseRelease body = some (x, form, d, f) → a ≠ s.unit.address →
    ∃ t old new, exec .releaseHeard s = .next t ∧ old = (rowHeard s a).lane x ∧ new = (t.view.row a).lane x ∧
      (form = .endOfLoad → new = PeerLane.blank) ∧
      (form = .handover → ∀ y, old.reclaim = some y → new = { old with driver := some y, reclaim := none }) ∧
      (form = .handover → old.reclaim = none → old.driver = some d → new = { old with driver := none }) ∧
      (form = .handover → old.reclaim = none → old.driver ≠ some d → new = old) ∧
      (form = .withdrawn → old.state = .claiming → old.driver = some d → new = PeerLane.blank) ∧
      (form = .withdrawn → ¬ (old.state = .claiming ∧ old.driver = some d) →
        new = if old.reclaim = some d then { old with reclaim := none } else old) ∧
      t.view.row a = (rowHeard s a).setLane x new ∧ rowsKept s t a ∧ (f = none → t.released = s.released) ∧
      (∀ g, f = some g → figuresStored s.released t.released d g) ∧
      watchMatched (listsHeard s a) t d none ⟨a, x, .release, s.minute⟩ ∧ t.lanes = s.lanes ∧
      t.channels = s.channels ∧ lineHeard s t ∧ t.line.sendQueue = s.line.sendQueue ∧ t.log = s.log ∧
      t.port = s.port ∧ t.unit = s.unit ∧ t.pins = s.pins ∧ t.pending = s.pending) ∧
  (∀ (s : State) (d : Nat) (x : LaneId) (form : ReleaseForm) (f : Option FigureSet) (body : List Byte),
    hears s 4 s.unit.address body → parseRelease body = some (x, form, d, f) →
    ∃ released, exec .releaseEcho s = .next ((s.setLine { s.line with
        receiveQueue := s.line.receiveQueue.drop 1 }).setReleased released) ∧
      (f = none → released = s.released) ∧ (∀ g, f = some g → figuresStored s.released released d g))

/-- A STATUS heard replaces its sender's row, takes him into or out of the stop set, ages his LIVE hold entries and
sets DUPLICATE on an own OPEN or LOADING lane whose driver he reports settled (R93, R107, R113, R150, R151). What the
command takes is log entry 17; an entry whose count reaches 3 stays until its own command: log entry 16. -/
def Obligations.StatusHeardReplacesTheRow : Prop :=
  ∀ (s : State) (a : Nat) (body : List Byte) (x : StatusReport), hears s 6 a body → parseStatus body = some x →
    (a = s.unit.address → exec .statusHeard s =
      .next (s.setLine { s.line with receiveQueue := s.line.receiveQueue.drop 1 })) ∧
    (a ≠ s.unit.address → Assoc.wf StopMember.absent s.lists.stops = true →
      ∃ t, exec .statusHeard s = .next t ∧
        t.view.row a = ⟨true, 0, s.unit.clock, x.laneA, x.laneB, x.draws, x.stop, x.resync⟩ ∧ rowsKept s t a ∧
        (∀ b, t.lists.stop b = if b = a then (if x.stop then .live else .absent) else s.lists.stop b) ∧
        t.lists = { listsHeard s a with
          stops := t.lists.stops
          holds := (listsHeard s a).holds.map (fun e =>
            if e.origin = a ∧ e.orphan = false then { e with missed := min (e.missed + 1) 3 } else e) } ∧
        (∀ c, meetsCause s t c → (t.chan c).state = .suspended ∧ (t.chan c).phase = none ∧
          (t.chan c).permit = .off ∧ (t.chan c).noFlow = none ∧ (t.chan c).draw ≠ .granted ∧
          (Reason.suspended c, false) ∈ t.attention) ∧
        sameUnlessPouring s t ∧
        (∀ ℓ r, (s.lane ℓ).record = some r → ((s.lane ℓ).state = .opened ∨ (s.lane ℓ).state = .loading) →
          (∃ y, (y = x.laneA ∨ y = x.laneB) ∧ (y.state = .opened ∨ y.state = .loading) ∧
            y.driver = some r.current.driver) →
          ∃ f, t.lane ℓ = { s.lane ℓ with
            holds := { (s.lane ℓ).holds with duplicate := true }
            record := some { r with findings := f } }) ∧
        (∀ ℓ, (∀ r, (s.lane ℓ).record = some r → ¬ (((s.lane ℓ).state = .opened ∨ (s.lane ℓ).state = .loading) ∧
            ∃ y, (y = x.laneA ∨ y = x.laneB) ∧ (y.state = .opened ∨ y.state = .loading) ∧
              y.driver = some r.current.driver)) →
          t.lane ℓ = s.lane ℓ) ∧
        lineHeard s t ∧ noticesKept isDrawPlace s t ∧ t.log = s.log ∧ t.port = s.port ∧ sameStation s t)

/-- After 12 idle bit times the first notice in send order starts, and in no other state; a lost header leaves it in its place, a
header read back whole begins it, and an abort ends the driving, leaves 12 bit times of break to drive and adds to the run, which
is FAULTED from 8 on (R129 to R134). The idle count is log entry 15; that the run rises as the break begins is the model's
choice, log entry 37. -/
def Obligations.SendingGoesOn : Prop :=
  (∀ (s : State) (e : SendEntry) (rest : List SendEntry), s.line.sendQueue = e :: rest → s.lineOn = true →
    s.line.transmitter = none → s.line.breakLeft = 0 → 12 ≤ s.line.idleCount →
    exec .transmitStart s = .next (s.setLine { s.line with
      transmitter := some ⟨e.notice.place,
        noticeLevels (frameNotice e.notice.kind s.unit.address (e.notice.body s.statusBody)), false⟩
      idleCount := 0 })) ∧
  (∀ s : State, s.line.sendQueue = [] ∨ s.lineOn = false ∨ s.line.transmitter ≠ none ∨ s.line.breakLeft ≠ 0 ∨
      s.line.idleCount < 12 → exec .transmitStart s = .next s) ∧
  (∀ (h : Byte) (rest : List Byte), noticeLevels (h :: rest) =
    characterLevels true h ++ rest.flatMap (characterLevels false)) ∧
  (∀ (mark : Bool) (b : Byte), characterLevels mark b = .dominant :: [7, 6, 5, 4, 3, 2, 1, 0].map (fun i =>
    if b.getLsbD i then Level.recessive else .dominant) ++ [if mark then .recessive else .dominant, .recessive]) ∧
  (∀ (s : State) (x : Transmission), s.inReset = false → s.line.transmitter = some x → x.won = false →
    exec .arbitrationLost s = .next (s.setLine { s.line with transmitter := none })) ∧
  (∀ (s : State) (x : Transmission), s.inReset = false → s.line.transmitter = some x → x.won = false →
    exec .noticeBegun s = .next (s.setLine { s.line with
      transmitter := some { x with won := true }
      sendQueue := s.line.sendQueue.map (fun e =>
        if e.notice.place = x.place then { e with begun := true } else e) })) ∧
  (∀ (s : State) (x : Transmission), s.inReset = false → s.line.transmitter = some x →
    ∃ t, exec .abort s = .next t ∧ t.line = { s.line with
        transmitter := none
        breakLeft := 12
        receiver := none
        idleCount := 0
        abortRun := min (s.line.abortRun + 1) 8
        faulted := s.line.faulted || decide (s.line.abortRun = 7) } ∧
      t.attention = (if s.line.abortRun = 7 then addReasonTo .lineFault s.attention else s.attention) ∧
      t.lanes = s.lanes ∧ t.channels = s.channels ∧ t.lists = s.lists ∧ t.view = s.view ∧ t.log = s.log ∧
      t.port = s.port ∧ sameStation s t)

/-- A notice sent whole leaves its place and ends the abort run, and its owner acts: a claim is SENT, a draw moves on, the
announced direction follows a STOP, a CANCEL frees its slot, what was owed is queued, and a CLOSING lane whose outcome is on
record leaves on its RELEASE sent whole. Other lanes, channels and places are as before (R10, R27, R28, R88, R106, R118, R135,
R155, R173). The form of a CONTEST queued in CLAIMING is log entry 13, and the idle
count of 0 log entry 38, both DEDUCED. -/
def Obligations.SentWholeTellsTheOwner : Prop :=
  ∀ (s : State) (x : Transmission) (e : SendEntry), s.inReset = false → s.line.transmitter = some x → x.won = true →
    s.noticeAt x.place = some e →
    ∃ t, exec .sentWhole s = .next t ∧ t.line = { s.line with
        transmitter := none
        idleCount := 0
        abortRun := 0
        faulted := false
        sendQueue := t.line.sendQueue } ∧
      (e.notice = .status → t.noticeAt .status = none) ∧
      (∀ b, e.notice = .stop b → t.lists = { s.lists with announcedAssert := b } ∧
        t.noticeAt .stop = if s.pins.stopChain = b then none else some ⟨.stop s.pins.stopChain, false⟩) ∧
      (∀ ℓ re d v c, e.notice = .claim ℓ re d v → (s.lane ℓ).lostClaim = none → (s.lane ℓ).progress? = some c →
        c.step = .queued →
        t.lane ℓ = (s.lane ℓ).modProgress (fun y => { y with step := .sent, announced := true }) ∧
        t.noticeAt (.claim ℓ) = none) ∧
      (∀ ℓ re d v lc, e.notice = .claim ℓ re d v → (s.lane ℓ).lostClaim = some lc → lc.pure = false →
        s.noticeAt (.release ℓ) = none → (t.lane ℓ).lostClaim = none ∧
        t.noticeAt (.release ℓ) = some ⟨.release ℓ .withdrawn lc.driver none, false⟩) ∧
      (∀ c h, e.notice = .draw true c h →
        ((s.chan c).draw = .asked → t.chan c = { s.chan c with draw := .sent } ∧ t.noticeAt (.draw c) = none) ∧
        ((s.chan c).draw = .returning → t.chan c = s.chan c ∧
          t.noticeAt (.draw c) = some ⟨.draw false c (s.headerOf c), false⟩) ∧
        ((s.chan c).draw = .granted → t.chan c = s.chan c ∧ t.noticeAt (.draw c) = none)) ∧
      (∀ c h, e.notice = .draw false c h →
        (¬ ((s.chan c).state = .pouring ∧ (s.chan c).phase = some .wait) →
          t.chan c = { s.chan c with draw := .none } ∧ t.noticeAt (.draw c) = none) ∧
        ((t.chan c).draw = .none ∨ (t.chan c).draw = .asked)) ∧
      (∀ ℓ form d f o, e.notice = .release ℓ form d f → (s.lane ℓ).owedRelease = some o →
        (t.lane ℓ).owedRelease = none ∧
        t.noticeAt (.release ℓ) = some ⟨.release ℓ .withdrawn o none, false⟩) ∧
      (∀ ℓ form d f c, e.notice = .release ℓ form d f → (s.lane ℓ).owedRelease = none → (s.lane ℓ).closing = none →
        (s.lane ℓ).progress? = some c → c.step = .waiting → s.view.resync = none → s.begunAt (.claim ℓ) = false →
        t.lane ℓ = (s.lane ℓ).modProgress (fun y => { y with step := .queued }) ∧
        t.noticeAt (.claim ℓ) ≠ none) ∧
      (∀ ℓ d form o, e.notice = .contest ℓ d form → (s.lane ℓ).owedContest = some o →
        t.lane ℓ = { s.lane ℓ with owedContest := none } ∧ t.noticeAt (.contest ℓ) =
          if (s.lane ℓ).holdsDriver o then some ⟨.contest ℓ o ((s.lane ℓ).holdingForm o), false⟩ else none) ∧
      (∀ ℓ form d f c r, e.notice = .release ℓ form d f → (s.lane ℓ).owedRelease = none →
        (s.lane ℓ).progress? = none → (s.lane ℓ).closing = some c → (s.lane ℓ).record = some r →
        s.laneBusy ℓ = false → Assoc.wf SlotEntry.free s.log.table = true →
        ((c.written = true ∧ (c.outcome = .released ∨ c.handed = true)) ∨
          (c.outcome = .voided ∧ s.log.state = .logFault)) →
        leftClosing s t ℓ r c ∧ t.log = { s.log with table := t.log.table } ∧ (∀ p, t.log.slot p =
          if p = r.slot ∧ s.log.state = .logFault then slotAfterFault (s.log.slot p) r.seq else s.log.slot p)) ∧
      (∀ n kind key reason, e.notice = .hold true n kind key reason → t.noticeAt (.hold n) =
        match s.lists.order n with
        | .cancelling kind key reason => some ⟨.hold false n kind key reason, false⟩
        | _ => none) ∧
      (∀ n kind key reason, e.notice = .hold false n kind key reason →
        Assoc.wf OrderSlot.free s.lists.orders = true →
        t.noticeAt (.hold n) = none ∧ (∀ m, t.lists.order m = if m = n then .free else s.lists.order m)) ∧
      (∀ ℓ, noticeLane e.notice ≠ some ℓ → t.lane ℓ = s.lane ℓ) ∧
      othersAsk (fun c => ∃ on h, e.notice = .draw on c h) s t ∧
      ((∀ on c h, e.notice ≠ .draw on c h) → t.channels = s.channels) ∧
      noticesKept (noticeTouches e.notice) s t ∧
      (e.notice.kind ≠ 4 → t.log = s.log ∧ t.attention = s.attention) ∧
      (e.notice.kind ≠ 0 → e.notice.kind ≠ 5 → t.lists = s.lists) ∧
      t.view = s.view ∧ t.port = s.port ∧ t.pending = s.pending ∧ t.pins = s.pins ∧ t.unit = s.unit ∧
      t.released = s.released ∧ t.log.memory = s.log.memory

/-! ### The delivery log (chapter 8) -/

/-- The start scan ends: the mark is the one that verifies, every slot is FREE or CLOSED as its areas place it, a slot above the
mark without a last OUTCOME is completed with an INTERRUPTED one over its torn areas blanked, the counter stands above every
number placed and the mark, LOG_LOW stands below 32 FREE slots, and a STARTING station enters JOINING, where a pulled stop chain
queues a STOP ASSERT (R105, R170, R187 to R190, R204). Where a write fails, the slots from there on are CLOSED without their
OUTCOME and the log is in LOG_FAULT. The scan acts whole at its end, and its operand says where a write fails: the model's
choice, log entry 21. A slot's highest stage number is its verifying areas': log entry 30. -/
def Obligations.ScanEndOpensTheLog : Prop :=
  ∀ (fault : Option Nat) (s : State), s.inReset = false → s.log.state = .scanning →
    ∃ t, exec (.scanEnd fault) s = .next t ∧ t.log.trimMark = readMark s.log.markImage ∧
      (∀ p, (t.log.slot p).state = .free ∨ (t.log.slot p).state = .closed) ∧
      (∀ p n, (t.log.slot p).seq = some n → t.log.trimMark < n ∧ n < t.log.nextSeq) ∧
      (t.log.nextSeq = t.log.trimMark + 1 ∨ ∃ p, (t.log.slot p).seq = some (t.log.nextSeq - 1)) ∧
      (fault = none → t.log.state = .ready) ∧
      (t.log.state = .ready ∨ (t.log.state = .logFault ∧ (Reason.logFault, false) ∈ t.attention)) ∧
      (t.log.freeSlots < 32 → (Reason.logLow, false) ∈ t.attention) ∧
      (∀ key, key / areasPerSlot ∉ usedPositions s.log.memory → readArea t.log.memory key = []) ∧
      (memoryCanonical s → ∀ p seq top, newestStage s p seq top →
        (seq ≤ t.log.trimMark → t.log.slot p = SlotEntry.free ∧ slotKept s t p) ∧
        (t.log.trimMark < seq → stageVerifies s p seq top areaOutcome →
          t.log.slot p = ⟨.closed, some seq, top + 1⟩ ∧ slotKept s t p) ∧
        (t.log.trimMark < seq → ¬ stageVerifies s p seq top areaOutcome →
          (scanWrites fault t p → t.log.slot p = ⟨.closed, some seq, top + 2⟩ ∧
            (∀ area, area < areasPerSlot → readArea t.log.memory (areaKey p area) =
              if area = areaOutcome then normImage (frameStage 6 seq (top + 1) interruptedContent)
              else if tornAbove s p area top then [] else readArea s.log.memory (areaKey p area))) ∧
          (¬ scanWrites fault t p → t.log.slot p = ⟨.closed, some seq, top + 1⟩ ∧
            (fault ≠ some p → slotKept s t p)))) ∧
      (memoryCanonical s → ∀ p, (∀ seq n area, ¬ stageVerifies s p seq n area) → t.log.slot p = SlotEntry.free ∧
        (scanWrites fault t p → ∀ area, area < areasPerSlot → readArea t.log.memory (areaKey p area) = [])) ∧
      t.log.markImage = s.log.markImage ∧ t.log.queue = s.log.queue ∧
      t.unit = { s.unit with state := if s.unit.state = .starting then .joining else s.unit.state } ∧
      (s.unit.state = .starting → t.noticeAt .status ≠ none ∧
        (s.lists.announcedAssert = false → s.noticeAt .stop = none →
          t.noticeAt .stop = if s.pins.stopChain then some ⟨.stop true, false⟩ else none) ∧
        t.lists = (if s.pins.stopChain then s.lists.setStop s.unit.address .live else s.lists) ∧
        noticesKept (fun p => p = .status ∨ p = .stop) s t ∧ t.view = { s.view with
        refresh := some s.refreshMs
        resync := some (2 * s.refreshMs)
        joining := some (2 * s.refreshMs) }) ∧
      (s.unit.state ≠ .starting → t.view = s.view ∧ t.line = s.line ∧ t.lists = s.lists) ∧ t.lanes = s.lanes ∧
      t.channels = s.channels ∧ t.port = s.port ∧ t.pins = s.pins ∧ t.pending = s.pending

/-- The memory takes the front stage and writes it: a verified write fills its area, raises the slot's next stage
number and closes the slot for an OUTCOME; a first failure is written once more, and a second is LOG_FAULT; the trim
mark goes the same way (R169, R178 to R180, R186). LOG_FAULT takes a lane that is CLOSING for a release not yet written back to
LOADING, and lets one that is CLOSING for a void leave once its channels are IDLE (R26, R27, R30, R173). What a failed write
leaves is free: log entry 6. A first failed attempt leaves the trim mark's place as it was: the model's, log entry 22. -/
def Obligations.LogMemoryWritesStages : Prop :=
  (∀ (s : State) (w : StageWrite) (rest : List StageWrite), s.log.queue = w :: rest → s.inReset = false →
    s.log.state = .ready → s.log.writing = none → s.log.pendingMark = none → s.port.reading = none →
    exec .logWriteStart s = .next (s.setLog { s.log with
      writing := some (.stage (stageArea s.log.memory w) (s.log.slot w.slot).next false) })) ∧
  (∀ (s : State) (w : StageWrite) (rest : List StageWrite) (area number : Nat) (second : Bool),
    s.log.queue = w :: rest → s.inReset = false → s.log.writing = some (.stage area number second) →
    memoryCanonical s → Assoc.wf SlotEntry.free s.log.table = true →
    ((∀ ℓ, (s.lane ℓ).closing = none) → ∃ t, exec (.logWriteComplete true) s = .next t ∧
      (∀ key, readArea t.log.memory key =
        if key = areaKey w.slot area then w.image number
        else if w.stage.kind = .header ∧ key / areasPerSlot = w.slot then [] else readArea s.log.memory key) ∧
      (∀ p, t.log.slot p = if p = w.slot then { s.log.slot p with
          next := number + 1
          state := if w.stage.kind = .outcome then .closed else (s.log.slot p).state }
        else s.log.slot p) ∧
      t.log.writing = none ∧ t.log.state = s.log.state ∧
      (∀ ℓ, w.owner = .lane ℓ → t.log.queue = rest ++ ((s.lane ℓ).backlog.take 1).map
          (fun st => ⟨(s.lane ℓ).slotOf.1, (s.lane ℓ).slotOf.2, st, .lane ℓ⟩) ∧
        t.lane ℓ = { s.lane ℓ with backlog := (s.lane ℓ).backlog.drop 1 } ∧ t.channels = s.channels) ∧
      (∀ c, w.owner = .channel c → t.log.queue = rest ∧ t.lanes = s.lanes ∧
        ((s.chan c).state = .ended → t.chan c = { s.chan c with
          state := .idle
          assigned := none
          preset := none
          slow := none
          close := none })) ∧
      t.line = s.line ∧ t.lists = s.lists ∧ t.view = s.view ∧ t.port = s.port ∧ t.attention = s.attention ∧
      sameStation s t) ∧
    (second = false → ∃ t, exec (.logWriteComplete false) s = .next t ∧
      t.log = { s.log with writing := some (.stage area number true), memory := t.log.memory } ∧
      (∀ key, key ≠ areaKey w.slot area → (w.stage.kind ≠ .header ∨ key / areasPerSlot ≠ w.slot) →
        readArea t.log.memory key = readArea s.log.memory key) ∧
      t.lanes = s.lanes ∧ t.channels = s.channels ∧ t.attention = s.attention ∧ t.line = s.line ∧ t.port = s.port) ∧
    (second = true → ∃ t, exec (.logWriteComplete false) s = .next t ∧ logFaultReaches s t)) ∧
  (∀ (s : State) (v : Nat), s.inReset = false → s.log.pendingMark = some v → s.log.writing = none →
    exec .trimMarkWriteStart s =
      .next (s.setLog { s.log with writing := some (.mark v false), pendingMark := none })) ∧
  (∀ (s : State) (v : Nat) (second : Bool), s.inReset = false → s.log.writing = some (.mark v second) →
    exec (.trimMarkWriteComplete true) s =
      .next (s.setLog { s.log with writing := none, markImage := be 4 v ++ be 2 (checkWord (be 4 v)).toNat }) ∧
    (second = false →
      exec (.trimMarkWriteComplete false) s = .next (s.setLog { s.log with writing := some (.mark v true) })) ∧
    (second = true → ∃ t, exec (.trimMarkWriteComplete false) s = .next t ∧ t.log.memory = s.log.memory ∧
      t.log.state = .logFault ∧ t.log.queue = [] ∧ t.log.writing = none ∧ (Reason.logFault, false) ∈ t.attention ∧
      (Assoc.wf SlotEntry.free s.log.table = true → logFaultReaches s t)))

/-- The outcome of a CLOSING lane is written while nothing else holds the lane: the end-of-load RELEASE is queued with the kept
figures, the lane is VACANT, and only a released load starts the dispatch pulse, of 5 s (R27, R28). -/
def Obligations.WrittenOutcomeEmptiesTheLane : Prop :=
  ∀ (s : State) (ℓ : LaneId) (w : StageWrite) (rest : List StageWrite) (area number : Nat) (second : Bool)
    (c : Closing) (r : LoadRecord), s.log.queue = w :: rest → s.inReset = false →
    s.log.writing = some (.stage area number second) → w.owner = .lane ℓ → w.stage.kind = .outcome →
    (s.lane ℓ).closing = some c → (s.lane ℓ).record = some r → r.slot = w.slot → (s.lane ℓ).backlog = [] →
    (∀ ch, (s.chan ch).atLane ℓ = false) → s.releaseWaiting ℓ = false →
    ∃ t, exec (.logWriteComplete true) s = .next t ∧ (t.lane ℓ).state = .vacant ∧ (t.lane ℓ).record = none ∧
      (t.lane ℓ).closing = none ∧ (t.lane ℓ).holds = HoldSet.empty ∧ (t.lane ℓ).dutyTimer = none ∧
      (t.lane ℓ).result = some (.close, if c.outcome = .released then .released else .voided) ∧
      (Reason.laneDone ℓ, false) ∈ t.attention ∧
      (c.outcome = .released → (t.lane ℓ).dispatch = true ∧ (t.lane ℓ).pulse = some 5000) ∧
      (c.outcome ≠ .released → (t.lane ℓ).dispatch = (s.lane ℓ).dispatch ∧ (t.lane ℓ).pulse = (s.lane ℓ).pulse) ∧
      t.noticeAt (.release ℓ) = some ⟨.release ℓ .endOfLoad r.current.driver c.figures, false⟩ ∧
      (t.log.slot w.slot).state = .closed ∧ t.lane (otherLane ℓ) = s.lane (otherLane ℓ) ∧ t.channels = s.channels ∧
      t.lists = s.lists ∧ t.view = s.view ∧ t.port = s.port ∧ sameStation s t
end

