-- ==== Sys2Proof/Laws/Characters.lean ====
section
/-! SUPPORT. Characters on the line: what is sent as a character is read back as it (R127, R138). -/

namespace Sys2Proof.Machine

/-- A character takes 11 bit times (R127). -/
theorem characterLevels_length (mark : Bool) (b : Byte) : (characterLevels mark b).length = 11 := rfl

/-- Eight data levels spell the byte they were formed from (R127). -/
theorem byteOf_dataLevels : ∀ b : Byte, byteOf (dataLevels b) = b := by decide

/-- A character sent is read as well framed, with its mark bit and its byte (R127, R138). -/
theorem readCharacter_characterLevels (mark : Bool) (b : Byte) :
    readCharacter (characterLevels mark b) = .wellFramed mark b := by
  have h : readCharacter (characterLevels mark b) = .wellFramed mark (byteOf (dataLevels b)) := by
    cases mark <;> rfl
  rw [h, byteOf_dataLevels]

/-- A notice of `n` characters takes 11 n bit times (R127). -/
theorem noticeLevels_length (bytes : List Byte) : (noticeLevels bytes).length = 11 * bytes.length := by
  have h : ∀ rest : List Byte, (rest.flatMap (characterLevels false)).length = 11 * rest.length := by
    intro rest
    induction rest with
    | nil => rfl
    | cons b rest ih => simp [ih, characterLevels_length]; omega
  cases bytes with
  | nil => rfl
  | cons b rest => simp [noticeLevels, h, characterLevels_length]; omega

end Sys2Proof.Machine
end

