-- ==== Sys2Proof/Laws/Effects.lean ====
section
/-! SUPPORT. What the shared operations write: the Send Queue's places, the attention set, and the channels through giving a
draw up, offer rounds, endings and suspensions, and what a bit time of the time base does. -/

namespace Sys2Proof.Machine

variable (s : State)

/-! ### Writing one part twice -/

@[simp] theorem Lanes.set_set (l : Lanes) (ℓ : LaneId) (x y : Lane) : (l.set ℓ x).set ℓ y = l.set ℓ y := by cases ℓ <;> rfl
@[simp] theorem PerChannel.set_set {α : Type} (p : PerChannel α) (c : ChanId) (x y : α) :
    (p.set c x).set c y = p.set c y := by cases c <;> rfl
@[simp] theorem State.setLane_setLane (ℓ : LaneId) (x y : Lane) : (s.setLane ℓ x).setLane ℓ y = s.setLane ℓ y := by
  simp [State.setLane]
@[simp] theorem State.setChan_setChan (c : ChanId) (x y : Channel) : (s.setChan c x).setChan c y = s.setChan c y := by
  simp [State.setChan]
@[simp] theorem State.setPins_setPins (x y : Pins) : (s.setPins x).setPins y = s.setPins y := rfl
@[simp] theorem State.setUnit_setUnit (x y : StationUnit) : (s.setUnit x).setUnit y = s.setUnit y := rfl
@[simp] theorem State.setLists_setLists (x y : Lists) : (s.setLists x).setLists y = s.setLists y := rfl
@[simp] theorem State.setLine_setLine (x y : RackLine) : (s.setLine x).setLine y = s.setLine y := rfl
@[simp] theorem State.setView_setView (x y : PeerView) : (s.setView x).setView y = s.setView y := rfl
@[simp] theorem State.setLog_setLog (x y : DeliveryLog) : (s.setLog x).setLog y = s.setLog y := rfl
@[simp] theorem State.setPort_setPort (x y : PanelPort) : (s.setPort x).setPort y = s.setPort y := rfl
@[simp] theorem State.setAttention_setAttention (x y : List (Reason × Bool)) :
    (s.setAttention x).setAttention y = s.setAttention y := rfl
/-- Lanes are written before the attention set. -/
@[simp] theorem State.setLane_setAttention (ℓ : LaneId) (x : Lane) (y : List (Reason × Bool)) :
    (s.setAttention y).setLane ℓ x = (s.setLane ℓ x).setAttention y := rfl

/-! ### The attention set -/

/-- Adding a reason puts it in with a clear mark, and leaves every other reason as it was (R198). -/
theorem mem_addReasonTo (r : Reason) (p : Reason × Bool) (l : List (Reason × Bool)) (h : (l.map Prod.fst).Nodup) :
    p ∈ addReasonTo r l ↔ p = (r, false) ∨ (p ∈ l ∧ p.1 ≠ r) := by
  induction l with
  | nil => simp [addReasonTo]
  | cons q l ih =>
    obtain ⟨q, m⟩ := q
    simp only [List.map_cons, List.nodup_cons] at h
    have hq : ∀ b, q = r → (r, b) ∉ l := fun b hr hm => h.1 (hr ▸ List.mem_map.2 ⟨_, hm, rfl⟩)
    have ih := ih h.2
    simp only [addReasonTo]
    split
    · rename_i hr
      subst hr
      obtain ⟨x, b⟩ := p
      by_cases hx : x = q
      · subst hx
        have := hq b rfl
        simp_all
      · simp [hx]
    · rename_i hr
      simp only [List.mem_cons, ih]
      obtain ⟨x, b⟩ := p
      constructor
      · rintro (hp | hp | hp)
        · cases hp; exact .inr ⟨.inl rfl, hr⟩
        · exact .inl hp
        · exact .inr ⟨.inr hp.1, hp.2⟩
      · rintro (hp | ⟨hp | hp, hn⟩)
        · exact .inr (.inl hp)
        · exact .inl hp
        · exact .inr (.inr ⟨hp, hn⟩)

/-- The reason added is in the set (R198). -/
theorem mem_addReasonTo_self (r : Reason) (l : List (Reason × Bool)) : (r, false) ∈ addReasonTo r l := by
  induction l with
  | nil => simp [addReasonTo]
  | cons q l ih =>
    obtain ⟨q, m⟩ := q
    simp only [addReasonTo]
    split <;> simp_all

/-- Another reason in the set stays with its mark (R198). -/
theorem mem_addReasonTo_of_mem {r : Reason} {p : Reason × Bool} {l : List (Reason × Bool)} (h : p ∈ l) (hn : p.1 ≠ r) :
    p ∈ addReasonTo r l := by
  induction l with
  | nil => cases h
  | cons q l ih =>
    obtain ⟨q, m⟩ := q
    simp only [addReasonTo]
    rcases List.mem_cons.1 h with rfl | h
    · split
      · contradiction
      · exact List.mem_cons_self
    · split
      · exact List.mem_cons_of_mem _ h
      · exact List.mem_cons_of_mem _ (ih h)

/-- A reason stays in the set with a clear mark whatever is added (R198). -/
theorem clear_mem_addReasonTo {q : Reason} (r : Reason) {l : List (Reason × Bool)} (h : (q, false) ∈ l) :
    (q, false) ∈ addReasonTo r l := by
  by_cases hq : q = r
  · exact hq ▸ mem_addReasonTo_self r l
  · exact mem_addReasonTo_of_mem h hq

@[simp] theorem State.attend_attention (r : Reason) : (s.attend r).attention = addReasonTo r s.attention := rfl
@[simp] theorem State.lane_attend (r : Reason) (ℓ : LaneId) : (s.attend r).lane ℓ = s.lane ℓ := rfl
@[simp] theorem State.chan_attend (r : Reason) (c : ChanId) : (s.attend r).chan c = s.chan c := rfl
@[simp] theorem State.noticeAt_attend (r : Reason) (p : Place) : (s.attend r).noticeAt p = s.noticeAt p := rfl

/-! ### The places of the Send Queue -/

theorem find_insertSend (e : SendEntry) (p : Place) (q : List SendEntry)
    (h : q.find? (fun x => x.notice.place == e.notice.place) = none) :
    (insertSend e q).find? (fun x => x.notice.place == p) =
      if e.notice.place = p then some e else q.find? (fun x => x.notice.place == p) := by
  induction q with
  | nil => by_cases hp : e.notice.place = p <;> simp [insertSend, hp]
  | cons x q ih =>
    rw [List.find?_cons] at h
    cases hx : x.notice.place == e.notice.place with
    | true => simp [hx] at h
    | false =>
      rw [hx] at h
      have ih := ih h
      unfold insertSend
      split
      · rw [List.find?_cons, ih, List.find?_cons]
        by_cases hp : e.notice.place = p
        · subst hp; simp [hx]
        · simp [hp]
      · rw [List.find?_cons]
        by_cases hp : e.notice.place = p
        · simp [hp]
        · rw [beq_eq_false_iff_ne.2 hp]; simp [hp]

/-- A place that holds a notice takes no second; a free one holds the notice queued, not begun (R129). -/
theorem State.noticeAt_queueNotice (n : Notice) (p : Place) :
    (s.queueNotice n).noticeAt p =
      if n.place = p ∧ s.noticeAt p = none then some ⟨n, false⟩ else s.noticeAt p := by
  unfold State.queueNotice
  split
  · rename_i h
    split
    · rename_i hp
      obtain ⟨rfl, hp⟩ := hp
      simp [hp] at h
    · rfl
  · rename_i h
    have hn : s.noticeAt n.place = none := by simpa using h
    show (insertSend ⟨n, false⟩ s.line.sendQueue).find? _ = _
    rw [find_insertSend ⟨n, false⟩ p s.line.sendQueue hn]
    by_cases hp : n.place = p
    · subst hp; simp [hn]
    · simp [hp, State.noticeAt]

/-- Taking a place's notice frees that place alone (R130, R135). -/
theorem State.noticeAt_takeNotice (p q : Place) :
    (s.takeNotice p).noticeAt q = if q = p then none else s.noticeAt q := by
  show (s.line.sendQueue.filter _).find? _ = _
  rw [List.find?_filter]
  split
  · rename_i h
    subst h
    rw [List.find?_eq_none]
    intro x _
    simp
  · rename_i h
    unfold State.noticeAt
    congr 1
    funext x
    by_cases hx : x.notice.place = q
    · simp [hx, h]
    · simp [hx]

@[simp] theorem State.noticeAt_stopDriving (p : Place) : s.stopDriving.noticeAt p = s.noticeAt p := rfl

/-- Removing a notice frees its place unless it is begun (R130). -/
theorem State.noticeAt_removeNotice (p q : Place) :
    (s.removeNotice p).noticeAt q = if q = p ∧ s.begunAt p = false then none else s.noticeAt q := by
  unfold State.removeNotice
  by_cases hb : s.begunAt p = true
  · simp [hb]
  · rw [if_neg hb]
    show ((if s.driving p = true then s.stopDriving else s).takeNotice p).noticeAt q = _
    rw [State.noticeAt_takeNotice]
    have hb' : s.begunAt p = false := by simpa using hb
    split <;> split <;> simp_all

/-! ### The channels -/

@[simp] theorem State.chan_queueNotice (n : Notice) (c : ChanId) : (s.queueNotice n).chan c = s.chan c := by
  simp [State.chan]
@[simp] theorem State.chan_removeNotice (p : Place) (c : ChanId) : (s.removeNotice p).chan c = s.chan c := by
  simp [State.chan]

/-- Giving a draw up changes the channel's draw state alone (R91). -/
theorem State.chan_giveUpDraw (c d : ChanId) :
    (s.giveUpDraw c).chan d = if d = c then { s.chan c with draw := drawGivenUp s c } else s.chan d := by
  by_cases h : d = c
  · subst h
    unfold State.giveUpDraw drawGivenUp State.returnDraw
    cases hd : (s.chan d).draw <;> simp only [if_true] <;> (try rw [← hd])
    · split <;> simp [State.chan]
    · split <;> simp [State.chan, State.modChan]
    · split <;> simp [State.chan, State.modChan]
  · unfold State.giveUpDraw State.returnDraw
    simp only [h, if_false]
    cases hd : (s.chan c).draw <;> simp only
    · split <;> simp [State.chan_modChan_ne _ _ h]
    · split <;> simp [State.chan_modChan_ne _ _ h]
    · split <;> simp [State.chan_modChan_ne _ _ h]

/-! ### The time base -/

/-- The bit times of the four line rates are 40, 20, 10 and 5 parts of a ms (R126). -/
theorem State.nextParts_eq : s.nextParts = s.partsAfterBit := by
  unfold State.nextParts State.partsAfterBit Config.bitParts Config.lineRate Config.msParts
  rcases s.unit.rate with _ | _ | _ | _ <;> simp

@[simp] theorem State.tickLine_frame :
    (s.tickLine).pending = s.pending ∧ (s.tickLine).pins = s.pins ∧ (s.tickLine).unit = s.unit ∧
    (s.tickLine).lanes = s.lanes ∧ (s.tickLine).channels = s.channels ∧ (s.tickLine).released = s.released ∧
    (s.tickLine).lists = s.lists ∧ (s.tickLine).view = s.view ∧ (s.tickLine).log = s.log ∧
    (s.tickLine).port = s.port ∧ (s.tickLine).attention = s.attention ∧ (s.tickLine).freeCount = s.freeCount := by
  unfold State.tickLine; split <;> simp

/-- One bit time with no command waiting: a held reset pin stops it, and otherwise the port runs on and the parts of a ms grow, a
whole ms running the timers (R131, R133, R208). -/
theorem State.tick_cases :
    (s.inReset = true ∧ s.tick = s) ∨
    (s.inReset = false ∧ s.partsAfterBit < 1536 ∧ s.tick = s.tickLine.setUnit { s.unit with subMs := s.partsAfterBit }) ∨
    (s.inReset = false ∧ 1536 ≤ s.partsAfterBit ∧
      s.tick = (s.tickLine.setUnit { s.unit with subMs := s.partsAfterBit - 1536 }).tickMs) := by
  unfold State.tick
  rw [s.nextParts_eq]
  cases h : s.inReset
  · by_cases hp : s.partsAfterBit < 1536
    · exact .inr (.inl ⟨rfl, hp, by simp [hp, Config.msParts]⟩)
    · exact .inr (.inr ⟨rfl, by omega, by simp [hp, Config.msParts]⟩)
  · exact .inl ⟨rfl, rfl⟩

end Sys2Proof.Machine
end

