-- ==== Sys2Proof/Tests/Slice0.lean ====
section
/-! SUPPORT. Small tests of the model against the numbers of the spec's own examples, the smoke test of the well-formedness
checks, and for every statement with hypotheses a state and operands that meet them. -/

namespace Sys2Proof.Tests

set_option Elab.async false

open Sys2Proof Sys2Proof.Machine

/-! ### A small station -/

/-- The default limits (00_scope.md). -/
def limits : Limits := ⟨600, 780, 270, 45, 900, 3360, 20, 1440⟩

/-- Channel 2 of the worked pour of chapter 4, on header 3. -/
def pourCfg : ChannelCfg := ⟨3, 1, .both, 50, 300, 400, 12⟩

/-- A station with both lanes, channel 2 and product 1. -/
def cfg : Configuration where
  lanes := 2
  refresh := 2
  claimWindow := 500
  noFlow := 30
  settle := 3
  headers := [1, 1, 1, 1, 1, 1, 1, 1]
  limits := limits
  tolPermille := 5
  tolMin := 20
  channels := [none, none, some pourCfg, none, none, none]
  products := [none, some ⟨1203, 3, .ii, false⟩]
  relation := []

/-- Station 4, configured and on line at minute 10,050, with the log ready and an exchange at its start. -/
def base : State :=
  { State.reset with
    pins := { Pins.initial with chipSelect := true }
    unit := ⟨.onLine, some cfg, some 10050, 0, 0, 4, 0, ⟨false, false, false⟩, ⟨false, false, false⟩⟩
    log := { DeliveryLog.scan [] [] with state := .ready }
    port := { PanelPort.reset with step := .receiving } }

/-- The figures of the standard case of chapter 3. -/
def figures : FigureSet := ⟨10000, 180, 240, 150, 1500, 260⟩

/-- A record with one compartment of 8,000 L that declares 7,600 L of product 1, in slot 0. -/
def record : LoadRecord where
  seq := 1
  slot := 0
  openMinute := 10000
  first := ⟨2240117, figures, .carried⟩
  second := none
  vehicle := 88310
  permit := ⟨8, 80000⟩
  comps := [⟨8000, 1, 0, 0, none, false⟩]
  plan := some ⟨210, 60⟩
  papers := [⟨1, 1, 1203, 3, .ii, 7600, none, false, false⟩]
  findings := []
  duty := none

/-- A lane that holds the record in a state. -/
def laneIn (x : LaneState) : Lane := { Lane.reset with state := x, record := some record }

/-- The small station with lane A in a state. -/
def withLane (l : Lane) : State := base.setLane .a l

/-- Channel 2 on compartment 1 of lane A, in a state and a phase. -/
def chanIn (x : ChannelState) (ph : Option Phase) : Channel :=
  { Channel.reset with
    state := x
    phase := ph
    assigned := some (.a, 1)
    preset := some 7600
    slow := some 7200
    close := some 7588 }

/-- The small station, lane A LOADING, with channel 2 as given. -/
def withChan (ch : Channel) : State := (withLane (laneIn .loading)).setChan .c2 ch

/-- The small station with a notice heard. -/
def hearing (s : State) (kind sender : Nat) (body : List Byte) : State :=
  s.setLine { s.line with receiveQueue := [⟨kind, sender, body⟩] }

/-- The small station sending a notice whose header has been read back. -/
def sending (s : State) (n : Notice) (won : Bool) : State :=
  s.setLine { s.line with transmitter := some ⟨n.place, [], won⟩, sendQueue := [⟨n, won⟩] }

/-- The next state of a command; the state itself where there is none. -/
def after (c : Instr) (s : State) : State :=
  match exec c s with
  | .next t => t
  | _ => s

/-- A request with its own check word. -/
def taken (s : State) (r : Request) (ops : List Byte) : Prop := s.takes r ops (requestCheck r ops)

theorem taken_of {s : State} {r : Request} {ops : List Byte}
    (h : s.inReset = false ∧ s.port.step = .receiving ∧ ops.length = r.operands ∧ s.port.reading = none) :
    s.takes r ops (requestCheck r ops) := ⟨⟨h.1, h.2.1, h.2.2.1⟩, rfl, h.2.2.2⟩

/-! ### Formats (chapter 11) -/

/-- The CRC of R128 over the characters 1 to 9, worked out by hand from its generator and preset. -/
theorem test_check_word : checkWord [0x31, 0x32, 0x33, 0x34, 0x35, 0x36, 0x37, 0x38, 0x39] = 0x29B1#16 := by
  decide +kernel

/-- The first twelve characters of the CLAIM of chapter 11's worked example. -/
theorem test_claim_characters :
    (frameNotice 2 4 ((Notice.claim .a false 2240117 88310).body [])).take 12 =
      [0x44, 0x0A, 0x00, 0x00, 0x00, 0x22, 0x2E, 0x75, 0x00, 0x01, 0x58, 0xF6] := by decide +kernel

/-- The same CLAIM takes 14 characters. -/
theorem test_claim_length : (frameNotice 2 4 ((Notice.claim .a false 2240117 88310).body [])).length = 14 := by
  decide +kernel

/-- The three headers of chapter 6's worked example. -/
theorem test_headers : [headerChar 6 2, headerChar 2 4, headerChar 3 9] = [0xC2, 0x44, 0x69] := by decide +kernel

/-- A lane word of a STATUS: state OPEN over driver 2,240,117 (chapter 11's worked example). -/
theorem test_lane_block :
    parseLaneBlock [0x80, 0x22, 0x2E, 0x75, 0x00, 0x01, 0x58, 0xF6, 0, 0, 0, 0] 0 =
      some ⟨.opened, some 2240117, some 88310, none⟩ := by decide +kernel

/-- A verified stage area is read back whole. -/
theorem test_stage_verifies : verifies (frameStage 5 1 2 [1, 2, 3]) = true := by decide +kernel

/-! ### Duty arithmetic (chapter 3's worked examples) -/

theorem test_duty_standard :
    dutyCompute limits figures ⟨210, 60⟩ 10050 = .pass ⟨210, .drive, 10270, 1, .duty⟩ := by decide +kernel

theorem test_duty_at_release :
    dutyCompute limits figures ⟨210, 60⟩ 10120 = .pass ⟨150, .duty, 10270, 1, .duty⟩ := by decide +kernel

theorem test_onward : onwardFigures limits figures ⟨210, 60⟩ 10120 = some ⟨10435, 390, 630, 90, 1710, 695⟩ := by
  decide +kernel

theorem test_stamp_ahead :
    (dutyCompute limits { figures with stamp := 10065 } ⟨210, 60⟩ 10050).result?.map (·.latest) = some 10320 := by
  decide +kernel

theorem test_stale_at_edge :
    dutyCompute limits { figures with stamp := 8610 } ⟨210, 60⟩ 10050 = .short .duty := by decide +kernel

theorem test_stale_past_edge :
    dutyCompute limits { figures with stamp := 8609 } ⟨210, 60⟩ 10050 = .stale := by decide +kernel

theorem test_several_breaks :
    dutyCompute limits { figures with cont := 220 } ⟨600, 60⟩ 10050 = .short .span := by decide +kernel

theorem test_merges :
    [mergeFigures 1440 20500 ⟨20100, 240, 380, 120, 2040, 410⟩ (some ⟨20400, 300, 420, 60, 2100, 480⟩),
      mergeFigures 1440 20500 ⟨20400, 290, 435, 75, 2100, 470⟩ (some ⟨20400, 300, 420, 60, 2100, 480⟩),
      mergeFigures 1440 20500 ⟨20520, 300, 470, 0, 2100, 600⟩ (some ⟨20400, 300, 420, 60, 2100, 480⟩)] =
    [(⟨20400, 300, 420, 60, 2100, 480⟩, .released), (⟨20400, 300, 435, 75, 2100, 480⟩, .both),
      (⟨20520, 300, 470, 0, 2100, 600⟩, .carried)] := by decide +kernel

/-- The change of driver while loading: L is set by SPAN. -/
theorem test_duty_change_of_driver :
    dutyCompute limits ⟨9900, 0, 75, 0, 900, 300⟩ ⟨210, 60⟩ 10201 = .pass ⟨29, .span, 10230, 0, .span⟩ := by
  decide +kernel

/-! ### Papers (chapter 2's worked examples) -/

/-- The record of the close with findings. -/
def closeRecord : LoadRecord :=
  { record with
    permit := ⟨0b101001, 30000⟩
    comps := [1, 1, 1, 2, 2, 2].map (fun tank => ⟨20000, tank, 0, 0, none, false⟩)
    plan := none
    papers := [(1, 3, 8000), (2, 5, 4000), (3, 3, 6000), (4, 0, 5000), (5, 8, 3000), (6, 3, 10000)].map
      (fun e => ⟨e.1, 1, 1203, e.2.1, .ii, e.2.2, none, false, false⟩) }

/-- The class relation of the same example. -/
def closeRelation : List Relation :=
  (List.range 256).map (fun i => if i = 16 * 3 + 5 then .apart else if i = 16 * 5 + 8 then .separate else .allowed)

theorem test_close_findings :
    closeFindings { cfg with relation := closeRelation } closeRecord 10050 =
      [⟨.classNotPermitted, [5], none⟩, ⟨.dangerousOver, [], none⟩, ⟨.apart, [1, 2], none⟩, ⟨.apart, [2, 3], none⟩,
        ⟨.separate, [2, 5], none⟩, ⟨.noPlan, [], none⟩] := by decide +kernel

/-- The record of the release comparison. -/
def releaseRecord : LoadRecord :=
  { record with
    comps := [(7599, 1), (4262, 1), (2985, 1), (0, 0), (1820, 1)].map
      (fun m => ⟨20000, 1, m.1, m.2, none, false⟩)
    papers := [(1, 7600), (2, 4201), (3, 3000), (4, 2500), (5, 1800)].map
      (fun e => ⟨e.1, 1, 1203, 3, .ii, e.2, none, false, false⟩) }

theorem test_release_findings :
    releaseFindings cfg releaseRecord HoldSet.empty .dry 10120 =
      [⟨.notPoured, [4], none⟩, ⟨.outOfTolerance, [2], none⟩] := by decide +kernel

/-! ### A pour (chapter 4's worked examples) -/

/-- The answer of a request on a state. -/
def answerTo (c : Instr) (s : State) : Option (ResultCode × List Byte) :=
  (after c s).port.answer.map (fun a => (a.result, a.body))

/-- The station with lane A LOADING and compartment 1 as given. -/
def topUp (metered declared : Nat) : State :=
  withLane { Lane.reset with
    state := .loading
    record := some { record with
      comps := [⟨8000, 1, metered, 1, none, false⟩]
      papers := [⟨1, 1, 1203, 3, .ii, declared, none, false, true⟩] } }

/-- The request POUR-ARM of channel 2 on compartment 1 of lane A. -/
def arm : Instr := .pourArm [2, 0, 1] (requestCheck .pourArm [2, 0, 1])

theorem test_arm_first :
    answerTo arm (withLane (laneIn .loading)) = some (.ok, be 2 7600 ++ be 2 7200 ++ be 2 7588) := by decide +kernel

theorem test_arm_top_up : answerTo arm (topUp 7599 7650) = some (.ok, be 2 51 ++ beSigned (-349) ++ be 2 39) := by
  decide +kernel

theorem test_arm_small :
    ((after arm (topUp 7599 7605)).chan .c2).close = some 1 := by decide +kernel

/-- The press starts in START, the permit at LOW. -/
theorem test_press :
    (((after (.startPress .c2) (withChan (chanIn .armed none))).chan .c2).phase,
      ((after (.startPress .c2) (withChan (chanIn .armed none))).chan .c2).permit) = (some .start, .low) := by
  decide +kernel

/-- Pulse 15,000: WAIT, offered, LOW. -/
theorem test_pulse_to_wait :
    (fun ch : Channel => (ch.phase, ch.draw, ch.permit))
      ((after (.meterPulse .c2) ((topUp 299 7600).setChan .c2
        { chanIn .pouring (some .start) with pulses := 14999, permit := .low })).chan .c2) =
      (some .wait, .asked, .low) := by decide +kernel

/-- Pulse 360,000: SLOW, RETURNING, LOW. -/
theorem test_pulse_to_slow :
    (fun ch : Channel => (ch.phase, ch.draw, ch.permit))
      ((after (.meterPulse .c2) ((topUp 7199 7600).setChan .c2
        { chanIn .pouring (some .full) with pulses := 359999, permit := .high, draw := .granted })).chan .c2) =
      (some .slow, .returning, .low) := by decide +kernel

/-- Pulse 379,400: the pour closes COMPLETE. -/
theorem test_pulse_closes :
    (fun ch : Channel => (ch.state, ch.pourEnd, ch.permit))
      ((after (.meterPulse .c2) ((topUp 7587 7600).setChan .c2
        { chanIn .pouring (some .slow) with pulses := 379399, permit := .low })).chan .c2) =
      (.settling, some .complete, .off) := by decide +kernel

/-- A stop heard suspends a pour in FULL and queues its DRAW-OFF. -/
theorem test_stop_heard :
    (fun s : State => ((s.chan .c2).state, (s.chan .c2).draw, s.line.sendQueue.map (·.notice)))
      (after .stopHeard (hearing (withChan { chanIn .pouring (some .full) with
        pulses := 200000, permit := .high, draw := .granted }) 0 7 [0])) =
      (.suspended, .returning, [.draw false .c2 3]) := by decide +kernel

/-! ### The well-formedness checks: an ill-formed term for each -/

theorem test_operand_count_refused : Instr.wellFormed (.pourArm [2, 0] 0) = false := by decide +kernel
theorem test_known_code_refused : Instr.wellFormed (.unknownRequest 0x11) = false := by decide +kernel
theorem test_scan_slot_refused : Instr.wellFormed (.scanEnd (some 1024)) = false := by decide +kernel
theorem test_row_refused : Instr.wellFormed (.rowExpiry 32) = false := by decide +kernel
theorem test_driver_refused : Instr.wellFormed (.releasedDriverAgeing 0) = false := by decide +kernel
theorem test_origin_refused : Instr.wellFormed (.holdEntryLapse 32 0) = false := by decide +kernel
theorem test_order_refused : Instr.wellFormed (.holdEntryLapse 0 8) = false := by decide +kernel
theorem test_body_refused : Instr.wellFormed (.noticeReceived 2 [0, 0, 0] 0) = false := by decide +kernel
theorem test_notice_accepted : Instr.wellFormed (.noticeReceived 2 [0] 0) = true := by decide +kernel

/-! ### Witnesses: the step, the reset and the port -/

/-- Station 4 at reset, its exchange at its start. -/
def unconfigured : State := { base with unit := State.reset.unit }

theorem witness_StepRunsFrontCommand :
    ∃ (c : Instr) (rest : List Instr) (s : State), s.pending = c :: rest :=
  ⟨.refreshTick, [.resetPin], { base with pending := [.refreshTick, .resetPin] }, rfl⟩

theorem witness_StepKeepsMemoryCanonical : ∃ s t : State, memoryCanonical s ∧ step s = .next t :=
  ⟨{ base with log := { base.log with memory := [(0, [1]), (36, [2])] }, pending := [.refreshTick] }, _, by
    unfold memoryCanonical; decide +kernel, rfl⟩

theorem witness_StepKeepsPermits :
    ∃ s t : State, permitsFollow s ∧ drawOffsReturn s ∧ (s.chan .c2).phase = some .full ∧ step s = .next t :=
  ⟨{ withChan { chanIn .pouring (some .full) with permit := .high, draw := .granted } with pending := [.couplerLost .c2] }, _, by
    refine ⟨fun _ c => ?_, fun h => absurd h (by decide)⟩
    cases c <;> simp [permitFollows, withChan, withLane, chanIn, base, State.reset, State.chan, State.setChan, State.setLane,
      PerChannel.all, PerChannel.get, PerChannel.set, Channel.reset], by
    intro e he; simp [withChan, withLane, base, State.setChan, State.setLane, State.reset, RackLine.reset] at he, rfl, rfl⟩

theorem witness_StepKeepsAttentionOnce : ∃ s t : State, attentionOnce s ∧ step s = .next t :=
  ⟨{ base with attention := [(.lineLoss, true), (.lineFault, false)], pending := [.receiveLoss .framing] }, _, by
    unfold attentionOnce; decide +kernel, rfl⟩

theorem witness_StepKeepsSendQueue : ∃ s t : State, sendQueueOrdered s ∧ step s = .next t :=
  ⟨{ base with line := { base.line with sendQueue := [⟨.stop true, false⟩, ⟨.status, true⟩] }, pending := [.refreshTick] }, _,
    by unfold sendQueueOrdered; decide +kernel, rfl⟩

theorem witness_StepKeepsBounds : ∃ s t : State, lineBounded s ∧ listsBounded s ∧ step s = .next t :=
  ⟨{ base with
      line := { base.line with receiveQueue := [⟨0, 7, [0]⟩, ⟨0, 8, [0]⟩], abortRun := 8, faulted := true }
      pending := [.stopHeard] }, _, by unfold lineBounded; decide +kernel, by unfold listsBounded; decide +kernel, rfl⟩

/-- The station with the notice of order 7 queued, two stages of lane A, and a refresh tick in front. -/
def queueing : State :=
  { base with
    line := { base.line with sendQueue := [⟨.hold true 7 .vehicle 88310 40, false⟩, ⟨.status, false⟩] }
    log := { base.log with queue := [⟨0, 1, ⟨.papers, [1]⟩, .lane .a⟩, ⟨0, 1, ⟨.amend, [1]⟩, .lane .a⟩] }
    pending := [.refreshTick] }

theorem witness_StepKeepsBounds_queues :
    ∃ s t : State, sendQueueOrdered s ∧ holdPlaces s ∧ stagesBounded s ∧ step s = .next t := by
  refine ⟨queueing, _, ?_, ?_, ⟨?_, ?_⟩, rfl⟩
  · unfold sendQueueOrdered; decide +kernel
  · intro e he n hn
    simp only [queueing, List.mem_cons, List.not_mem_nil, or_false] at he
    rcases he with rfl | rfl <;> cases hn
    decide
  · intro ℓ; cases ℓ <;> decide +kernel
  · intro c; cases c <;> decide +kernel

theorem witness_WrongCheckWordIsBadFrame :
    ∃ (i : Instr) (r : Request) (ops : List Byte) (k : CheckWord) (s : State),
      requestOf i = some (r, ops, k) ∧ s.receives r ops ∧ k ≠ requestCheck r ops :=
  ⟨.restart [] 0, .restart, [], 0, base, rfl, ⟨rfl, rfl, rfl⟩, by decide +kernel⟩

theorem witness_UnconfiguredRefusesRequests :
    ∃ (i : Instr) (r : Request) (ops : List Byte) (k : CheckWord) (s : State),
      requestOf i = some (r, ops, k) ∧ s.takes r ops k ∧ s.unit.state = .unconfigured ∧
      r ≠ .configure ∧ r ≠ .readCause ∧ r ≠ .readLog ∧ r ≠ .trimLog ∧ r ≠ .restart :=
  ⟨.void [0] (requestCheck .void [0]), .void, [0], _, unconfigured, rfl, taken_of ⟨rfl, rfl, rfl, rfl⟩, rfl, by decide +kernel⟩

theorem witness_RefusalChangesNothing :
    ∃ (i : Instr) (r : Request) (ops : List Byte) (k : CheckWord) (s t : State) (a : Answer),
      requestOf i = some (r, ops, k) ∧ s.receives r ops ∧ s.port.answer = none ∧ exec i s = .next t ∧
      t.port.answer = some a ∧ a.result ≠ .ok ∧ a.result ≠ .findings :=
  ⟨.void [0] 0, .void, [0], 0, base, after (.void [0] 0) base, ⟨none, .badFrame, []⟩, rfl, ⟨rfl, rfl, rfl⟩, rfl, rfl,
    by decide +kernel⟩

theorem witness_RequestIsHeldBehindRead :
    ∃ (i : Instr) (r : Request) (ops : List Byte) (k : CheckWord) (s : State),
      requestOf i = some (r, ops, k) ∧ s.receives r ops ∧ k = requestCheck r ops ∧ s.port.reading ≠ none :=
  ⟨.void [0] (requestCheck .void [0]), .void, [0], _, base.setPort { base.port with reading := some ⟨0, true⟩ }, rfl,
    ⟨rfl, rfl, rfl⟩, rfl, by decide⟩

theorem witness_UnknownCodeIsAnswered :
    ∃ s : State, s.inReset = false ∧ s.port.step = .receiving ∧ codeUnknown 0x00 = true ∧ codeUnknown 0x52 = false :=
  ⟨base, rfl, rfl, by decide +kernel⟩

theorem witness_ExchangesBeginAndEnd_begin : ∃ s : State, s.pins.chipSelect = false ∧ s.inReset = false :=
  ⟨State.reset, rfl, rfl⟩

theorem witness_ExchangesBeginAndEnd_end :
    ∃ s : State, s.pins.chipSelect = true ∧ s.inReset = false ∧ s.port.restartDue = false := ⟨base, rfl, rfl, rfl⟩

theorem witness_ResetsClearTheStation_restart :
    ∃ s : State, s.pins.chipSelect = true ∧ s.inReset = false ∧ s.port.restartDue = true :=
  ⟨base.setPort { base.port with restartDue := true }, rfl, rfl, rfl⟩

theorem witness_ResetsClearTheStation_pin : ∃ s t : State, s.inReset = false ∧ t.inReset = true :=
  ⟨base, base.setPins { base.pins with resetAsserted := true }, rfl, rfl⟩

theorem witness_EmptyingReadsMarkWhatTheyCarry :
    ∃ (k k' : CheckWord) (s : State), s.takes .readAttention [] k ∧ s.unit.state ≠ .unconfigured ∧
      s.takes .readCause [] k' :=
  ⟨_, _, base, taken_of ⟨rfl, rfl, rfl, rfl⟩, by decide, taken_of ⟨rfl, rfl, rfl, rfl⟩⟩

/-- The station while it answers. -/
def answering (r : Request) : State :=
  { base with
    port := { base.port with step := .answering, answer := some ⟨some r, .ok, []⟩ }
    attention := [(.lineLoss, true), (.lineFault, false)] }

theorem witness_DeliveryEmptiesWhatWasReported :
    ∃ (s : State) (a : Answer), s.inReset = false ∧ s.port.step = .answering ∧ s.port.answer = some a ∧
      a.request = some .readAttention ∧ a.result = .ok :=
  ⟨answering .readAttention, _, rfl, rfl, rfl, rfl, rfl⟩

theorem witness_ReadsChangeNothing_lane :
    ∃ (ops : List Byte) (k : CheckWord) (s : State) (ℓ : LaneId), s.takes .readLane ops k ∧
      s.unit.state ≠ .unconfigured ∧ s.laneOperand ops 0 = some ℓ :=
  ⟨[1], _, base, .b, taken_of ⟨rfl, rfl, rfl, rfl⟩, by decide +kernel⟩

theorem witness_ReadsChangeNothing_channel :
    ∃ (ops : List Byte) (k : CheckWord) (s : State) (c : ChanId) (x : ChannelCfg), s.takes .readChannel ops k ∧
      s.unit.state ≠ .unconfigured ∧ s.chanOperand ops 0 = some (c, x) :=
  ⟨[2], _, base, .c2, pourCfg, taken_of ⟨rfl, rfl, rfl, rfl⟩, by decide +kernel⟩

theorem witness_ReadsChangeNothing_peers :
    ∃ (ops : List Byte) (k : CheckWord) (s : State), s.takes .readPeers ops k ∧ s.unit.state ≠ .unconfigured ∧
      field ops 0 1 ≤ 31 :=
  ⟨[31], _, base, taken_of ⟨rfl, rfl, rfl, rfl⟩, by decide +kernel⟩

/-- The station with one CLOSED slot. -/
def closedSlot : State := base.setLog { base.log with table := [(3, ⟨.closed, some 9, 4⟩)] }

theorem witness_LogReadWaitsForTheMemory_taken :
    ∃ (ops : List Byte) (k : CheckWord) (s : State), s.takes .readLog ops k ∧ s.log.state ≠ .scanning ∧
      field ops 0 2 < s.log.inUse.length :=
  ⟨[0, 0], _, closedSlot, taken_of ⟨rfl, rfl, rfl, rfl⟩, by decide +kernel⟩

theorem witness_LogReadWaitsForTheMemory_served :
    ∃ (s : State) (index p : Nat) (e : SlotEntry), s.inReset = false ∧ s.port.reading = some ⟨index, true⟩ ∧
      s.port.held = none ∧ s.log.writing = none ∧ s.log.pendingMark = none ∧ s.log.state ≠ .scanning ∧
      s.log.inUse[index]? = some (p, e) :=
  ⟨closedSlot.setPort { base.port with reading := some ⟨0, true⟩ }, 0, 3, ⟨.closed, some 9, 4⟩, rfl, rfl, rfl, rfl, rfl, by decide +kernel⟩

/-- A read whose exchange has ended waits, and a request waits behind it. -/
def waitingRead (h : Option HeldRequest) : State :=
  base.setPort { base.port with reading := some ⟨0, false⟩, held := h, step := .acting }

theorem witness_LogReadWaitsForTheMemory_ended :
    ∃ (s : State) (index : Nat), s.inReset = false ∧ s.port.reading = some ⟨index, false⟩ ∧ s.log.writing = none ∧
      s.log.pendingMark = none ∧ s.port.held = none :=
  ⟨waitingRead none, 0, rfl, rfl, rfl, rfl, rfl⟩

theorem witness_LogReadWaitsForTheMemory_held (live : Bool) :
    ∃ (s : State) (index : Nat) (i : Instr) (r : Request) (ops : List Byte) (k : CheckWord), s.inReset = false ∧
      s.port.reading = some ⟨index, false⟩ ∧ s.log.writing = none ∧ s.log.pendingMark = none ∧
      requestOf i = some (r, ops, k) ∧ r ≠ .restart ∧ ops.length = r.operands ∧ k = requestCheck r ops ∧
      s.port.step = .acting ∧ s.port.held = some ⟨r, ops, live⟩ :=
  ⟨waitingRead (some ⟨.void, [0], live⟩), 0, .void [0] (requestCheck .void [0]), .void, [0], _, rfl, rfl, rfl, rfl, rfl,
    by decide, rfl, rfl, rfl, rfl⟩

theorem witness_LogReadWaitsForTheMemory_restart :
    ∃ (s : State) (index : Nat) (ops : List Byte), s.inReset = false ∧ s.port.reading = some ⟨index, false⟩ ∧
      s.log.writing = none ∧ s.log.pendingMark = none ∧ s.port.held = some ⟨.restart, ops, false⟩ :=
  ⟨waitingRead (some ⟨.restart, [], false⟩), 0, [], rfl, rfl, rfl, rfl, rfl⟩

theorem witness_TrimFreesTheOldestClosedSlots :
    ∃ (ops : List Byte) (k : CheckWord) (s : State), s.takes .trimLog ops k ∧ s.log.state = .ready ∧
      field ops 0 2 ≤ 1024 ∧ Assoc.wf SlotEntry.free s.log.table = true ∧
      (s.log.bySequence.take (field ops 0 2)).takeWhile (fun p => p.2.state == .closed) = [(3, ⟨.closed, some 9, 4⟩)] :=
  ⟨[4, 0], _, closedSlot, taken_of ⟨rfl, rfl, rfl, rfl⟩, rfl, by decide +kernel⟩

theorem witness_TrimFreesTheOldestClosedSlots_none :
    ∃ (ops : List Byte) (k : CheckWord) (s : State), s.takes .trimLog ops k ∧ s.log.state = .ready ∧
      field ops 0 2 = 0 ∧ Assoc.wf SlotEntry.free s.log.table = true :=
  ⟨[0, 0], _, closedSlot, taken_of ⟨rfl, rfl, rfl, rfl⟩, rfl, by decide +kernel⟩

/-- A CONFIGURE block with one lane and every entry absent. -/
def configureOps : List Byte :=
  be 1 1 ++ be 1 2 ++ be 2 500 ++ be 1 30 ++ be 1 3 ++ [2, 2, 2, 2, 2, 2, 2, 2] ++ be 2 600 ++ be 2 780 ++ be 2 270 ++
    be 1 45 ++ be 2 900 ++ be 2 3360 ++ be 1 20 ++ be 2 1440 ++ be 1 5 ++ be 2 20 ++ be 4 4294967295 ++ be 220 0

theorem witness_StartUpRequestsAct_configure :
    ∃ (ops : List Byte) (k : CheckWord) (s : State) (x : Configuration) (m : Nat), s.takes .configure ops k ∧
      s.unit.state = .unconfigured ∧ s.log.state ≠ .scanning ∧ configureFields ops = some (x, m) := by
  obtain ⟨⟨x, m⟩, h⟩ := Option.isSome_iff_exists.1 (show (configureFields configureOps).isSome = true by decide +kernel)
  exact ⟨configureOps, _, unconfigured, x, m, taken_of ⟨rfl, rfl, by decide +kernel, rfl⟩, rfl, by decide, h⟩

theorem witness_StartUpRequestsAct_pulled :
    ∃ (ops : List Byte) (k : CheckWord) (s : State), s.takes .configure ops k ∧ s.unit.state = .unconfigured ∧
      s.log.state ≠ .scanning ∧ (configureFields ops).isSome = true ∧ s.pins.stopChain = true ∧
      s.lists.announcedAssert = false ∧ s.noticeAt .stop = none :=
  ⟨configureOps, _, unconfigured.setPins { unconfigured.pins with stopChain := true },
    taken_of ⟨rfl, rfl, by decide +kernel, rfl⟩, rfl, by decide +kernel⟩

theorem witness_StartUpRequestsAct_restart : ∃ (k : CheckWord) (s : State), s.takes .restart [] k :=
  ⟨_, unconfigured, taken_of ⟨rfl, rfl, rfl, rfl⟩⟩

/-! ### Witnesses: the lanes' requests and the duty arithmetic -/

/-- The bytes of the standard case's figures. -/
def figureOps : List Byte := be 4 10000 ++ be 2 180 ++ be 2 240 ++ be 2 150 ++ be 2 1500 ++ be 2 260

/-- A CHECK-IN of driver 999,999,999 at lane A with eight places, one in use. -/
def checkInOps : List Byte :=
  be 1 0 ++ be 4 999999999 ++ figureOps ++ be 4 88310 ++ be 2 8 ++ be 4 80000 ++ be 1 1 ++ (be 2 8000 ++ be 1 1) ++ be 21 0 ++
    be 5 0

theorem witness_CheckInClaimsTheLane :
    ∃ (ops : List Byte) (k : CheckWord) (s : State) (ℓ : LaneId) (x : CheckInFields), s.takes .checkIn ops k ∧
      s.joined = true ∧ s.laneOperand ops 0 = some ℓ ∧ (s.lane ℓ).state = .vacant ∧ checkInFields ops = some x ∧
      (s.lane (otherLane ℓ)).holdsDriver x.driver = false ∧ s.view.shows x.driver = false ∧ s.log.state ≠ .logFault ∧
      s.log.canReserve = true ∧ Assoc.wf SlotEntry.free s.log.table = true :=
  ⟨checkInOps, _, base, .a, ⟨999999999, figures, 88310, ⟨8, 80000⟩, [⟨8000, 1, 0, 0, none, false⟩], none⟩,
    taken_of ⟨rfl, rfl, by decide +kernel, rfl⟩, rfl, by decide +kernel, rfl, by decide +kernel⟩

/-- The station with a STOP mode watch on a driver and an ORDER for him in the Hold List. -/
def watching (driver : Nat) (s : State) : State :=
  s.setLists { Lists.reset with watch := some ⟨.driver, driver, true⟩, holds := [⟨9, 0, .driver, driver, 1, false, 0⟩] }

theorem witness_CheckInClaimsTheLane_watched :
    ∃ (ops : List Byte) (k : CheckWord) (s : State) (ℓ : LaneId) (x : CheckInFields), s.takes .checkIn ops k ∧
      checkInFields ops = some x ∧ s.lists.stopWatches x.driver x.vehicle = true ∧
      s.lists.holds.any (fun e => e.kind == .driver && e.key == x.driver) = true ∧ s.joined = true ∧
      s.laneOperand ops 0 = some ℓ ∧ (s.lane ℓ).state = .vacant ∧ (s.lane ℓ).holds = HoldSet.empty ∧
      (s.lane (otherLane ℓ)).holdsDriver x.driver = false ∧ s.view.shows x.driver = false ∧ s.log.state ≠ .logFault ∧
      s.log.canReserve = true ∧ Assoc.wf SlotEntry.free s.log.table = true :=
  ⟨checkInOps, _, watching 999999999 base, .a, ⟨999999999, figures, 88310, ⟨8, 80000⟩, [⟨8000, 1, 0, 0, none, false⟩], none⟩,
    taken_of ⟨rfl, rfl, by decide +kernel, rfl⟩, by decide +kernel⟩

theorem witness_ReDriverStartsReclaim :
    ∃ (ops : List Byte) (k : CheckWord) (s : State) (ℓ : LaneId) (r : LoadRecord) (d : Nat) (f : FigureSet),
      s.takes .reDriver ops k ∧ s.joined = true ∧ s.laneOperand ops 0 = some ℓ ∧ (s.lane ℓ).record = some r ∧
      (s.lane ℓ).claim = none ∧ ((s.lane ℓ).state = .opened ∨ (s.lane ℓ).state = .loading) ∧
      (s.lane ℓ).reclaim = none ∧ reDriverFields ops = some (d, f) ∧ (d = r.current.driver ∨ r.second = none) ∧
      (s.lane (otherLane ℓ)).holdsDriver d = false ∧ (d = r.current.driver ∨ s.view.shows d = false) :=
  ⟨be 1 0 ++ be 4 7700031 ++ figureOps, _, withLane (laneIn .loading), .a, record, 7700031, figures,
    taken_of ⟨rfl, rfl, by decide +kernel, rfl⟩, rfl, by decide +kernel, rfl, rfl, .inr rfl, rfl, by decide +kernel, .inr rfl,
    by decide +kernel, .inr (by decide +kernel)⟩

theorem witness_ReDriverStartsReclaim_watched :
    ∃ (ops : List Byte) (k : CheckWord) (s : State) (ℓ : LaneId) (r : LoadRecord) (d : Nat) (f : FigureSet),
      s.takes .reDriver ops k ∧ (s.lane ℓ).record = some r ∧ reDriverFields ops = some (d, f) ∧
      s.lists.stopWatches d r.vehicle = true ∧ (s.lane ℓ).holds.watch = false ∧ s.joined = true ∧
      s.laneOperand ops 0 = some ℓ ∧ (s.lane ℓ).claim = none ∧
      ((s.lane ℓ).state = .opened ∨ (s.lane ℓ).state = .loading) ∧ (s.lane ℓ).reclaim = none ∧ r.second = none ∧
      (s.lane (otherLane ℓ)).holdsDriver d = false ∧ s.view.shows d = false :=
  ⟨be 1 0 ++ be 4 7700031 ++ figureOps, _, watching 7700031 (withLane (laneIn .opened)), .a, record, 7700031, figures,
    taken_of ⟨rfl, rfl, by decide +kernel, rfl⟩, by decide +kernel⟩

/-- The papers request of compartment 1, 100 L of product 1. -/
def entryOps : List Byte := be 1 0 ++ be 1 1 ++ be 1 1 ++ be 2 1203 ++ be 1 3 ++ be 1 2 ++ be 2 8000 ++ be 1 255

theorem witness_PaperEntryJoinsTheList :
    ∃ (ops : List Byte) (k : CheckWord) (s : State) (ℓ : LaneId) (x : Configuration) (r : LoadRecord) (comp : Comp)
      (product : Product) (group : Packing), s.takes .paperEntry ops k ∧ s.joined = true ∧
      s.laneOperand ops 0 = some ℓ ∧ s.unit.config = some x ∧ (s.lane ℓ).record = some r ∧ (s.lane ℓ).state = .opened ∧
      r.comp? (field ops 1 1) = some comp ∧ r.entry? (field ops 1 1) = none ∧ x.product (field ops 2 1) = some product ∧
      Packing.ofCode? (field ops 6 1) = some group ∧
      product = ⟨field ops 3 2, field ops 5 1, group, product.high⟩ ∧ 1 ≤ field ops 3 2 ∧ field ops 3 2 ≤ 9999 ∧
      field ops 5 1 ≤ 15 ∧ 1 ≤ field ops 7 2 ∧ field ops 7 2 ≤ comp.capacity ∧
      (field ops 9 1 = 255 ∨ x.product (field ops 9 1) ≠ none) :=
  ⟨entryOps, _, withLane { laneIn .opened with record := some { record with papers := [] } }, .a, cfg,
    { record with papers := [] }, ⟨8000, 1, 0, 0, none, false⟩, ⟨1203, 3, .ii, false⟩, .ii,
    taken_of ⟨rfl, rfl, by decide +kernel, rfl⟩, rfl, by decide +kernel, rfl, rfl, rfl, by decide +kernel⟩

theorem witness_PaperDeleteTakesTheEntryOut :
    ∃ (ops : List Byte) (k : CheckWord) (s : State) (ℓ : LaneId) (r : LoadRecord), s.takes .paperDelete ops k ∧
      s.joined = true ∧ s.laneOperand ops 0 = some ℓ ∧ (s.lane ℓ).record = some r ∧ (s.lane ℓ).state = .opened ∧
      r.entry? (field ops 1 1) ≠ none :=
  ⟨[0, 1], _, withLane (laneIn .opened), .a, record, taken_of ⟨rfl, rfl, rfl, rfl⟩, rfl, by decide +kernel, rfl, rfl,
    by decide +kernel⟩

theorem witness_PapersCloseStartsLoading :
    ∃ (ops : List Byte) (k : CheckWord) (s : State) (ℓ : LaneId) (x : Configuration) (r r' : LoadRecord)
      (given : Option Plan) (d : DutyResult), s.takes .papersClose ops k ∧ s.joined = true ∧
      s.laneOperand ops 0 = some ℓ ∧ s.unit.config = some x ∧ (s.lane ℓ).record = some r ∧
      (s.lane ℓ).state = .opened ∧ s.stagesFull ℓ = false ∧ planField ops 1 = some given ∧
      r' = { r with plan := if given = none then r.plan else given } ∧ closeFindings x r' s.minute = [] ∧
      recordDuty x r' s.minute = some (.pass d) ∧ s.minute ≤ Config.clockMax :=
  ⟨be 1 0 ++ be 5 0, _, withLane (laneIn .opened), .a, cfg, record, record, none, ⟨210, .drive, 10270, 1, .duty⟩,
    taken_of ⟨rfl, rfl, by decide +kernel, rfl⟩, rfl, by decide +kernel, rfl, rfl, rfl, by decide +kernel, by decide +kernel, rfl,
    by decide +kernel⟩

theorem witness_PapersCloseStartsLoading_findings :
    ∃ (ops : List Byte) (k : CheckWord) (s : State) (ℓ : LaneId) (x : Configuration) (r r' : LoadRecord)
      (given : Option Plan), s.takes .papersClose ops k ∧ s.unit.config = some x ∧ (s.lane ℓ).record = some r ∧
      planField ops 1 = some given ∧ r' = { r with plan := if given = none then r.plan else given } ∧
      s.joined = true ∧ s.laneOperand ops 0 = some ℓ ∧ (s.lane ℓ).state = .opened ∧ s.stagesFull ℓ = false ∧
      closeFindings x r' s.minute ≠ [] :=
  ⟨be 1 0 ++ be 5 0, _, withLane { laneIn .opened with record := some { record with plan := none } }, .a, cfg,
    { record with plan := none }, { record with plan := none }, none, taken_of ⟨rfl, rfl, by decide +kernel, rfl⟩, rfl, rfl,
    by decide +kernel⟩

theorem witness_AmendChangesTheEntry :
    ∃ (ops : List Byte) (k : CheckWord) (s : State) (ℓ : LaneId) (r : LoadRecord) (e : PaperEntry) (comp : Comp)
      (papers : List PaperEntry), s.takes .amend ops k ∧ s.joined = true ∧ s.laneOperand ops 0 = some ℓ ∧
      (s.lane ℓ).record = some r ∧ (s.lane ℓ).state = .loading ∧ r.entry? (field ops 1 1) = some e ∧
      r.comp? (field ops 1 1) = some comp ∧ s.compBusy ℓ (field ops 1 1) = false ∧
      ((1 ≤ field ops 2 2 ∧ field ops 2 2 ≤ comp.capacity) ∨ (field ops 2 2 = 0 ∧ comp.metered = 0)) ∧
      s.stagesFull ℓ = false ∧
      papers = (if field ops 2 2 = 0 then r.papers.filter (fun x => x.comp != field ops 1 1)
        else r.papers.map (fun x => if x.comp = field ops 1 1 then
          { e with declared := field ops 2 2, amended := true } else x)) ∧
      testDangerous r papers = [] :=
  ⟨[0, 1, 0, 0], _, withLane (laneIn .loading), .a, record, ⟨1, 1, 1203, 3, .ii, 7600, none, false, false⟩,
    ⟨8000, 1, 0, 0, none, false⟩, _, taken_of ⟨rfl, rfl, rfl, rfl⟩, rfl, by decide +kernel, rfl, rfl, by decide +kernel,
    by decide +kernel, by decide +kernel, .inr (by decide +kernel), by decide +kernel, rfl, by decide +kernel⟩

theorem witness_AmendChangesTheEntry_findings :
    ∃ (ops : List Byte) (k : CheckWord) (s : State) (ℓ : LaneId) (r : LoadRecord) (e : PaperEntry) (comp : Comp)
      (papers : List PaperEntry), s.takes .amend ops k ∧ (s.lane ℓ).record = some r ∧
      papers = r.papers.map (fun x => if x.comp = field ops 1 1 then
        { e with declared := field ops 2 2, amended := true } else x) ∧
      r.entry? (field ops 1 1) = some e ∧ r.comp? (field ops 1 1) = some comp ∧ s.joined = true ∧
      s.laneOperand ops 0 = some ℓ ∧ (s.lane ℓ).state = .loading ∧ s.compBusy ℓ (field ops 1 1) = false ∧
      1 ≤ field ops 2 2 ∧ field ops 2 2 ≤ comp.capacity ∧ s.stagesFull ℓ = false ∧
      r.permit.maxDangerous < ((papers.filter (fun x => x.cls != 0)).map PaperEntry.declared).sum :=
  ⟨[0, 1, 0x1F, 0x40], _, withLane { laneIn .loading with record := some { record with permit := ⟨8, 7999⟩ } }, .a,
    { record with permit := ⟨8, 7999⟩ }, ⟨1, 1, 1203, 3, .ii, 7600, none, false, false⟩, ⟨8000, 1, 0, 0, none, false⟩, _,
    taken_of ⟨rfl, rfl, rfl, rfl⟩, rfl, rfl, by decide +kernel⟩

theorem witness_ReleaseStartsClosing :
    ∃ (ops : List Byte) (k : CheckWord) (s : State) (ℓ : LaneId) (x : Configuration) (r : LoadRecord) (plan : Plan)
      (d : DutyResult), s.takes .release ops k ∧ s.joined = true ∧ s.laneOperand ops 0 = some ℓ ∧
      s.unit.config = some x ∧ (s.lane ℓ).record = some r ∧ (s.lane ℓ).state = .loading ∧ (s.lane ℓ).reclaim = none ∧
      s.log.state ≠ .logFault ∧ s.laneBusy ℓ = false ∧ s.stagesFull ℓ = false ∧ r.plan = some plan ∧
      releaseFindings x r (s.lane ℓ).holds (s.probe ℓ) s.minute = [] ∧ recordDuty x r s.minute = some (.pass d) :=
  ⟨[0], _, topUp 7599 7600, .a, cfg, { record with
      comps := [⟨8000, 1, 7599, 1, none, false⟩]
      papers := [⟨1, 1, 1203, 3, .ii, 7600, none, false, true⟩] }, ⟨210, 60⟩, ⟨210, .drive, 10270, 1, .duty⟩,
    taken_of ⟨rfl, rfl, rfl, rfl⟩, rfl, by decide +kernel, rfl, rfl, rfl, rfl, by decide, by decide +kernel, by decide +kernel,
    rfl, by decide +kernel⟩

theorem witness_ReleaseStartsClosing_findings :
    ∃ (ops : List Byte) (k : CheckWord) (s : State) (ℓ : LaneId) (x : Configuration) (r : LoadRecord)
      (fs : List Finding), s.takes .release ops k ∧ s.unit.config = some x ∧ (s.lane ℓ).record = some r ∧
      fs = releaseFindings x r (s.lane ℓ).holds (s.probe ℓ) s.minute ∧ fs ≠ [] ∧ s.joined = true ∧
      s.laneOperand ops 0 = some ℓ ∧ (s.lane ℓ).state = .loading ∧ (s.lane ℓ).reclaim = none ∧
      s.log.state ≠ .logFault ∧ s.laneBusy ℓ = false ∧ s.stagesFull ℓ = false :=
  ⟨[0], _, withLane (laneIn .loading), .a, cfg, record, [⟨.notPoured, [1], none⟩], taken_of ⟨rfl, rfl, rfl, rfl⟩, rfl, rfl,
    by decide +kernel⟩

/-- Lane A CLAIMING, its CLAIM announced. -/
def claiming (step : ClaimStep) (timer : Option Nat) : Lane :=
  { laneIn .claiming with claim := some ⟨2240117, step, true, timer⟩ }

theorem witness_VoidAbandonsTheLoad_claim :
    ∃ (ops : List Byte) (k : CheckWord) (s : State) (ℓ : LaneId) (r : LoadRecord) (c : Claim), s.takes .void ops k ∧
      s.joined = true ∧ s.laneOperand ops 0 = some ℓ ∧ (s.lane ℓ).state = .claiming ∧ (s.lane ℓ).record = some r ∧
      (s.lane ℓ).claim = some c ∧ Assoc.wf SlotEntry.free s.log.table = true ∧ c.announced = true ∧
      s.noticeAt (.release ℓ) = none :=
  ⟨[0], _, withLane (claiming .heard (some 1)), .a, record, _, taken_of ⟨rfl, rfl, rfl, rfl⟩, rfl, by decide +kernel, rfl, rfl, rfl,
    by decide +kernel, rfl, by decide +kernel⟩

theorem witness_VoidAbandonsTheLoad_load :
    ∃ (ops : List Byte) (k : CheckWord) (s : State) (ℓ : LaneId) (r : LoadRecord) (x : Configuration),
      s.takes .void ops k ∧ s.joined = true ∧ s.laneOperand ops 0 = some ℓ ∧ s.unit.config = some x ∧
      ((s.lane ℓ).state = .opened ∨ (s.lane ℓ).state = .loading) ∧ (s.lane ℓ).record = some r ∧
      s.laneSettling ℓ = false ∧ s.log.state ≠ .logFault :=
  ⟨[0], _, withChan (chanIn .pouring (some .slow)), .a, record, cfg, taken_of ⟨rfl, rfl, rfl, rfl⟩, rfl, by decide +kernel, rfl,
    .inr rfl, rfl, by decide +kernel⟩

/-- The state under LOG_FAULT, the slot of lane A's load OPEN with a stage written. -/
def faulted (s : State) : State := s.setLog { s.log with state := .logFault, table := [(0, ⟨.opened, some 1, 3⟩)] }

theorem witness_VoidAbandonsTheLoad_fault :
    ∃ (ops : List Byte) (k : CheckWord) (s : State) (ℓ : LaneId) (r : LoadRecord) (x : Configuration),
      s.takes .void ops k ∧ s.unit.config = some x ∧ (s.lane ℓ).record = some r ∧
      (∀ ch, (s.chan ch).atLane ℓ = true → (s.chan ch).state = .armed) ∧ s.joined = true ∧
      s.laneOperand ops 0 = some ℓ ∧ ((s.lane ℓ).state = .opened ∨ (s.lane ℓ).state = .loading) ∧
      s.laneSettling ℓ = false ∧ s.log.state = .logFault ∧ Assoc.wf SlotEntry.free s.log.table = true ∧
      (s.lane ℓ).reclaim = none ∧ s.releaseWaiting ℓ = false :=
  ⟨[0], _, faulted (withChan (chanIn .armed none)), .a, record, cfg, taken_of ⟨rfl, rfl, rfl, rfl⟩, rfl, rfl,
    by intro ch; cases ch <;> decide +kernel, by decide +kernel⟩

theorem witness_VoidAbandonsTheLoad_faultPour :
    ∃ (ops : List Byte) (k : CheckWord) (s : State) (ℓ : LaneId) (r : LoadRecord) (x : Configuration),
      s.takes .void ops k ∧ s.unit.config = some x ∧ (s.lane ℓ).record = some r ∧
      (∃ ch, (s.chan ch).atLane ℓ = true ∧ (s.chan ch).state ≠ .armed) ∧ s.joined = true ∧
      s.laneOperand ops 0 = some ℓ ∧ ((s.lane ℓ).state = .opened ∨ (s.lane ℓ).state = .loading) ∧
      s.laneSettling ℓ = false ∧ s.log.state = .logFault ∧ Assoc.wf SlotEntry.free s.log.table = true :=
  ⟨[0], _, faulted (withChan (chanIn .suspended none)), .a, record, cfg, taken_of ⟨rfl, rfl, rfl, rfl⟩, rfl, rfl,
    ⟨.c2, by decide +kernel⟩, by decide +kernel⟩

theorem witness_BreakCountIsTheCeiling :
    0 < limits.cont ∧ 210 ≤ breakRoom limits { figures with cont := 60 } ∧
      breakRoom limits { figures with cont := 60 } < 211 ∧ 30 ≤ limits.cont := by decide +kernel

theorem witness_MarginsDecideTheOutcome :
    ∃ (f g : FigureSet) (now : Nat), (now : Int) - f.stamp = limits.stale ∧ (limits.stale : Int) < (now : Int) - g.stamp :=
  ⟨{ figures with stamp := 8610 }, { figures with stamp := 8609 }, 10050, by decide +kernel⟩

/-! ### Witnesses: the pours -/

theorem witness_PourArmFixesTheQuantities :
    ∃ (ops : List Byte) (k : CheckWord) (s : State) (c : ChanId) (x : ChannelCfg) (ℓ : LaneId) (r : LoadRecord)
      (comp : Comp) (e : PaperEntry), s.takes .pourArm ops k ∧ s.joined = true ∧ s.chanOperand ops 0 = some (c, x) ∧
      s.laneOperand ops 1 = some ℓ ∧ (s.lane ℓ).record = some r ∧ (s.lane ℓ).state = .loading ∧
      (s.lane ℓ).holds = HoldSet.empty ∧ (s.chan c).state = .idle ∧ x.reach.covers ℓ = true ∧
      r.comp? (field ops 2 1) = some comp ∧ r.entry? (field ops 2 1) = some e ∧ e.product = x.product ∧
      (∀ d, (s.chan d).assigned ≠ some (ℓ, field ops 2 1)) ∧ comp.pours < 4 ∧ comp.metered < e.declared ∧
      s.probe ℓ = .dry :=
  ⟨[2, 0, 1], _, withLane (laneIn .loading), .c2, pourCfg, .a, record, ⟨8000, 1, 0, 0, none, false⟩,
    ⟨1, 1, 1203, 3, .ii, 7600, none, false, false⟩, taken_of ⟨rfl, rfl, rfl, rfl⟩, rfl, by decide +kernel, by decide +kernel,
    rfl, rfl, rfl, rfl, by decide +kernel, by decide +kernel, by decide +kernel, rfl, by intro d; cases d <;> decide +kernel,
    by decide +kernel, by decide +kernel, rfl⟩

theorem witness_PourStopEndsThePour :
    ∃ (ops : List Byte) (k : CheckWord) (s t : State) (c : ChanId) (x : ChannelCfg), s.takes .pourStop ops k ∧
      s.joined = true ∧ s.chanOperand ops 0 = some (c, x) ∧ (s.chan c).state = .armed ∧ t.takes .pourStop ops k ∧
      t.joined = true ∧ t.chanOperand ops 0 = some (c, x) ∧ runsPour t c :=
  ⟨[2], _, withChan (chanIn .armed none), withChan (chanIn .suspended none), .c2, pourCfg, taken_of ⟨rfl, rfl, rfl, rfl⟩, rfl,
    by decide +kernel, rfl, taken_of ⟨rfl, rfl, rfl, rfl⟩, rfl, by decide +kernel, .inr rfl⟩

theorem witness_PourResumeGoesOn :
    ∃ (ops : List Byte) (k : CheckWord) (s : State) (c : ChanId) (x : ChannelCfg), s.takes .pourResume ops k ∧
      s.joined = true ∧ s.chanOperand ops 0 = some (c, x) ∧ (s.chan c).state = .suspended ∧ (s.chan c).phase = none ∧
      s.probeWetAt c = false ∧ (s.causes c).any = false ∧ s.pins.coupled.get c = true :=
  ⟨[2], _, withChan (chanIn .suspended none), .c2, pourCfg, taken_of ⟨rfl, rfl, rfl, rfl⟩, rfl, by decide +kernel, rfl, rfl,
    by decide +kernel, by decide +kernel, rfl⟩

theorem witness_PulsesAreCounted_stray :
    ∃ (c : ChanId) (x : ChannelCfg) (s : State), s.inReset = false ∧ s.chanCfg c = some x ∧
      ((s.chan c).state = .idle ∨ (s.chan c).state = .armed ∨ (s.chan c).state = .ended) ∧ (s.chan c).stray = 65535 :=
  ⟨.c2, pourCfg, withChan { chanIn .ended none with stray := 65535 }, rfl, rfl, .inr (.inr rfl), rfl⟩

theorem witness_PulsesAreCounted_pour :
    ∃ (c : ChanId) (x : ChannelCfg) (s : State) (ℓ : LaneId) (n : Nat) (r : LoadRecord) (comp : Comp),
      s.inReset = false ∧ s.chanCfg c = some x ∧ (runsPour s c ∨ (s.chan c).state = .settling) ∧
      (s.chan c).assigned = some (ℓ, n) ∧ (s.lane ℓ).record = some r ∧ r.comp? n = some comp ∧
      (s.chan c).pulses = 16777215 :=
  ⟨.c2, pourCfg, withChan { chanIn .suspended none with pulses := 16777215 }, .a, 1, record, ⟨8000, 1, 0, 0, none, false⟩, rfl,
    rfl, .inl (.inr rfl), rfl, rfl, rfl, rfl⟩

theorem witness_PressStartsThePour :
    ∃ (c : ChanId) (x : ChannelCfg) (s : State), s.inReset = false ∧ s.chanCfg c = some x ∧
      s.pins.pressed.get c = false ∧ (s.chan c).state = .armed ∧ (s.chan c).phase = none ∧
      s.pins.coupled.get c = true ∧ s.groundOkAt c = true ∧ s.probeWetAt c = false ∧ (s.causes c).any = false :=
  ⟨.c2, pourCfg, withChan (chanIn .armed none), rfl, rfl, rfl, rfl, rfl, rfl, by decide +kernel⟩

theorem witness_PressStartsThePour_nothing :
    ∃ (c : ChanId) (s : State), s.pins.pressed.get c = false ∧ (s.chan c).state ≠ .armed := ⟨.c0, base, rfl, by decide⟩

theorem witness_PressStartsThePour_held : ∃ (c : ChanId) (s : State), s.pins.pressed.get c = true :=
  ⟨.c5, base.setPins { base.pins with pressed := base.pins.pressed.set .c5 true }, rfl⟩

theorem witness_LostInputsEndPours_coupler :
    ∃ (c : ChanId) (x : ChannelCfg) (s t : State), s.inReset = false ∧ s.chanCfg c = some x ∧
      s.pins.coupled.get c = true ∧ (s.chan c).state = .pouring ∧ t.inReset = false ∧ t.chanCfg c = some x ∧
      t.pins.coupled.get c = true ∧ (t.chan c).state ≠ .pouring :=
  ⟨.c2, pourCfg, withChan (chanIn .pouring (some .slow)), base, rfl, rfl, rfl, rfl, rfl, rfl, rfl, by decide⟩

theorem witness_LostInputsEndPours_probe :
    ∃ (ℓ : LaneId) (s : State) (c : ChanId), s.inReset = false ∧ s.probe ℓ = .dry ∧ (s.chan c).atLane ℓ = true ∧
      runsPour s c :=
  ⟨.a, withChan (chanIn .suspended none), .c2, rfl, rfl, rfl, .inr rfl⟩

theorem witness_CausesSuspendPours_ground :
    ∃ (ℓ : LaneId) (s : State) (c : ChanId), s.inReset = false ∧ s.ground ℓ ≠ .lost ∧ (s.chan c).atLane ℓ = true ∧
      (s.chan c).state = .pouring :=
  ⟨.a, withChan (chanIn .pouring (some .slow)), .c2, rfl, by decide, rfl, rfl⟩

theorem witness_CausesSuspendPours_stop :
    ∃ (s : State) (c : ChanId), s.lineOn = true ∧ s.pins.stopChain ≠ true ∧
      Assoc.wf StopMember.absent s.lists.stops = true ∧ (s.chan c).state = .pouring ∧ s.begunAt .stop = false :=
  ⟨withChan (chanIn .pouring (some .slow)), .c2, rfl, by decide, rfl, rfl, by decide +kernel⟩

theorem witness_SettleTimeEndsThePour :
    ∃ (c : ChanId) (s : State) (ℓ : LaneId) (n : Nat) (r : LoadRecord) (comp after : Comp), s.inReset = false ∧
      (s.chan c).settle ≠ none ∧ (s.chan c).state = .settling ∧ (s.chan c).assigned = some (ℓ, n) ∧
      (s.lane ℓ).record = some r ∧ r.comp? n = some comp ∧
      after = { comp with
        pours := comp.pours + 1
        lastEnd := (s.chan c).pourEnd
        overfill := comp.overfill || decide (comp.capacity < comp.metered) } ∧ s.log.state ≠ .logFault :=
  ⟨.c2, withChan { chanIn .settling none with settle := some 0, pourEnd := some .complete }, .a, 1, record,
    ⟨8000, 1, 0, 0, none, false⟩, _, rfl, by decide, rfl, rfl, rfl, rfl, rfl, by decide⟩

/-! ### Witnesses: the lists -/

theorem witness_HoldIssueTakesTheLowestSlot :
    ∃ (ops : List Byte) (k : CheckWord) (s : State) (n : Nat) (kind : KeyKind) (key : Nat), s.takes .holdIssue ops k ∧
      s.joined = true ∧ keyFields ops = some (kind, key) ∧ n < 8 ∧ s.lists.order n = .free ∧
      (∀ m, m < n → s.lists.order m ≠ .free) ∧ s.lists.holds.length < 24 ∧ s.noticeAt (.hold n) = none :=
  ⟨be 1 1 ++ be 4 88310 ++ be 1 40, _, base.setLists { Lists.reset with
      orders := (List.range 7).map (fun m => (m, .active .driver (m + 1) 0)) }, 7, .vehicle, 88310,
    taken_of ⟨rfl, rfl, by decide +kernel, rfl⟩, rfl, by decide +kernel⟩

/-- The station with order 7 ACTIVE and its image in the Hold List. -/
def ordering : State :=
  base.setLists { Lists.reset with orders := [(7, .active .vehicle 88310 40)], holds := [⟨4, 7, .vehicle, 88310, 40, false, 0⟩] }

theorem witness_HoldCancelWithdrawsTheOrder :
    ∃ (ops : List Byte) (k : CheckWord) (s : State) (n : Nat) (kind : KeyKind) (key reason : Nat),
      s.takes .holdCancel ops k ∧ s.joined = true ∧ n = field ops 0 1 ∧ n ≤ 7 ∧
      s.lists.order n = .active kind key reason ∧ s.begunAt (.hold n) = false :=
  ⟨[7], _, ordering, 7, .vehicle, 88310, 40, taken_of ⟨rfl, rfl, rfl, rfl⟩, rfl, by decide +kernel⟩

/-- Lane A CLOSING for a release, its outcome stage not yet begun, with a Hold List of one entry of station 9. -/
def closingHeld (kind : KeyKind) (key : Nat) : State :=
  ((withLane { laneIn .closing with closing := some ⟨.released, 10050, none, true, false⟩ }).setLog
    { base.log with queue := [⟨0, 1, ⟨.outcome, [1]⟩, .lane .a⟩] }).setLists
    { Lists.reset with holds := [⟨9, 0, kind, key, 1, false, 0⟩] }

/-- The order that reaches the driver of the CLOSING lane. -/
def orderOps : List Byte := be 1 0 ++ be 4 2240117 ++ be 1 1

theorem witness_HoldIssueTakesTheLowestSlot_takeBack :
    ∃ (s t : State) (k : CheckWord), s.takes .holdIssue orderOps k ∧ s.joined = true ∧
      exec (.holdIssue orderOps k) s = .next t ∧ orderTakesBack s t .a = true :=
  ⟨closingHeld .vehicle 1, after (.holdIssue orderOps (requestCheck .holdIssue orderOps)) (closingHeld .vehicle 1), _,
    taken_of ⟨rfl, rfl, by decide +kernel, rfl⟩, rfl, rfl, by decide +kernel⟩

theorem test_hold_takes_back :
    (fun s : State => ((s.lane .a).state, (s.lane .a).result, s.log.queue.length))
      (after (.holdIssue orderOps (requestCheck .holdIssue orderOps)) (closingHeld .vehicle 1)) =
      (.loading, some (.close, .held), 0) := by decide +kernel

/-- The station with an ORPHAN hold entry and an ORPHAN stop member of station 31. -/
def orphans : State :=
  base.setLists { Lists.reset with stops := [(31, .orphan)], holds := [⟨31, 0, .vehicle, 88310, 40, true, 3⟩] }

theorem witness_ListRequestsAct_holdDrop :
    ∃ (ops : List Byte) (k : CheckWord) (s : State) (e : HoldEntry), s.takes .holdDrop ops k ∧ s.joined = true ∧
      field ops 0 1 ≤ 31 ∧ field ops 0 1 ≠ s.unit.address ∧ field ops 1 1 ≤ 7 ∧
      s.lists.hold? (field ops 0 1) (field ops 1 1) = some e ∧ e.orphan = true :=
  ⟨[31, 0], _, orphans, ⟨31, 0, .vehicle, 88310, 40, true, 3⟩, taken_of ⟨rfl, rfl, rfl, rfl⟩, rfl, by decide +kernel,
    by decide +kernel, by decide +kernel, by decide +kernel, rfl⟩

theorem witness_ListRequestsAct_stopDrop :
    ∃ (ops : List Byte) (k : CheckWord) (s : State), s.takes .stopDrop ops k ∧ s.joined = true ∧
      field ops 0 1 ≤ 31 ∧ field ops 0 1 ≠ s.unit.address ∧ s.lists.stop (field ops 0 1) = .orphan ∧
      Assoc.wf StopMember.absent s.lists.stops = true :=
  ⟨[31], _, orphans, taken_of ⟨rfl, rfl, rfl, rfl⟩, rfl, by decide +kernel⟩

theorem witness_ListRequestsAct_watch :
    ∃ (ops : List Byte) (k k' : CheckWord) (s : State) (kind : KeyKind) (key : Nat), s.takes .watchSet ops k ∧
      s.joined = true ∧ keyFields ops = some (kind, key) ∧ field ops 5 1 ≤ 1 ∧ s.takes .watchClear [] k' :=
  ⟨be 1 0 ++ be 4 999999999 ++ be 1 1, _, _, base, .driver, 999999999, taken_of ⟨rfl, rfl, by decide +kernel, rfl⟩, rfl,
    by decide +kernel, by decide +kernel, taken_of ⟨rfl, rfl, rfl, rfl⟩⟩

theorem witness_ListRequestsAct_unhold :
    ∃ (ops : List Byte) (k : CheckWord) (s : State) (ℓ : LaneId), s.takes .unholdWatch ops k ∧ s.joined = true ∧
      s.laneOperand ops 0 = some ℓ ∧ (s.lane ℓ).holds.watch = true :=
  ⟨[0], _, withLane { laneIn .opened with holds := { HoldSet.empty with watch := true } }, .a, taken_of ⟨rfl, rfl, rfl, rfl⟩, rfl,
    by decide +kernel, rfl⟩

theorem witness_HoldNoticesChangeTheHoldList_issue :
    ∃ (s : State) (a n : Nat) (body : List Byte) (kind : KeyKind) (key reason : Nat), hears s 5 a body ∧
      parseHold body = some (true, n, kind, key, reason) ∧ a ≠ s.unit.address :=
  ⟨hearing base 5 2 (be 1 0 ++ be 1 7 ++ be 1 1 ++ be 4 88310 ++ be 1 40), 2, 7, _, .vehicle, 88310, 40, ⟨rfl, rfl⟩,
    by decide +kernel⟩

/-- An ISSUE of order 0 of station 9 for the driver of the small station's load. -/
def issueBody : List Byte := be 1 0 ++ be 1 0 ++ be 1 0 ++ be 4 2240117 ++ be 1 7

theorem witness_HoldNoticesChangeTheHoldList_replace :
    ∃ (s t : State) (e f : HoldEntry), hears s 5 9 issueBody ∧ hears t 5 9 issueBody ∧
      parseHold issueBody = some (true, 0, .driver, 2240117, 7) ∧ (listsHeard s 9).hold? 9 0 = some e ∧
      (e.kind ≠ .driver ∨ e.key ≠ 2240117) ∧ (listsHeard t 9).hold? 9 0 = some f ∧ f.kind = .driver ∧
      f.key = 2240117 :=
  ⟨hearing (closingHeld .vehicle 1) 5 9 issueBody, hearing (closingHeld .driver 2240117) 5 9 issueBody,
    ⟨9, 0, .vehicle, 1, 1, false, 0⟩, ⟨9, 0, .driver, 2240117, 1, false, 0⟩, ⟨rfl, rfl⟩, ⟨rfl, rfl⟩, by decide +kernel⟩

theorem witness_HoldNoticesChangeTheHoldList_full :
    ∃ s : State, hears s 5 9 issueBody ∧ (listsHeard s 9).hold? 9 0 = none ∧ (listsHeard s 9).holds.length = 24 :=
  ⟨hearing (base.setLists { Lists.reset with
      holds := (List.range 24).map (fun i => ⟨20 + i / 8, i % 8, .driver, i + 1, 1, false, 0⟩) }) 5 9 issueBody, ⟨rfl, rfl⟩,
    by decide +kernel⟩

theorem witness_HoldNoticesChangeTheHoldList_insert :
    ∃ s : State, hears s 5 9 issueBody ∧ (listsHeard s 9).hold? 9 0 = none ∧ (listsHeard s 9).holds.length = 23 :=
  ⟨hearing (base.setLists { Lists.reset with
      holds := (List.range 23).map (fun i => ⟨20 + i / 8, i % 8, .driver, i + 1, 1, false, 0⟩) }) 5 9 issueBody, ⟨rfl, rfl⟩,
    by decide +kernel⟩

theorem witness_HoldNoticesChangeTheHoldList_cancel :
    ∃ (s : State) (a n : Nat) (body : List Byte) (kind : KeyKind) (key reason : Nat), hears s 5 a body ∧
      parseHold body = some (false, n, kind, key, reason) ∧ a ≠ s.unit.address ∧ (listsHeard s a).hold? a n ≠ none :=
  ⟨hearing orphans 5 31 (be 1 1 ++ be 1 0 ++ be 1 1 ++ be 4 88310 ++ be 1 40), 31, 0, _, .vehicle, 88310, 40, ⟨rfl, rfl⟩,
    by decide +kernel⟩

theorem witness_HoldNoticesChangeTheHoldList_echo :
    ∃ (s : State) (body : List Byte) (issue : Bool) (x : Nat × KeyKind × Nat × Nat),
      hears s 5 s.unit.address body ∧ parseHold body = some (issue, x) :=
  ⟨hearing base 5 4 (be 1 0 ++ be 1 7 ++ be 1 1 ++ be 4 88310 ++ be 1 40), _, true, (7, .vehicle, 88310, 40), ⟨rfl, rfl⟩,
    by decide +kernel⟩

theorem witness_HoldNoticesChangeTheHoldList_lapse :
    ∃ (s : State) (a n : Nat) (e : HoldEntry), s.inReset = false ∧ s.lists.hold? a n = some e ∧ e.orphan = false ∧
      e.missed = 3 ∧ a ≠ s.unit.address :=
  ⟨base.setLists { Lists.reset with holds := [⟨31, 0, .vehicle, 88310, 40, false, 3⟩] }, 31, 0,
    ⟨31, 0, .vehicle, 88310, 40, false, 3⟩, rfl, by decide +kernel, rfl, rfl, by decide⟩

/-! ### Witnesses: the timers and the minute -/

theorem witness_ClaimWindowOpensTheLoad :
    ∃ (ℓ : LaneId) (s : State) (r : LoadRecord) (c : Claim), s.inReset = false ∧ (s.lane ℓ).record = some r ∧
      (s.lane ℓ).claim = some c ∧ c.timer ≠ none ∧ s.stagesFull ℓ = false :=
  ⟨.a, withLane (claiming .heard (some 0)), record, _, rfl, rfl, rfl, by decide +kernel⟩

/-- Lane A LOADING with a pending reclaim whose window has run out. -/
def reclaiming (driver : Nat) : Lane :=
  { laneIn .loading with reclaim := some ⟨⟨driver, .heard, true, some 0⟩, figures, .carried⟩ }

theorem witness_ReclaimWindowEnds_same :
    ∃ (ℓ : LaneId) (s : State) (r : LoadRecord) (rc : Reclaim), s.inReset = false ∧ (s.lane ℓ).record = some r ∧
      (s.lane ℓ).reclaim = some rc ∧ rc.claim.timer ≠ none ∧ rc.claim.driver = r.current.driver :=
  ⟨.a, withLane (reclaiming 2240117), record, _, rfl, rfl, rfl, by decide, rfl⟩

theorem witness_ReclaimWindowEnds_other :
    ∃ (ℓ : LaneId) (s : State) (r : LoadRecord) (rc : Reclaim) (x : Configuration) (plan : Plan), s.inReset = false ∧
      s.unit.config = some x ∧ (s.lane ℓ).record = some r ∧ (s.lane ℓ).reclaim = some rc ∧ rc.claim.timer ≠ none ∧
      rc.claim.driver ≠ r.current.driver ∧ ((s.lane ℓ).state = .opened ∨ (s.lane ℓ).state = .loading) ∧
      s.stagesFull ℓ = false ∧ s.minute ≤ Config.clockMax ∧ r.plan = some plan :=
  ⟨.a, withLane (reclaiming 7700031), record, _, cfg, ⟨210, 60⟩, rfl, rfl, rfl, rfl, by decide, by decide, .inr rfl,
    by decide +kernel, by decide +kernel, rfl⟩

theorem witness_TimersRunOut_dispatch : ∃ (ℓ : LaneId) (s : State), s.inReset = false ∧ (s.lane ℓ).pulse ≠ none :=
  ⟨.a, withLane { Lane.reset with dispatch := true, pulse := some 0 }, rfl, by decide⟩

theorem witness_TimersRunOut_noFlow :
    ∃ (c : ChanId) (s : State), s.inReset = false ∧ (s.chan c).noFlow ≠ none ∧ (s.chan c).state = .pouring :=
  ⟨.c2, withChan { chanIn .pouring (some .slow) with noFlow := some 0 }, rfl, by decide, rfl⟩

theorem witness_TimersRunOut_joining : ∃ s : State, s.inReset = false ∧ s.view.joining ≠ none :=
  ⟨base.setView { PeerView.reset with joining := some 0 }, rfl, by decide⟩

/-- The small station at a minute and a phase, lane A LOADING with an armed timer. -/
def timed (minute phase : Nat) (x : DutyTimer) : State :=
  (withLane { laneIn .loading with dutyTimer := some x }).setUnit { base.unit with clock := some minute, phase := phase }

theorem witness_MinuteEventsAct_maximum : ∃ s : State, s.inReset = false ∧ s.unit.clock = some 4294967295 :=
  ⟨timed 4294967295 0 ⟨10070, .duty, false⟩, rfl, rfl⟩

/-- One advance to 10,050: the timer warns exactly at L − WARN. -/
theorem witness_MinuteEventsAct_warns :
    ∃ (s : State) (m : Nat) (y : Configuration) (x : DutyTimer), s.unit.clock = some m ∧ s.unit.config = some y ∧
      (s.lane .a).dutyTimer = some x ∧ s.inReset = false ∧ m < 4294967295 ∧ x.warned = false ∧ m + 1 ≤ x.latest ∧
      x.latest = m + 1 + y.limits.warn :=
  ⟨timed 10049 60000 ⟨10070, .duty, false⟩, 10049, cfg, ⟨10070, .duty, false⟩, rfl, rfl, rfl, by decide +kernel⟩

/-- One advance past L, the last the clock makes. -/
theorem witness_MinuteEventsAct_passes :
    ∃ (s : State) (m : Nat) (y : Configuration) (x : DutyTimer) (r : LoadRecord), s.unit.clock = some m ∧
      s.unit.config = some y ∧ (s.lane .a).dutyTimer = some x ∧ (s.lane .a).record = some r ∧ s.inReset = false ∧
      m < 4294967295 ∧ x.latest < m + 1 ∧ (s.lane .a).state = .loading ∧ (s.lane .a).holds.duty = false :=
  ⟨timed 4294967294 60000 ⟨4294967294, .span, false⟩, 4294967294, cfg, ⟨4294967294, .span, false⟩, record, rfl, rfl, rfl, rfl,
    by decide +kernel⟩

theorem test_advance_passes :
    (fun s : State => (s.unit.clock, (s.lane .a).dutyTimer, (s.lane .a).holds.duty, s.attention))
      (after .minuteAdvance (timed 10270 60000 ⟨10270, .duty, true⟩)) =
      (some 10271, none, true, [(.holdSet .a, false)]) := by decide +kernel

theorem test_advance_at_limit :
    (fun s : State => ((s.lane .a).dutyTimer.isSome, (s.lane .a).holds.duty))
      (after .minuteAdvance (timed 10269 60000 ⟨10270, .duty, true⟩)) = (true, false) := by decide +kernel

/-- While an advance is due the commands test at the coming minute, and else at the minute. -/
theorem witness_MinuteEventsAct_near :
    ∃ (s t : State) (x : DutyTimer) (y : Configuration), s.unit.config = some y ∧ t.unit.config = some y ∧
      (s.lane .a).dutyTimer = some x ∧ (t.lane .a).dutyTimer = some x ∧ s.inReset = false ∧ t.inReset = false ∧
      x.warned = false ∧ s.minute + 1 = t.minute ∧ x.latest = s.dueMinute + y.limits.warn ∧
      x.latest = t.dueMinute + y.limits.warn :=
  ⟨timed 10049 60000 ⟨10070, .duty, false⟩, timed 10050 0 ⟨10070, .duty, false⟩, ⟨10070, .duty, false⟩, cfg, rfl, rfl, rfl, rfl,
    by decide +kernel⟩

theorem witness_MinuteEventsAct_expiry (warned : Bool) :
    ∃ (ℓ : LaneId) (s : State) (x : DutyTimer) (r : LoadRecord), s.inReset = false ∧ (s.lane ℓ).dutyTimer = some x ∧
      (s.lane ℓ).record = some r ∧ x.warned = warned ∧ x.latest < s.dueMinute ∧ (s.lane ℓ).state = .loading ∧
      (s.lane ℓ).holds.duty = false :=
  ⟨.a, timed 10049 60000 ⟨10049, .duty, warned⟩, ⟨10049, .duty, warned⟩, record, rfl, rfl, rfl, by
    cases warned <;> decide +kernel⟩

/-- The small station with one entry of the Released-Driver Table, older than STALE from minute 10,050 on. -/
def ageing (phase : Nat) : State :=
  (base.setReleased [(5, { figures with stamp := 8609 })]).setUnit { base.unit with clock := some 10049, phase := phase }

theorem witness_MinuteEventsAct_ageing :
    ∃ (s t : State) (f : FigureSet) (x : Configuration), s.unit.clock = some 10049 ∧ t.unit.clock = some 10049 ∧
      s.unit.config = some x ∧ t.unit.config = some x ∧ releasedOf s.released 5 = some f ∧
      releasedOf t.released 5 = some f ∧ s.inReset = false ∧ t.inReset = false ∧ s.unit.phase = 60000 ∧
      t.unit.phase = 0 ∧ (x.limits.stale : Int) < ((10050 : Nat) : Int) - f.stamp :=
  ⟨ageing 60000, ageing 0, { figures with stamp := 8609 }, cfg, rfl, rfl, rfl, rfl, by decide +kernel⟩

theorem test_ageing_needs_an_advance :
    [(after (.releasedDriverAgeing 5) (ageing 0)).released.length,
      (after (.releasedDriverAgeing 5) (ageing 60000)).released.length, (after .minuteAdvance (ageing 60000)).released.length] =
      [1, 0, 0] := by decide +kernel

theorem witness_MinuteEventsAct_tick : ∃ s t u : State, s.pending = [] ∧ s.inReset = false ∧ s.joined = true ∧
    s.line.transmitter = none ∧ s.line.breakLeft = 0 ∧ s.partsAfterBit < 1536 ∧ t.pending = [] ∧ t.inReset = false ∧
    t.joined = true ∧ t.line.breakLeft ≠ 0 ∧ t.partsAfterBit = 1536 ∧ u.pending = [] ∧ u.inReset = false ∧
    u.joined = false :=
  ⟨base, (base.setUnit { base.unit with rate := 0, subMs := 1496 }).setLine { base.line with breakLeft := 1 }, .reset,
    rfl, rfl, rfl, rfl, rfl, by decide, rfl, rfl, rfl, by decide, rfl, rfl, rfl, rfl⟩

theorem witness_RefreshTicksAgeTheRows_tick :
    ∃ (s : State) (n : Nat) (kind : KeyKind) (key reason : Nat), s.inReset = false ∧ s.view.refresh ≠ none ∧ n < 8 ∧
      s.lists.order n = .active kind key reason ∧ s.noticeAt (.hold n) = none :=
  ⟨ordering.setView { PeerView.reset with refresh := some 0 }, 7, .vehicle, 88310, 40, rfl, by decide +kernel⟩

/-- The station with row 31 valid and given. -/
def withRow (row : PeerRow) : State := base.setView { PeerView.reset with rows := [(31, row)] }

theorem witness_RefreshTicksAgeTheRows_expiry :
    ∃ (a : Nat) (s : State), s.inReset = false ∧ (s.view.row a).valid = true ∧ (s.view.row a).missed = 3 ∧
      s.lists.stop a = .live :=
  ⟨31, (withRow { PeerRow.reset with valid := true, missed := 3, stop := true }).setLists
    { Lists.reset with stops := [(31, .live)] }, rfl, by decide +kernel⟩

theorem witness_ResyncEndsWithRoundsAndClaims :
    ∃ (s : State) (ℓ : LaneId) (c : Claim), s.inReset = false ∧ s.view.resync ≠ none ∧ (s.lane ℓ).progress? = some c ∧
      c.step = .waiting ∧ s.releaseWaiting ℓ = false ∧ s.begunAt (.claim ℓ) = false ∧ s.noticeAt (.claim ℓ) = none :=
  ⟨(withLane (claiming .waiting none)).setView { PeerView.reset with resync := some 0 }, .a, ⟨2240117, .waiting, true, none⟩, rfl,
    by decide, rfl, rfl, by decide +kernel⟩

/-- Resync runs out with channel 2 waiting for a place on header 3, as many other grants seen there as given. -/
def roundAt (grants : Nat) : State :=
  (withChan { chanIn .pouring (some .wait) with permit := .low }).setView { PeerView.reset with
    resync := some 0
    rows := (List.range grants).map (fun a => (a, { PeerRow.reset with valid := true, draws := [(0, some 3)] })) }

theorem witness_ResyncEndsWithRoundsAndClaims_round (grants : Fin 2) :
    ∃ (s : State) (x : ChannelCfg), s.chanCfg .c2 = some x ∧ s.inReset = false ∧ s.view.resync ≠ none ∧ x.header ≤ 7 ∧
      (s.chan .c2).wantsDraw = true ∧ s.noticeAt (.draw .c2) = none ∧ s.headerLimit x.header = 1 ∧
      s.viewCount x.header + s.asking x.header + s.waitersBelow x.header .c2 = grants :=
  ⟨roundAt grants, pourCfg, rfl, by revert grants; decide +kernel⟩

theorem test_round_offers :
    [(after .resyncTimerExpiry (roundAt 0)).chan .c2, (after .resyncTimerExpiry (roundAt 1)).chan .c2].map Channel.draw =
      [.asked, .none] := by decide +kernel

/-! ### Witnesses: the rack line and the peer view -/

/-- The station with a header held, no more of its notice taken. -/
def assembling (h : Byte) (waiting : List Heard) : State :=
  base.setLine { base.line with receiver := some ⟨h, []⟩, receiveQueue := waiting }

theorem witness_ReceptionTakesNoticesOrLosesThem_header :
    ∃ (s t : State), s.lineOn = true ∧ s.line.receiver = none ∧ t.lineOn = true ∧ t.line.receiver ≠ none :=
  ⟨base, assembling 0 [], rfl, rfl, rfl, by decide⟩

theorem witness_ReceptionTakesNoticesOrLosesThem_long :
    ∃ (h length : Byte) (s : State), s.lineOn = true ∧ s.line.receiver = some ⟨h, []⟩ ∧ length.toNat = 49 :=
  ⟨0x07, 49, assembling 0x07 [], rfl, rfl, by decide⟩

theorem witness_ReceptionTakesNoticesOrLosesThem_wrong :
    ∃ (h length : Byte) (body : List Byte) (check : CheckWord) (s : State), s.lineOn = true ∧ s.line.receiver = some ⟨h, []⟩ ∧
      length.toNat = 48 ∧ body.length = length.toNat ∧ check ≠ checkWord (h :: length :: body) :=
  ⟨0x07, 48, be 48 0, ~~~ checkWord (0x07 :: 48 :: be 48 0), assembling 0x07 [], rfl, rfl, by decide +kernel⟩

theorem witness_ReceptionTakesNoticesOrLosesThem_kind7 :
    ∃ (h length : Byte) (body : List Byte) (check : CheckWord) (s : State), s.lineOn = true ∧ s.line.receiver = some ⟨h, []⟩ ∧
      body.length = length.toNat ∧ length.toNat ≤ 48 ∧ check = checkWord (h :: length :: body) ∧ h.toNat / 32 = 7 :=
  ⟨0xFF, 0, [], _, assembling 0xFF [], rfl, rfl, rfl, by decide, rfl, by decide⟩

theorem witness_ReceptionTakesNoticesOrLosesThem_taken :
    ∃ (h length : Byte) (body : List Byte) (check : CheckWord) (s : State), s.lineOn = true ∧ s.line.receiver = some ⟨h, []⟩ ∧
      body.length = length.toNat ∧ length.toNat ≤ 48 ∧ check = checkWord (h :: length :: body) ∧ h.toNat / 32 ≠ 7 ∧
      s.line.receiveQueue.length < 2 :=
  ⟨0xDF, 1, [0], _, assembling 0xDF [⟨0, 7, [0]⟩], rfl, rfl, rfl, by decide, rfl, by decide +kernel⟩

theorem witness_ReceptionTakesNoticesOrLosesThem_overrun :
    ∃ (h length : Byte) (body : List Byte) (check : CheckWord) (s : State), s.lineOn = true ∧ s.line.receiver = some ⟨h, []⟩ ∧
      body.length = length.toNat ∧ length.toNat ≤ 48 ∧ check = checkWord (h :: length :: body) ∧ h.toNat / 32 ≠ 7 ∧
      2 ≤ s.line.receiveQueue.length :=
  ⟨0x07, 1, [0], _, assembling 0x07 [⟨0, 7, [0]⟩, ⟨0, 8, [0]⟩], rfl, rfl, rfl, by decide, rfl, by decide +kernel⟩

/-- The station with a header and the length character of a notice taken. -/
def partway : State := base.setLine { base.line with receiver := some ⟨0xDF, [2]⟩ }

theorem witness_ReceptionTakesNoticesOrLosesThem_partial :
    ∃ (h length : Byte) (taken body : List Byte) (s : State), s.line.receiver = some ⟨h, taken⟩ ∧
      (∃ more, taken ++ more = length :: body) ∧ s.lineOn = true ∧ length.toNat ≤ 48 ∧ body.length < length.toNat :=
  ⟨0xDF, 2, [2], [7], partway, rfl, ⟨[7], rfl⟩, by decide +kernel⟩

theorem test_partial_notice :
    (after (.noticeReceived 2 [7] 0) partway).line.receiver = some ⟨0xDF, [2, 7]⟩ := by decide +kernel

/-- Characters in WAITING are ignored, but their dominant bits break the idle run. -/
theorem test_waiting_busies_the_line :
    (fun s : State => (s.line.receiver, s.line.idleCount))
      (after (.noticeReceived 2 [7, 7] 0) (base.setLine { base.line with idleCount := 500 })) = (none, 0) := by
  decide +kernel

theorem witness_ReceptionTakesNoticesOrLosesThem_loss :
    ∃ (kind : LossKind) (s : State), s.lineOn = true ∧ (kind = .framing ∨ s.line.receiver ≠ none) :=
  ⟨.idleWithin, assembling 0 [], rfl, .inr (by decide)⟩

theorem witness_StopsAndContestsHeard_stop :
    ∃ (s t : State) (a : Nat) (body : List Byte), hears s 0 a body ∧ parseStop body = some true ∧ a ≠ s.unit.address ∧
      Assoc.wf StopMember.absent s.lists.stops = true ∧ hears t 0 t.unit.address body :=
  ⟨hearing base 0 31 [0], hearing base 0 4 [0], 31, [0], ⟨rfl, rfl⟩, by decide +kernel, by decide, rfl, ⟨rfl, rfl⟩⟩

/-- A CONTEST of driver 2,240,117. -/
def contestBody : List Byte := be 1 0 ++ be 4 2240117 ++ be 1 1

theorem witness_StopsAndContestsHeard_claim :
    ∃ (s : State) (a d : Nat) (body : List Byte) (ℓ : LaneId) (c : Claim) (r : LoadRecord), hears s 1 a body ∧
      parseContest body = some d ∧ a ≠ s.unit.address ∧ Assoc.wf SlotEntry.free s.log.table = true ∧
      (s.lane ℓ).claim = some c ∧ (s.lane ℓ).record = some r ∧ c.driver = d :=
  ⟨hearing (withLane (claiming .sent none)) 1 9 contestBody, 9, 2240117, _, .a, _, record, ⟨rfl, rfl⟩, by decide +kernel,
    by decide, by decide +kernel, rfl, rfl, rfl⟩

theorem witness_StopsAndContestsHeard_settled :
    ∃ (s : State) (a d : Nat) (body : List Byte) (ℓ : LaneId), hears s 1 a body ∧ parseContest body = some d ∧
      a ≠ s.unit.address ∧ Assoc.wf SlotEntry.free s.log.table = true ∧ (s.lane ℓ).claim = none ∧
      (s.lane ℓ).driver? = some d ∧ ((s.lane ℓ).state = .opened ∨ (s.lane ℓ).state = .loading) :=
  ⟨hearing (withLane (laneIn .opened)) 1 9 contestBody, 9, 2240117, _, .a, ⟨rfl, rfl⟩, by decide +kernel, by decide,
    by decide +kernel, rfl, by decide +kernel, .inl rfl⟩

theorem witness_StopsAndContestsHeard_reclaim :
    ∃ (s : State) (a d : Nat) (body : List Byte) (ℓ : LaneId) (rc : Reclaim), hears s 1 a body ∧
      parseContest body = some d ∧ a ≠ s.unit.address ∧ Assoc.wf SlotEntry.free s.log.table = true ∧
      (s.lane ℓ).claim = none ∧ (s.lane ℓ).reclaim = some rc ∧ rc.claim.driver = d :=
  ⟨hearing (withLane (reclaiming 2240117)) 1 9 contestBody, 9, 2240117, _, .a, _, ⟨rfl, rfl⟩, by decide +kernel, by decide,
    by decide +kernel, rfl, rfl, rfl⟩

theorem witness_StopsAndContestsHeard_own :
    ∃ (s : State) (d : Nat) (body : List Byte), hears s 1 s.unit.address body ∧ parseContest body = some d :=
  ⟨hearing base 1 4 contestBody, 2240117, _, ⟨rfl, rfl⟩, by decide +kernel⟩

/-- A CLAIM of driver 2,240,117 at lane A. -/
def claimBody (re : Bool) : List Byte := (Notice.claim .a re 2240117 88310).body []

theorem witness_ClaimsHeardSettleOnTheLine_withdrawn :
    ∃ (s : State) (a d v : Nat) (x : LaneId) (re : Bool) (body : List Byte) (ℓ : LaneId) (c : Claim) (r : LoadRecord),
      hears s 2 a body ∧ parseClaim body = some (x, re, d, v) ∧ a ≠ s.unit.address ∧
      Assoc.wf SlotEntry.free s.log.table = true ∧ (s.lane ℓ).claim = some c ∧ (s.lane ℓ).record = some r ∧
      c.driver = d ∧ c.step ≠ .heard :=
  ⟨hearing (withLane (claiming .sent none)) 2 9 (claimBody false), 9, 2240117, 88310, .a, false, _, .a, _, record, ⟨rfl, rfl⟩,
    by decide +kernel, by decide, by decide +kernel, rfl, rfl, rfl, by decide⟩

theorem witness_ClaimsHeardSettleOnTheLine_contested :
    ∃ (s : State) (a d v : Nat) (x : LaneId) (re : Bool) (body : List Byte) (ℓ : LaneId) (c : Claim),
      hears s 2 a body ∧ parseClaim body = some (x, re, d, v) ∧ a ≠ s.unit.address ∧
      Assoc.wf SlotEntry.free s.log.table = true ∧ (s.lane ℓ).claim = some c ∧ c.driver = d ∧ c.step = .heard ∧
      (s.lane ℓ).state = .claiming ∧ s.noticeAt (.contest ℓ) = none :=
  ⟨hearing (withLane (claiming .heard (some 1))) 2 9 (claimBody true), 9, 2240117, 88310, .a, true, _, .a, _, ⟨rfl, rfl⟩,
    by decide +kernel, by decide, by decide +kernel, rfl, rfl, rfl, rfl, by decide +kernel⟩

theorem witness_ClaimsHeardSettleOnTheLine_settled :
    ∃ (s : State) (a d v : Nat) (x : LaneId) (re : Bool) (body : List Byte) (ℓ : LaneId),
      hears s 2 a body ∧ parseClaim body = some (x, re, d, v) ∧ a ≠ s.unit.address ∧
      Assoc.wf SlotEntry.free s.log.table = true ∧ (s.lane ℓ).claim = none ∧ (s.lane ℓ).reclaim = none ∧
      (s.lane ℓ).driver? = some d ∧ (s.lane ℓ).state ≠ .claiming ∧ s.noticeAt (.contest ℓ) = none :=
  ⟨hearing (withLane (laneIn .closing)) 2 9 (claimBody false), 9, 2240117, 88310, .a, false, _, .a, ⟨rfl, rfl⟩, by decide +kernel,
    by decide, by decide +kernel, rfl, rfl, by decide +kernel⟩

theorem witness_ClaimsHeardSettleOnTheLine_reclaim :
    ∃ (s : State) (a d v : Nat) (x : LaneId) (re : Bool) (body : List Byte) (ℓ : LaneId) (rc : Reclaim),
      hears s 2 a body ∧ parseClaim body = some (x, re, d, v) ∧ a ≠ s.unit.address ∧
      Assoc.wf SlotEntry.free s.log.table = true ∧ (s.lane ℓ).claim = none ∧ (s.lane ℓ).reclaim = some rc ∧
      rc.claim.driver = d ∧ rc.claim.step = .heard ∧ (s.lane ℓ).state ≠ .claiming ∧ s.noticeAt (.contest ℓ) = none :=
  ⟨hearing (withLane (reclaiming 2240117)) 2 9 (claimBody false), 9, 2240117, 88310, .a, false, _, .a, _, ⟨rfl, rfl⟩,
    by decide +kernel, by decide, by decide +kernel, rfl, rfl, rfl, rfl, by decide +kernel⟩

theorem witness_ClaimsHeardSettleOnTheLine_echo :
    ∃ (s : State) (d v : Nat) (ℓ : LaneId) (re : Bool) (body : List Byte) (c : Claim), hears s 2 s.unit.address body ∧
      parseClaim body = some (ℓ, re, d, v) ∧ (s.lane ℓ).progress? = some c ∧ c.driver = d ∧ c.step = .sent :=
  ⟨hearing (withLane (claiming .sent none)) 2 4 (claimBody false), 2240117, 88310, .a, false, _, _, ⟨rfl, rfl⟩, by decide +kernel,
    rfl, rfl, rfl⟩

theorem witness_ClaimsHeardSettleOnTheLine_stray :
    ∃ (s : State) (d v : Nat) (ℓ : LaneId) (re : Bool) (body : List Byte), hears s 2 s.unit.address body ∧
      parseClaim body = some (ℓ, re, d, v) ∧ (s.lane ℓ).progress? = none :=
  ⟨hearing base 2 4 (claimBody false), 2240117, 88310, .a, false, _, ⟨rfl, rfl⟩, by decide +kernel, rfl⟩

theorem witness_DrawsAreJudgedByTheCount_on :
    ∃ (s : State) (a h : Nat) (c : ChanId) (body : List Byte), hears s 3 a body ∧ parseDraw body = some (true, c, h) ∧
      a ≠ s.unit.address ∧ Assoc.wf none (s.view.row a).draws = true :=
  ⟨hearing base 3 9 [0, 5, 7], 9, 7, .c5, _, ⟨rfl, rfl⟩, by decide +kernel⟩

theorem witness_DrawsAreJudgedByTheCount_off :
    ∃ (s t : State) (a h : Nat) (c : ChanId) (body : List Byte), hears s 3 a body ∧
      parseDraw body = some (false, c, h) ∧ a ≠ s.unit.address ∧ Assoc.wf none (s.view.row a).draws = true ∧
      hears t 3 t.unit.address body :=
  ⟨hearing base 3 9 [1, 0, 0], hearing base 3 4 [1, 0, 0], 9, 0, .c0, _, ⟨rfl, rfl⟩, by decide +kernel, by decide,
    by decide +kernel, ⟨rfl, rfl⟩⟩

theorem witness_DrawsAreJudgedByTheCount_granted :
    ∃ (s : State) (h : Nat) (c : ChanId) (body : List Byte), hears s 3 s.unit.address body ∧
      parseDraw body = some (true, c, h) ∧ (s.chan c).draw ≠ .granted ∧ (s.chan c).draw ≠ .returning ∧
      s.viewCount h < s.headerLimit h ∧ ((s.chan c).state == .pouring && (s.chan c).phase == some .wait) = true ∧
      s.onHeader c h = true ∧ s.begunAt (.draw c) = false :=
  ⟨hearing (withChan { chanIn .pouring (some .wait) with draw := .sent }) 3 4 [0, 2, 3], 3, .c2, _, ⟨rfl, rfl⟩, by decide +kernel⟩

theorem witness_DrawsAreJudgedByTheCount_void :
    ∃ (s : State) (h : Nat) (c : ChanId) (body : List Byte), hears s 3 s.unit.address body ∧
      parseDraw body = some (true, c, h) ∧ (s.chan c).draw ≠ .granted ∧ (s.chan c).draw ≠ .returning ∧
      s.headerLimit h ≤ s.viewCount h ∧ ((s.chan c).state == .pouring && (s.chan c).phase == some .wait) = true :=
  ⟨(hearing (withChan { chanIn .pouring (some .wait) with draw := .sent }) 3 4 [0, 2, 3]).setView
    { PeerView.reset with rows := [(9, { PeerRow.reset with valid := true, draws := [(1, some 3)] })] }, 3, .c2, [0, 2, 3],
    ⟨rfl, rfl⟩, by decide +kernel⟩

theorem witness_ReleasesHeardStoreFigures :
    ∃ (s t : State) (a d : Nat) (x : LaneId) (form : ReleaseForm) (f : Option FigureSet) (body : List Byte),
      hears s 4 a body ∧ parseRelease body = some (x, form, d, f) ∧ f ≠ none ∧ a ≠ s.unit.address ∧
      hears t 4 t.unit.address body :=
  ⟨hearing base 4 9 ((Notice.release .a .endOfLoad 2240117 (some figures)).body []),
    hearing base 4 4 ((Notice.release .a .endOfLoad 2240117 (some figures)).body []), 9, 2240117, .a, .endOfLoad, some figures, _,
    ⟨rfl, rfl⟩, by decide +kernel, by decide, by decide, ⟨rfl, rfl⟩⟩

/-- A STATUS of one lane OPEN with driver 2,240,117 and the stop flag set. -/
def statusBody : List Byte := [0x81, 0x00] ++ be 4 (2 * 2 ^ 30 + 2240117) ++ be 4 88310 ++ be 4 0

theorem witness_StatusHeardReplacesTheRow :
    ∃ (s t : State) (a : Nat) (body : List Byte) (x : StatusReport), hears s 6 a body ∧ parseStatus body = some x ∧
      a ≠ s.unit.address ∧ Assoc.wf StopMember.absent s.lists.stops = true ∧ x.stop = true ∧
      hears t 6 t.unit.address body :=
  ⟨hearing (withLane (laneIn .opened)) 6 9 statusBody, hearing base 6 4 statusBody, 9, _,
    ⟨true, false, ⟨.opened, some 2240117, some 88310, none⟩, .blank, []⟩, ⟨rfl, rfl⟩, by decide +kernel, by decide, rfl, rfl,
    ⟨rfl, rfl⟩⟩

theorem witness_SendingGoesOn_start :
    ∃ (s : State) (e : SendEntry) (rest : List SendEntry), s.line.sendQueue = e :: rest ∧ s.lineOn = true ∧
      s.line.transmitter = none ∧ s.line.breakLeft = 0 ∧ s.line.idleCount = 12 :=
  ⟨base.setLine { base.line with sendQueue := [⟨.status, false⟩], idleCount := 12 }, _, _, rfl, rfl, rfl, rfl, rfl⟩

theorem witness_SendingGoesOn_not_yet : ∃ s : State, s.line.sendQueue ≠ [] ∧ s.lineOn = true ∧ s.line.idleCount = 11 :=
  ⟨base.setLine { base.line with sendQueue := [⟨.status, false⟩], idleCount := 11 }, by decide, rfl, rfl⟩

/-- The state after one step with an empty queue. -/
def afterBit (s : State) : State := match step s with | .next t => t | _ => s

/-- The twelfth idle bit time lets a notice start (R131), and the break of an abort ends after its own (R133). -/
theorem test_bit_times :
    (afterBit (base.setLine { base.line with idleCount := 11 })).mayStartNotice = true ∧
      ((after .abort (sending base .status true)).line.breakLeft,
        (afterBit (base.setLine { base.line with breakLeft := 1 })).line.breakLeft) = (12, 0) := by decide +kernel

/-- The header character of chapter 6's CLAIM, 0x44, marked: start, data, mark and stop. -/
theorem test_header_levels :
    characterLevels true 0x44 = [.dominant, .dominant, .recessive, .dominant, .dominant, .dominant, .recessive, .dominant,
      .dominant, .recessive, .recessive] := by decide +kernel

theorem witness_SendingGoesOn_driving :
    ∃ (s : State) (x : Transmission), s.inReset = false ∧ s.line.transmitter = some x ∧ x.won = false ∧
      s.line.abortRun = 0 :=
  ⟨sending base .status false, _, rfl, rfl, rfl, rfl⟩

theorem witness_SendingGoesOn_faulted :
    ∃ (s : State) (x : Transmission), s.inReset = false ∧ s.line.transmitter = some x ∧ s.line.abortRun = 7 :=
  ⟨(sending base .status true).setLine { (sending base .status true).line with abortRun := 7 }, _, rfl, rfl, rfl⟩

/-- The notice of a place has been driven to its end. -/
def sentOf (s : State) (n : Notice) : Prop :=
  ∃ x e, s.inReset = false ∧ s.line.transmitter = some x ∧ x.won = true ∧ s.noticeAt x.place = some e ∧ e.notice = n

theorem sentOf_sending (s : State) (n : Notice) (h : s.inReset = false) : sentOf (sending s n true) n :=
  ⟨⟨n.place, [], true⟩, ⟨n, true⟩, h, rfl, rfl, by simp [sending, State.noticeAt, State.setLine], rfl⟩

theorem witness_SentWholeTellsTheOwner_stop : ∃ s : State, sentOf s (.stop true) := ⟨_, sentOf_sending base _ rfl⟩

theorem witness_SentWholeTellsTheOwner_status : ∃ s : State, sentOf s .status := ⟨_, sentOf_sending base _ rfl⟩

theorem witness_SentWholeTellsTheOwner_claim :
    ∃ (s : State) (c : Claim), sentOf s (.claim .a false 2240117 88310) ∧ (s.lane .a).lostClaim = none ∧
      (s.lane .a).progress? = some c ∧ c.step = .queued :=
  ⟨_, _, sentOf_sending (withLane (claiming .queued none)) _ rfl, rfl, rfl, rfl⟩

theorem witness_SentWholeTellsTheOwner_lost :
    ∃ (s : State) (lc : LostClaim), sentOf s (.claim .a false 2240117 88310) ∧ (s.lane .a).lostClaim = some lc ∧
      lc.pure = false ∧ s.noticeAt (.release .a) = none :=
  ⟨_, ⟨2240117, false⟩, sentOf_sending (withLane { Lane.reset with lostClaim := some ⟨2240117, false⟩ }) _ rfl, rfl, rfl,
    by decide +kernel⟩

/-- Channel 2 SUSPENDED and returning its place. -/
def returned : State := withChan { chanIn .suspended none with draw := .returning }

theorem witness_SentWholeTellsTheOwner_draw :
    ∃ s t u : State, sentOf s (.draw true .c2 3) ∧ (s.chan .c2).draw = .asked ∧ sentOf t (.draw true .c2 3) ∧
      (t.chan .c2).draw = .returning ∧ sentOf u (.draw false .c2 3) ∧ (u.chan .c2).state ≠ .pouring :=
  ⟨_, _, _, sentOf_sending (withChan { chanIn .pouring (some .wait) with draw := .asked }) _ rfl, rfl,
    sentOf_sending returned _ rfl, rfl, sentOf_sending returned _ rfl, by decide⟩

theorem witness_SentWholeTellsTheOwner_release :
    ∃ (s : State) (o : Nat), sentOf s (.release .a .endOfLoad 5 none) ∧ (s.lane .a).owedRelease = some o :=
  ⟨_, 2240117, sentOf_sending (withLane { Lane.reset with owedRelease := some 2240117 }) _ rfl, rfl⟩

theorem witness_SentWholeTellsTheOwner_retest :
    ∃ (s : State) (c : Claim), sentOf s (.release .a .endOfLoad 5 none) ∧ (s.lane .a).owedRelease = none ∧
      (s.lane .a).closing = none ∧ (s.lane .a).progress? = some c ∧ c.step = .waiting ∧ s.view.resync = none ∧
      s.begunAt (.claim .a) = false :=
  ⟨_, _, sentOf_sending (withLane (claiming .waiting none)) _ rfl, rfl, rfl, rfl, rfl, rfl, by decide +kernel⟩

theorem witness_SentWholeTellsTheOwner_contest :
    ∃ (s : State) (o : Nat), sentOf s (.contest .a 5 .settled) ∧ (s.lane .a).owedContest = some o :=
  ⟨_, 2240117, sentOf_sending (withLane { laneIn .opened with owedContest := some 2240117 }) _ rfl, rfl⟩

/-- Lane A CLOSING, its RELEASE in the Send Queue before it can leave. -/
def leaving (c : Closing) : State := withLane { laneIn .closing with closing := some c }

/-- What lets a CLOSING lane leave on its RELEASE, but for the ways its outcome can stand. -/
def leavesOnRelease (s : State) (c : Closing) (r : LoadRecord) : Prop :=
  sentOf s (.release .a .handover 2240117 none) ∧ (s.lane .a).closing = some c ∧ (s.lane .a).record = some r ∧
    (s.lane .a).owedRelease = none ∧ (s.lane .a).progress? = none ∧ s.laneBusy .a = false ∧
    Assoc.wf SlotEntry.free s.log.table = true

theorem witness_SentWholeTellsTheOwner_leavesReleased :
    ∃ (s : State) (c : Closing) (r : LoadRecord), leavesOnRelease s c r ∧ c.written = true ∧ c.outcome = .released :=
  ⟨_, ⟨.released, 10050, none, true, true⟩, record, ⟨sentOf_sending (leaving _) _ rfl, rfl, rfl, by decide +kernel⟩, rfl, rfl⟩

theorem witness_SentWholeTellsTheOwner_leavesVoided :
    ∃ (s : State) (c : Closing) (r : LoadRecord), leavesOnRelease s c r ∧ c.written = true ∧ c.handed = true ∧
      c.outcome = .voided :=
  ⟨_, ⟨.voided, 10050, none, true, true⟩, record, ⟨sentOf_sending (leaving _) _ rfl, rfl, rfl, by decide +kernel⟩, rfl, rfl, rfl⟩

theorem witness_SentWholeTellsTheOwner_leavesUnderFault :
    ∃ (s : State) (c : Closing) (r : LoadRecord), leavesOnRelease s c r ∧ c.outcome = .voided ∧ s.log.state = .logFault ∧
      r.slot = 0 ∧ slotAfterFault (s.log.slot 0) r.seq = ⟨.closed, some 1, 3⟩ :=
  ⟨_, ⟨.voided, 10050, none, false, false⟩, record,
    ⟨sentOf_sending (faulted (leaving _)) _ rfl, rfl, rfl, by decide +kernel⟩, rfl, rfl, rfl, by decide +kernel⟩

theorem witness_SentWholeTellsTheOwner_hold :
    ∃ s t : State, sentOf s (.hold true 7 .vehicle 88310 40) ∧ sentOf t (.hold false 7 .vehicle 88310 40) ∧
      Assoc.wf OrderSlot.free t.lists.orders = true :=
  ⟨_, _, sentOf_sending ordering _ rfl, sentOf_sending ordering _ rfl, by decide +kernel⟩

/-! ### Witnesses: the delivery log -/

theorem witness_ScanEndOpensTheLog :
    ∃ s : State, s.inReset = false ∧ s.log.state = .scanning ∧ s.unit.state = .starting ∧ s.pins.stopChain = true ∧
      s.lists.announcedAssert = false ∧ s.noticeAt .stop = none :=
  ⟨{ State.reset with
    unit := { base.unit with state := .starting }
    pins := { Pins.initial with stopChain := true } }, by decide +kernel⟩

/-- The station in its start scan over the areas of one slot, its trim mark as given. -/
def scanning (memory : Assoc (List Byte)) (mark : Nat) : State :=
  base.setLog (DeliveryLog.scan memory (be 4 mark ++ be 2 (checkWord (be 4 mark)).toNat))

/-- A verifying HEADER alone in slot 0, under sequence number 7 and stage number 1. -/
def headerImage : List Byte := frameStage 1 7 1 [1]

theorem newestStage_single (image : List Byte) (mark : Nat) (h : verifies image = true) :
    newestStage (scanning [(0, image)] mark) 0 (imageSeq image) (imageStage image) := by
  refine ⟨⟨0, by decide, h, rfl, rfl⟩, fun seq n area ⟨_, hv, hs, hn⟩ => ?_⟩
  have : area = 0 := by
    by_contra hne
    have hk : readArea (scanning [(0, image)] mark).log.memory (areaKey 0 area) = [] := by
      simp [readArea, scanning, DeliveryLog.scan, State.setLog, areaKey, Assoc.get, Ne.symm hne]
    rw [hk] at hv
    exact absurd hv (by decide +kernel)
  subst this
  exact .inr ⟨hs.symm, hn.symm.le⟩

theorem witness_ScanEndOpensTheLog_trimmed :
    ∃ (s : State) (p seq top : Nat), memoryCanonical s ∧ newestStage s p seq top ∧ s.inReset = false ∧
      s.log.state = .scanning ∧ seq = readMark s.log.markImage :=
  ⟨scanning [(0, headerImage)] 7, 0, _, _, by unfold memoryCanonical; decide +kernel,
    newestStage_single headerImage 7 (by decide +kernel), by decide +kernel⟩

theorem witness_ScanEndOpensTheLog_interrupted :
    ∃ (s t : State) (p seq top : Nat), memoryCanonical s ∧ newestStage s p seq top ∧ exec (.scanEnd none) s = .next t ∧
      scanWrites none t p ∧ s.inReset = false ∧ s.log.state = .scanning ∧ readMark s.log.markImage < seq ∧
      verifies (readArea s.log.memory (areaKey p areaOutcome)) = false :=
  ⟨scanning [(0, headerImage)] 6, after (.scanEnd none) (scanning [(0, headerImage)] 6), 0, _, _, by
    unfold memoryCanonical; decide +kernel, newestStage_single headerImage 6 (by decide +kernel), rfl, .inl (by decide +kernel),
    by decide +kernel⟩

theorem witness_ScanEndOpensTheLog_unwritten :
    ∃ (s t : State) (p seq top : Nat), memoryCanonical s ∧ newestStage s p seq top ∧
      exec (.scanEnd (some p)) s = .next t ∧ t.log.state = .logFault ∧ s.inReset = false ∧ s.log.state = .scanning ∧
      readMark s.log.markImage < seq :=
  ⟨scanning [(0, headerImage)] 0, after (.scanEnd (some 0)) (scanning [(0, headerImage)] 0), 0, _, _, by
    unfold memoryCanonical; decide +kernel, newestStage_single headerImage 0 (by decide +kernel), rfl, by decide +kernel⟩

/-- A slot whose newest stage is a verifying OUTCOME, and one with no verifying area. -/
theorem test_scan_places :
    (fun s : State => (s.log.slot 0, s.log.slot 1, readArea s.log.memory (areaKey 1 0), s.log.nextSeq))
      (after (.scanEnd none) (scanning [(0, headerImage), (areaOutcome, frameStage 6 7 2 [1]), (areaKey 1 0, [1, 2])] 3)) =
      (⟨.closed, some 7, 3⟩, .free, [], 8) := by decide +kernel

/-- An OPEN slot is completed under the next stage number, over its torn area. -/
theorem test_scan_completes :
    (fun s : State => (s.log.slot 0, readArea s.log.memory 1, (readArea s.log.memory areaOutcome).take 9))
      (after (.scanEnd none) (scanning [(0, headerImage), (1, [2] ++ be 4 7 ++ be 4 2 ++ [1])] 3)) =
      (⟨.closed, some 7, 3⟩, [], [6] ++ be 4 7 ++ be 4 2) := by decide +kernel

/-- The station with the record's OUTCOME in front of the Log Write Queue. -/
def logging (l : Lane) (kind : StageKind) (w : Option MemWrite) : State :=
  (withLane l).setLog { base.log with
    table := [(0, ⟨.opened, some 1, 3⟩)]
    queue := [⟨0, 1, ⟨kind, [1]⟩, .lane .a⟩]
    writing := w }

theorem witness_LogMemoryWritesStages_start :
    ∃ (s : State) (w : StageWrite) (rest : List StageWrite), s.log.queue = w :: rest ∧ s.inReset = false ∧
      s.log.state = .ready ∧ s.log.writing = none ∧ s.log.pendingMark = none ∧ s.port.reading = none :=
  ⟨logging (laneIn .loading) .papers none, _, _, rfl, rfl, rfl, rfl, rfl, rfl⟩

theorem witness_LogMemoryWritesStages_complete (second : Bool) :
    ∃ (s : State) (w : StageWrite) (rest : List StageWrite) (area number : Nat), s.log.queue = w :: rest ∧
      s.inReset = false ∧ s.log.writing = some (.stage area number second) ∧ memoryCanonical s ∧
      Assoc.wf SlotEntry.free s.log.table = true ∧ (∀ ℓ, (s.lane ℓ).closing = none) :=
  ⟨logging (laneIn .loading) .papers (some (.stage 1 3 second)), _, _, 1, 3, rfl, rfl, rfl, by cases second <;> rfl, by
    cases second <;> decide +kernel, by intro ℓ; cases ℓ <;> rfl⟩

theorem witness_LogMemoryWritesStages_channel :
    ∃ (s : State) (w : StageWrite) (rest : List StageWrite) (c : ChanId), s.log.queue = w :: rest ∧ s.inReset = false ∧
      s.log.writing = some (.stage (areaPour 1 1) 3 false) ∧ w.owner = .channel c ∧ (s.chan c).state = .ended ∧
      memoryCanonical s ∧ Assoc.wf SlotEntry.free s.log.table = true ∧ (∀ ℓ, (s.lane ℓ).closing = none) :=
  ⟨(withChan (chanIn .ended none)).setLog { base.log with
      queue := [⟨0, 1, ⟨.pour 1 1, [1]⟩, .channel .c2⟩]
      writing := some (.stage (areaPour 1 1) 3 false) }, _, [], .c2, rfl, rfl, rfl, rfl, rfl, by
    unfold memoryCanonical; decide +kernel, rfl, by intro ℓ; cases ℓ <;> rfl⟩

/-- A second failure meets a lane that is CLOSING with its outcome not written. -/
theorem witness_LogMemoryWritesStages_closing (way : LoadOutcome) :
    ∃ (s : State) (w : StageWrite) (rest : List StageWrite) (area number : Nat) (c : Closing) (r : LoadRecord),
      s.log.queue = w :: rest ∧ s.log.writing = some (.stage area number true) ∧ (s.lane .a).closing = some c ∧
      (s.lane .a).record = some r ∧ memoryCanonical s ∧ s.inReset = false ∧
      Assoc.wf SlotEntry.free s.log.table = true ∧ c.outcome = way ∧ c.written = false ∧
      s.releaseWaiting .a = false ∧ ∀ ch, (s.chan ch).atLane .a = false :=
  ⟨logging { laneIn .closing with closing := some ⟨way, 10050, none, true, false⟩ } .outcome (some (.stage 36 3 true)), _, _,
    36, 3, _, record, rfl, rfl, rfl, rfl, by cases way <;> rfl, rfl, by cases way <;> decide +kernel, rfl, rfl, by
    cases way <;> decide +kernel, by intro ch; cases ch <;> cases way <;> rfl⟩

/-- LOG_FAULT: a release goes back to LOADING, and a void leaves, its slot with a written stage CLOSED. -/
theorem test_fault_reaches_closing (way : LoadOutcome) :
    (fun s : State => ((s.lane .a).state, (s.lane .a).result, (s.log.slot 0).state))
      (after (.logWriteComplete false)
        (logging { laneIn .closing with closing := some ⟨way, 10050, none, true, false⟩ } .outcome (some (.stage 36 3 true)))) =
      (match way with
        | .released => (.loading, some (.close, .logFault), .opened)
        | .voided => (.vacant, some (.close, .voided), .closed)) := by cases way <;> decide +kernel

theorem witness_LogMemoryWritesStages_mark (second : Bool) :
    ∃ (s t : State) (v : Nat), s.inReset = false ∧ s.log.pendingMark = some v ∧ s.log.writing = none ∧
      t.inReset = false ∧ t.log.writing = some (.mark v second) :=
  ⟨base.setLog { base.log with pendingMark := some 9 }, base.setLog { base.log with writing := some (.mark 9 second) }, 9, rfl, rfl,
    rfl, rfl, rfl⟩

theorem witness_WrittenOutcomeEmptiesTheLane (way : LoadOutcome) :
    ∃ (s : State) (ℓ : LaneId) (w : StageWrite) (rest : List StageWrite) (area number : Nat) (second : Bool)
      (c : Closing) (r : LoadRecord), s.log.queue = w :: rest ∧ s.inReset = false ∧
      s.log.writing = some (.stage area number second) ∧ w.owner = .lane ℓ ∧ w.stage.kind = .outcome ∧
      (s.lane ℓ).closing = some c ∧ (s.lane ℓ).record = some r ∧ r.slot = w.slot ∧ (s.lane ℓ).backlog = [] ∧
      (∀ ch, (s.chan ch).atLane ℓ = false) ∧ s.releaseWaiting ℓ = false ∧ c.outcome = way :=
  ⟨logging { laneIn .closing with closing := some ⟨way, 10050, none, true, false⟩ } .outcome (some (.stage 36 3 true)), .a, _, _,
    36, 3, true, _, record, rfl, rfl, rfl, rfl, rfl, rfl, rfl, rfl, rfl, by intro ch; cases ch <;> cases way <;> rfl, by
    cases way <;> decide +kernel, rfl⟩

end Sys2Proof.Tests
end

/-! ## Proofs: driver duty arithmetic (chapter 3)

The break count is a ceiling division, so it is known by the interval of driving minutes that calls for it
(`breakCount_eq_succ_iff`); the remainder rule, the bound of 48 and the driving after the last break all follow from that.
The limiting figure is known by the comparisons that single it out (`limitingFigure_cases`). -/

namespace Sys2Proof.Machine

section DriverDuty

variable (lim : Limits) (f : FigureSet) (plan : Plan) (p t : Nat)

/-! ### Elapsed time, room and breaks (R63, R64) -/

theorem elapsed_eq_max : (elapsed t f : Int) = max ((t : Int) - f.stamp) 0 := by
  unfold elapsed; omega

theorem breakRoom_eq_max : (breakRoom lim f : Int) = max 0 ((lim.cont : Int) - f.cont) := by
  unfold breakRoom; omega

variable {lim f p}

theorem breakCount_of_le_room (h : p ≤ breakRoom lim f) : breakCount lim f p = 0 := if_pos h

/-- The ceiling as a Galois connection: `n` breaks suffice exactly when `n` full stretches cover the driving beyond the
room. -/
theorem breakCount_le_iff {n : Nat} (hc : 0 < lim.cont) :
    breakCount lim f p ≤ n ↔ p - breakRoom lim f ≤ lim.cont * n := by
  unfold breakCount
  split
  next hle => simp [Nat.sub_eq_zero_of_le hle]
  next => rw [← Nat.add_sub_assoc hc, ← Nat.ceilDiv_eq_add_pred_div, ceilDiv_le_iff_le_mul hc]

/-- The driving minutes that call for exactly `n + 1` breaks. -/
theorem breakCount_eq_succ_iff {n : Nat} (hc : 0 < lim.cont) :
    breakCount lim f p = n + 1 ↔
      lim.cont * n < p - breakRoom lim f ∧ p - breakRoom lim f ≤ lim.cont * (n + 1) := by
  rw [← not_le, ← breakCount_le_iff hc, ← breakCount_le_iff hc]
  omega

/-- The quotient of the driving beyond the room, raised by 1 when there is a remainder. -/
theorem breakCount_of_room_lt {q r : Nat} (hc : 0 < lim.cont) (hroom : breakRoom lim f < p)
    (hqr : p - breakRoom lim f = q * lim.cont + r) (hr : r < lim.cont) :
    breakCount lim f p = if r = 0 then q else q + 1 := by
  split
  case isTrue hzero =>
    obtain _ | k := q
    · omega
    · exact (breakCount_eq_succ_iff hc).2 (by rw [hqr]; constructor <;> linarith)
  case isFalse hpos => exact (breakCount_eq_succ_iff hc).2 (by rw [hqr]; constructor <;> grind)

/-- A trip of at most 1440 minutes needs at most 48 breaks, whatever CONT_LIMIT is in its range. -/
theorem breakCount_le_48 (hc : 30 ≤ lim.cont) (hp : p ≤ 1440) : breakCount lim f p ≤ 48 :=
  (breakCount_le_iff (by omega)).2 (by omega)

theorem breakCount_eq_48 (hc : lim.cont = 30) (hf : 30 ≤ f.cont) : breakCount lim f 1440 = 48 := by
  have hroom : breakRoom lim f = 0 := by unfold breakRoom; omega
  exact (breakCount_eq_succ_iff (by omega)).2 (by rw [hroom, hc]; decide)

/-! ### The limiting figure and L (R66, R67) -/

/-- The comparisons that single out each limiting figure: strictly below those before it in the order, at most those
after it. -/
theorem limitingFigure_cases (m : DutyFigure → Int) :
    (limitingFigure m = .drive ∧ m .drive ≤ m .duty ∧ m .drive ≤ m .week ∧ m .drive ≤ m .span) ∨
    (limitingFigure m = .duty ∧ m .duty < m .drive ∧ m .duty ≤ m .week ∧ m .duty ≤ m .span) ∨
    (limitingFigure m = .week ∧ m .week < m .drive ∧ m .week < m .duty ∧ m .week ≤ m .span) ∨
    (limitingFigure m = .span ∧ m .span < m .drive ∧ m .span < m .duty ∧ m .span < m .week) := by
  simp only [limitingFigure, List.foldl_cons, List.foldl_nil]
  by_cases hduty : m .duty < m .drive
  · by_cases hweek : m .week < m .duty
    · by_cases hspan : m .span < m .week <;> simp [hduty, hweek, hspan] <;> omega
    · by_cases hspan : m .span < m .duty <;> simp [hduty, hweek, hspan] <;> omega
  · by_cases hweek : m .week < m .drive
    · by_cases hspan : m .span < m .week <;> simp [hduty, hweek, hspan] <;> omega
    · by_cases hspan : m .span < m .drive <;> simp [hduty, hweek, hspan] <;> omega

theorem margin_limitingFigure_le (m : DutyFigure → Int) (g : DutyFigure) : m (limitingFigure m) ≤ m g := by
  obtain ⟨hfig, h⟩ | ⟨hfig, h⟩ | ⟨hfig, h⟩ | ⟨hfig, h⟩ := limitingFigure_cases m <;>
    rw [hfig] <;> cases g <;> omega

/-- A figure that shares the smallest margin is the limiting figure or comes after it in DRIVE, DUTY, WEEK, SPAN. -/
theorem limitingFigure_first (m : DutyFigure → Int) (g : DutyFigure) (hg : m g = m (limitingFigure m)) :
    limitingFigure m = .drive ∨ g = limitingFigure m ∨ (limitingFigure m = .duty ∧ g ≠ .drive) ∨
      (limitingFigure m = .week ∧ g = .span) := by
  obtain ⟨hfig, h⟩ | ⟨hfig, h⟩ | ⟨hfig, h⟩ | ⟨hfig, h⟩ := limitingFigure_cases m <;>
    rw [hfig] at hg ⊢ <;> cases g <;> simp <;> omega

theorem latestRelease_eq_min (m : DutyFigure → Int) (h : 0 ≤ m (limitingFigure m)) :
    (latestRelease t m : Int) = min ((t : Int) + min (m .duty) (m .span)) 4294967295 := by
  have hduty := margin_limitingFigure_le m .duty
  have hspan := margin_limitingFigure_le m .span
  simp only [latestRelease, Config.clockMax]
  omega

/-! ### The outcome (R62, R63, R66, R67) -/

theorem dutyCompute_of_stale (h : (lim.stale : Int) < (t : Int) - f.stamp) : dutyCompute lim f plan t = .stale :=
  if_pos h

variable {plan t}

theorem dutyCompute_of_short (h : (t : Int) - f.stamp ≤ lim.stale) {m : DutyFigure → Int}
    (hm : m = (project lim f plan t).margin lim) (hshort : m (limitingFigure m) < 0) :
    dutyCompute lim f plan t = .short (limitingFigure m) := by
  subst hm
  rw [dutyCompute, if_neg (show ¬ (lim.stale : Int) < rawElapsed t f from h.not_gt)]
  exact if_pos hshort

theorem dutyCompute_of_pass (h : (t : Int) - f.stamp ≤ lim.stale) {m : DutyFigure → Int}
    (hm : m = (project lim f plan t).margin lim) (hpass : 0 ≤ m (limitingFigure m)) :
    dutyCompute lim f plan t = .pass ⟨m (limitingFigure m), limitingFigure m, latestRelease t m,
      (project lim f plan t).breaks, if m .duty ≤ m .span then .duty else .span⟩ := by
  subst hm
  rw [dutyCompute, if_neg (show ¬ (lim.stale : Int) < rawElapsed t f from h.not_gt)]
  exact if_neg hpass.not_gt

/-! ### The onward figures (R72) -/

variable (lim f p) in
/-- The driving after the last break of the trip, before the cap (R72). -/
def drivenSinceBreak : Nat :=
  if breakCount lim f p = 0 then f.cont + p
  else (p - breakRoom lim f) - (breakCount lim f p - 1) * lim.cont

/-- No subtraction in the driving after the last break is cut off at 0: the trip goes beyond the room, and beyond all
full stretches but the last. -/
theorem drivenSinceBreak_eq (hc : 0 < lim.cont) :
    (drivenSinceBreak lim f p : Int) = if breakCount lim f p = 0 then (f.cont : Int) + p
      else ((p : Int) - max 0 ((lim.cont : Int) - f.cont)) - ((breakCount lim f p : Int) - 1) * lim.cont := by
  unfold drivenSinceBreak
  split
  · simp
  next hn =>
    obtain ⟨k, hk⟩ := Nat.exists_eq_succ_of_ne_zero hn
    obtain ⟨hover, -⟩ := (breakCount_eq_succ_iff hc).1 hk
    rw [← breakRoom_eq_max, hk, Nat.succ_sub_one, mul_comm k]
    push_cast
    rw [Nat.cast_sub hover.le, Nat.cast_sub (by omega)]
    push_cast
    ring

theorem onwardFigures_of_stale (h : (lim.stale : Int) < (t : Int) - f.stamp) : onwardFigures lim f plan t = none :=
  if_pos h

theorem onwardFigures_of_fresh (h : (t : Int) - f.stamp ≤ lim.stale) :
    onwardFigures lim f plan t = some
      { stamp := min (t + plan.p + plan.q + (project lim f plan t).breaks * lim.breakMin) 4294967295
        drive := min (project lim f plan t).drive 1440
        duty := min (project lim f plan t).duty 1440
        cont := min (drivenSinceBreak lim f plan.p) 1440
        week := min (project lim f plan t).week 10080
        span := min (project lim f plan t).span 1440 } :=
  if_neg (show ¬ (lim.stale : Int) < rawElapsed t f from h.not_gt)

end DriverDuty

/-! ### The statements -/

/-- Settles O30: each clause is a rule about the break count. -/
theorem breakCountIsTheCeiling : Obligations.BreakCountIsTheCeiling := by
  intro lim f p hc
  refine ⟨breakRoom_eq_max lim f, breakCount_of_le_room, fun hroom => ?_, breakCount_le_48, breakCount_eq_48⟩
  have hqr : p - breakRoom lim f = (p - breakRoom lim f) / lim.cont * lim.cont + (p - breakRoom lim f) % lim.cont :=
    (Nat.div_add_mod' _ _).symm
  have hr : (p - breakRoom lim f) % lim.cont < lim.cont := Nat.mod_lt _ hc
  exact ⟨_, _, hqr, hr, breakCount_of_room_lt hc hroom hqr hr⟩

/-- Settles O31: stage by stage, for stale figures and for figures that are not. -/
theorem marginsDecideTheOutcome : Obligations.MarginsDecideTheOutcome := by
  intro lim f plan t
  refine ⟨fun hstale => ⟨dutyCompute_of_stale plan t hstale, onwardFigures_of_stale hstale⟩, fun hfresh => ?_⟩
  have hpass := dutyCompute_of_pass (plan := plan) hfresh rfl
  have hcont (hc : 0 < lim.cont) := congrArg (min · (1440 : Int)) (drivenSinceBreak_eq (f := f) (p := plan.p) hc)
  refine ⟨project lim f plan t, elapsed t f, (project lim f plan t).margin lim,
    limitingFigure ((project lim f plan t).margin lim), _, rfl, elapsed_eq_max f t, rfl, rfl, rfl, rfl, rfl, rfl, rfl,
    rfl, rfl, margin_limitingFigure_le _, limitingFigure_first _,
    fun h => ⟨_, hpass h, rfl, rfl, rfl, latestRelease_eq_min t _ h, rfl⟩, dutyCompute_of_short hfresh rfl,
    onwardFigures_of_fresh hfresh, rfl, rfl, rfl, rfl, rfl, fun hc => ?_⟩
  rw [Nat.cast_min]
  exact hcont hc

end Sys2Proof.Machine

/-! ## Proofs: the port takes a request (chapter 9)

Every command that carries a request is `State.takeRequest` (`exec_of_requestOf`), and every owner either refuses, changing
nothing, or accepts (`Replied`): the statements about single requests start from these two facts. -/

namespace Sys2Proof.Machine

section TakingRequests

variable {s : State} {r : Request} {ops : List Byte} {k : CheckWord} {i : Instr}

theorem exec_of_requestOf (h : requestOf i = some (r, ops, k)) (s : State) :
    exec i s = .next (s.takeRequest r ops k) := by
  cases i <;> simp only [requestOf, Option.some.injEq, Prod.mk.injEq, reduceCtorEq] at h <;>
    (obtain ⟨rfl, rfl, rfl⟩ := h; rfl)

theorem State.takeRequest_of_not_receives (h : ¬ s.receives r ops) : s.takeRequest r ops k = s := by
  unfold State.takeRequest
  rw [if_pos]
  by_contra hn
  simp only [not_or, Bool.not_eq_true, not_not] at hn
  obtain ⟨hreset, hstep, hlen⟩ := hn
  exact h ⟨hreset, hstep, hlen⟩

theorem State.takeRequest_of_receives (h : s.receives r ops) :
    s.takeRequest r ops k =
      if k ≠ requestCheck r ops then s.answerWith ⟨none, .badFrame, []⟩
      else if s.port.reading.isSome then s.acting.setPort { s.acting.port with held := some ⟨r, ops, true⟩ }
      else s.carryOut r ops := by
  obtain ⟨hreset, hstep, hlen⟩ := h
  simp [State.takeRequest, hreset, hstep, hlen]

theorem State.takeRequest_of_takes (h : s.takes r ops k) : s.takeRequest r ops k = s.carryOut r ops := by
  obtain ⟨hreceives, hcheck, hreading⟩ := h
  simp [State.takeRequest_of_receives hreceives, hcheck, hreading]

/-- A request that is handed on acts through its owner (R196). -/
theorem serve_of_configured (h : s.unit.state ≠ .unconfigured) : serve r ops s = askOwner r ops s := by
  simp [serve, h]

theorem serve_of_unconfiguredOk (h : r.unconfiguredOk = true) : serve r ops s = askOwner r ops s := by
  simp [serve, h]

theorem serve_of_unconfigured (hs : s.unit.state = .unconfigured) (hr : r.unconfiguredOk = false) :
    serve r ops s = (s, some ⟨.notConfigured, []⟩) := by
  simp [serve, hs, hr]

theorem State.configured_of_joined (h : s.joined = true) : s.unit.state ≠ .unconfigured := by
  intro hn
  simp [State.joined, hn] at h

/-- A taken request that its owner answers at once with OK: the owner's state with the answer formed (R194). -/
theorem State.carryOut_of_serve {t : State} {reply : Reply} (h : serve r ops s = (t, some reply)) :
    s.carryOut r ops = t.answerWith ⟨some r, reply.result, reply.body⟩ := by
  simp [State.carryOut, h]

/-- The command of a taken request whose owner answers at once (R194, R196). -/
theorem exec_of_serve {t : State} {reply : Reply} (hi : requestOf i = some (r, ops, k)) (h : s.takes r ops k)
    (hserve : serve r ops s = (t, some reply)) :
    exec i s = .next (t.answerWith ⟨some r, reply.result, reply.body⟩) := by
  rw [exec_of_requestOf hi, State.takeRequest_of_takes h, State.carryOut_of_serve hserve]

/-- The command of a taken request while the station takes part on the line, from what its owner does. -/
theorem exec_of_owner {t : State} {reply : Reply} (hi : requestOf i = some (r, ops, k)) (h : s.takes r ops k)
    (hjoined : s.joined = true) (howner : askOwner r ops s = (t, some reply)) :
    exec i s = .next (t.answerWith ⟨some r, reply.result, reply.body⟩) :=
  exec_of_serve hi h (by rw [serve_of_configured (State.configured_of_joined hjoined), howner])

end TakingRequests

/-! ### Refusals and acceptances (R194, R196) -/

/-- What an owner can answer: a refusal, which leaves the state as it is, or an acceptance of which `accepted` tells the
state. -/
inductive Replied (s : State) (accepted : State → Prop) : State × Reply → Prop where
  | refused (c : ResultCode) (hok : c ≠ .ok) (hfindings : c ≠ .findings) : Replied s accepted (refuse s c)
  | ok (t : State) (body : List Byte) (h : accepted t) : Replied s accepted (okReply t body)
  | findings (ℓ : LaneId) (t : State) (fs : List Finding) (h : accepted (t.joinFindings ℓ fs)) :
      Replied s accepted (findingsReply t ℓ fs)

/-- The state that an owner accepting a request leaves (before findings join a record), with the guards that later proofs
need: one clause per request. READ-LOG may leave its reply for later and is not among them. -/
def Request.Accepts (s : State) : Request → State → Prop
  | .checkIn, t => ∃ ℓ x, t = s.acceptCheckIn ℓ x
  | .reDriver, t => ∃ ℓ d f, t = s.acceptReDriver ℓ d f
  | .paperEntry, t => ∃ ℓ f, t = s.modRecord ℓ f
  | .paperDelete, t => ∃ ℓ f, t = s.modRecord ℓ f
  | .papersClose, t => (∃ ℓ fs f, t = (s.modLane ℓ f).joinFindings ℓ fs) ∨
      ∃ ℓ st d f g, t = (((s.modLane ℓ f).modLane ℓ g).handStage ℓ st).armTimer ℓ d
  | .amend, t => (∃ ℓ fs, t = s.joinFindings ℓ fs) ∨ ∃ ℓ st f, t = (s.modLane ℓ f).handStage ℓ st
  | .release, t => (∃ ℓ fs, t = s.joinFindings ℓ fs) ∨ ∃ ℓ st f, t = (s.modLane ℓ f).handStage ℓ st
  | .void, t => (∃ ℓ, t = s.withdrawClaim ℓ .voided) ∨ ∃ ℓ, t = s.acceptVoid ℓ
  | .unholdWatch, t => ∃ ℓ, t = s.clearHold ℓ .watch
  | .pourArm, t => ∃ c ℓ n q, (s.chan c).state = .idle ∧ t = s.acceptArm c ℓ n q
  | .pourStop, t => (∃ c, (s.chan c).state = .armed ∧ t = s.idleChannel c) ∨ ∃ c, t = s.endPour c .stopped
  | .pourResume, t => ∃ c, (s.chan c).state = .suspended ∧ t = s.startPouring c
  | .holdIssue, t => ∃ n kind key reason, n < 8 ∧ s.lists.holds.length < Config.holdMax ∧
      t = s.acceptHoldIssue n kind key reason
  | .holdCancel, t => ∃ n kind key reason, n < 8 ∧ t = s.acceptHoldCancel n kind key reason
  | .holdDrop, t => ∃ origin n, t = (s.setLists (s.lists.dropHold origin n)).matchLanes
  | .stopDrop, t => ∃ a, t = s.setLists (s.lists.setStop a .absent)
  | .watchSet, t => ∃ w, t = s.setLists { s.lists with watch := w, latch := none, matchCount := 0 }
  | .watchClear, t => t = s.setLists { s.lists with watch := none }
  | .readLane, t => t = s
  | .readChannel, t => t = s
  | .readPeers, t => t = s
  | .readAttention, t => t = s.markReported
  | .readLog, _ => False
  | .readCause, t => t = s.setUnit { s.unit with reported := s.unit.causes }
  | .trimLog, t => ∃ gone, t = s.trim gone
  | .configure, t => ∃ u, t = (s.setUnit u).enterJoining
  | .restart, t => t = s.setPort { s.port with restartDue := true }

theorem Lists.lt_of_freeOrders {l : Lists} {n : Nat} {rest : List Nat} (h : l.freeOrders = n :: rest) : n < 8 := by
  have hn : n ∈ l.freeOrders := by simp [h]
  unfold Lists.freeOrders at hn
  simpa using (List.mem_filter.1 hn).1

section Owners

variable (ops : List Byte) (s : State)

theorem ownCheckIn_replied : Replied s (Request.checkIn.Accepts s) (ownCheckIn ops s) := by
  unfold ownCheckIn
  repeat' split
  all_goals first | exact .refused _ nofun nofun | exact .ok _ _ ⟨_, _, rfl⟩

theorem ownReDriver_replied : Replied s (Request.reDriver.Accepts s) (ownReDriver ops s) := by
  unfold ownReDriver
  repeat' split
  all_goals first | exact .refused _ nofun nofun | exact .ok _ _ ⟨_, _, _, rfl⟩

theorem ownPaperEntry_replied : Replied s (Request.paperEntry.Accepts s) (ownPaperEntry ops s) := by
  unfold ownPaperEntry
  dsimp only
  repeat' split
  all_goals first | exact .refused _ nofun nofun | exact .ok _ _ ⟨_, _, rfl⟩

theorem ownPaperDelete_replied : Replied s (Request.paperDelete.Accepts s) (ownPaperDelete ops s) := by
  unfold ownPaperDelete
  dsimp only
  repeat' split
  all_goals first | exact .refused _ nofun nofun | exact .ok _ _ ⟨_, _, rfl⟩

theorem ownPapersClose_replied : Replied s (Request.papersClose.Accepts s) (ownPapersClose ops s) := by
  unfold ownPapersClose
  dsimp only
  repeat' split
  all_goals first
    | exact .refused _ nofun nofun
    | exact .findings _ _ _ (.inl ⟨_, _, _, rfl⟩)
    | exact .ok _ _ (.inr ⟨_, _, _, _, _, rfl⟩)

theorem ownAmend_replied : Replied s (Request.amend.Accepts s) (ownAmend ops s) := by
  unfold ownAmend
  dsimp only
  repeat' split
  all_goals first
    | exact .refused _ nofun nofun
    | exact .findings _ _ _ (.inl ⟨_, _, rfl⟩)
    | exact .ok _ _ (.inr ⟨_, _, _, rfl⟩)

theorem ownRelease_replied : Replied s (Request.release.Accepts s) (ownRelease ops s) := by
  unfold ownRelease
  dsimp only
  repeat' split
  all_goals first
    | exact .refused _ nofun nofun
    | exact .findings _ _ _ (.inl ⟨_, _, rfl⟩)
    | exact .ok _ _ (.inr ⟨_, _, _, rfl⟩)

theorem ownVoid_replied : Replied s (Request.void.Accepts s) (ownVoid ops s) := by
  unfold ownVoid
  repeat' split
  all_goals first
    | exact .refused _ nofun nofun
    | exact .ok _ _ (.inl ⟨_, rfl⟩)
    | exact .ok _ _ (.inr ⟨_, rfl⟩)

theorem ownUnholdWatch_replied : Replied s (Request.unholdWatch.Accepts s) (ownUnholdWatch ops s) := by
  unfold ownUnholdWatch
  repeat' split
  all_goals first | exact .refused _ nofun nofun | exact .ok _ _ ⟨_, rfl⟩

theorem ownPourArm_replied : Replied s (Request.pourArm.Accepts s) (ownPourArm ops s) := by
  unfold ownPourArm
  dsimp only
  repeat' split
  all_goals first
    | exact .refused _ nofun nofun
    | exact .ok _ _ ⟨_, _, _, _, not_not.1 ‹¬ (s.chan _).state ≠ .idle›, rfl⟩

theorem ownPourStop_replied : Replied s (Request.pourStop.Accepts s) (ownPourStop ops s) := by
  unfold ownPourStop
  repeat' split
  all_goals first
    | exact .refused _ nofun nofun
    | exact .ok _ _ (.inl ⟨_, ‹_›, rfl⟩)
    | exact .ok _ _ (.inr ⟨_, rfl⟩)

theorem ownPourResume_replied : Replied s (Request.pourResume.Accepts s) (ownPourResume ops s) := by
  unfold ownPourResume
  dsimp only
  repeat' split
  all_goals first
    | exact .refused _ nofun nofun
    | exact .ok _ _ ⟨_, not_not.1 ‹¬ (s.chan _).state ≠ .suspended›, rfl⟩

theorem ownHoldIssue_replied : Replied s (Request.holdIssue.Accepts s) (ownHoldIssue ops s) := by
  unfold ownHoldIssue
  repeat' split
  all_goals first
    | exact .refused _ nofun nofun
    | exact .ok _ _ ⟨_, _, _, _, Lists.lt_of_freeOrders ‹_›, not_le.1 ‹_›, rfl⟩

theorem ownHoldCancel_replied : Replied s (Request.holdCancel.Accepts s) (ownHoldCancel ops s) := by
  unfold ownHoldCancel
  repeat' split
  all_goals first
    | exact .refused _ nofun nofun
    | exact .ok _ _ ⟨_, _, _, _, by omega, rfl⟩

theorem ownHoldDrop_replied : Replied s (Request.holdDrop.Accepts s) (ownHoldDrop ops s) := by
  unfold ownHoldDrop
  dsimp only
  repeat' split
  all_goals first | exact .refused _ nofun nofun | exact .ok _ _ ⟨_, _, rfl⟩

theorem ownStopDrop_replied : Replied s (Request.stopDrop.Accepts s) (ownStopDrop ops s) := by
  unfold ownStopDrop
  dsimp only
  repeat' split
  all_goals first | exact .refused _ nofun nofun | exact .ok _ _ ⟨_, rfl⟩

theorem ownWatchSet_replied : Replied s (Request.watchSet.Accepts s) (ownWatchSet ops s) := by
  unfold ownWatchSet
  repeat' split
  all_goals first | exact .refused _ nofun nofun | exact .ok _ _ ⟨_, rfl⟩

theorem ownWatchClear_replied : Replied s (Request.watchClear.Accepts s) (ownWatchClear s) := by
  unfold ownWatchClear
  split
  · exact .refused _ nofun nofun
  · exact .ok _ _ rfl

theorem ownReadLane_replied : Replied s (Request.readLane.Accepts s) (ownReadLane ops s) := by
  unfold ownReadLane
  split
  · exact .refused _ nofun nofun
  · exact .ok _ _ rfl

theorem ownReadChannel_replied : Replied s (Request.readChannel.Accepts s) (ownReadChannel ops s) := by
  unfold ownReadChannel
  split
  · exact .refused _ nofun nofun
  · exact .ok _ _ rfl

theorem ownReadPeers_replied : Replied s (Request.readPeers.Accepts s) (ownReadPeers ops s) := by
  unfold ownReadPeers
  dsimp only
  split
  · exact .refused _ nofun nofun
  · exact .ok _ _ rfl

theorem ownReadAttention_replied : Replied s (Request.readAttention.Accepts s) (ownReadAttention s) :=
  .ok _ _ rfl

theorem ownReadCause_replied : Replied s (Request.readCause.Accepts s) (ownReadCause s) :=
  .ok _ _ rfl

theorem ownTrimLog_replied : Replied s (Request.trimLog.Accepts s) (ownTrimLog ops s) := by
  unfold ownTrimLog
  dsimp only
  repeat' split
  all_goals first | exact .refused _ nofun nofun | exact .ok _ _ ⟨_, rfl⟩

theorem ownConfigure_replied : Replied s (Request.configure.Accepts s) (ownConfigure ops s) := by
  unfold ownConfigure
  repeat' split
  all_goals first | exact .refused _ nofun nofun | exact .ok _ _ ⟨_, rfl⟩

theorem ownRestart_replied : Replied s (Request.restart.Accepts s) (ownRestart s) :=
  .ok _ _ rfl

/-- An owner that answers at once refuses, or accepts as its clause says (R196). -/
theorem askOwner_replied (r : Request) (hr : r ≠ .readLog) :
    ∃ p, askOwner r ops s = atOnce p ∧ Replied s (r.Accepts s) p := by
  cases r with
  | readLog => exact absurd rfl hr
  | checkIn => exact ⟨_, rfl, ownCheckIn_replied ops s⟩
  | reDriver => exact ⟨_, rfl, ownReDriver_replied ops s⟩
  | paperEntry => exact ⟨_, rfl, ownPaperEntry_replied ops s⟩
  | paperDelete => exact ⟨_, rfl, ownPaperDelete_replied ops s⟩
  | papersClose => exact ⟨_, rfl, ownPapersClose_replied ops s⟩
  | amend => exact ⟨_, rfl, ownAmend_replied ops s⟩
  | release => exact ⟨_, rfl, ownRelease_replied ops s⟩
  | void => exact ⟨_, rfl, ownVoid_replied ops s⟩
  | unholdWatch => exact ⟨_, rfl, ownUnholdWatch_replied ops s⟩
  | pourArm => exact ⟨_, rfl, ownPourArm_replied ops s⟩
  | pourStop => exact ⟨_, rfl, ownPourStop_replied ops s⟩
  | pourResume => exact ⟨_, rfl, ownPourResume_replied ops s⟩
  | holdIssue => exact ⟨_, rfl, ownHoldIssue_replied ops s⟩
  | holdCancel => exact ⟨_, rfl, ownHoldCancel_replied ops s⟩
  | holdDrop => exact ⟨_, rfl, ownHoldDrop_replied ops s⟩
  | stopDrop => exact ⟨_, rfl, ownStopDrop_replied ops s⟩
  | watchSet => exact ⟨_, rfl, ownWatchSet_replied ops s⟩
  | watchClear => exact ⟨_, rfl, ownWatchClear_replied s⟩
  | readLane => exact ⟨_, rfl, ownReadLane_replied ops s⟩
  | readChannel => exact ⟨_, rfl, ownReadChannel_replied ops s⟩
  | readPeers => exact ⟨_, rfl, ownReadPeers_replied ops s⟩
  | readAttention => exact ⟨_, rfl, ownReadAttention_replied s⟩
  | readCause => exact ⟨_, rfl, ownReadCause_replied s⟩
  | trimLog => exact ⟨_, rfl, ownTrimLog_replied ops s⟩
  | configure => exact ⟨_, rfl, ownConfigure_replied ops s⟩
  | restart => exact ⟨_, rfl, ownRestart_replied s⟩

end Owners

end Sys2Proof.Machine

/-! ## Proofs: the invariants that every step keeps

`State.Keeps s t` says that what holds of `s` among the invariants of the model holds of `t`, each on its own premises, and that
the reset pin is not asserted on the way. It is reflexive and transitive, so each shared operation needs one lemma: that it
keeps them from a state that was reached. Only the assertion of the reset pin keeps less (`State.KeepsBlocks`). -/

namespace Sys2Proof.Machine

/-- Unless the reset pin is held, every channel's permit follows its state and phase, and every waiting DRAW-OFF is of a
channel returning its place (R86, R88, R91). -/
def State.drawsSound (s : State) : Prop := s.inReset = false → (∀ c, permitFollows (s.chan c)) ∧ drawOffsReturn s

/-- The invariants of the single blocks, known of the earlier state, are known of the later one. -/
structure State.KeepsBlocks (s t : State) : Prop where
  memory : memoryCanonical s → memoryCanonical t
  attention : attentionOnce s → attentionOnce t
  queue : sendQueueOrdered s → sendQueueOrdered t
  places : holdPlaces s → holdPlaces t
  line : lineBounded s → lineBounded t
  lists : listsBounded s → listsBounded t
  stages : stagesBounded s → stagesBounded t

/-- So is what the channels' outputs and DRAW-OFFs keep outside a held reset, and the pin is not asserted in between. -/
structure State.Keeps (s t : State) : Prop extends State.KeepsBlocks s t where
  draws : s.drawsSound → t.drawsSound
  pin : t.inReset = true → s.inReset = true

namespace State.Keeps

variable {s t u : State}

theorem refl : s.Keeps s := ⟨⟨id, id, id, id, id, id, id⟩, id, id⟩

theorem trans (h : s.Keeps t) (h' : t.Keeps u) : s.Keeps u :=
  ⟨⟨h'.memory ∘ h.memory, h'.attention ∘ h.attention, h'.queue ∘ h.queue, h'.places ∘ h.places, h'.line ∘ h.line,
    h'.lists ∘ h.lists, h'.stages ∘ h.stages⟩, h'.draws ∘ h.draws, h.pin ∘ h'.pin⟩

/-- Every step of a fold keeps them, so the fold does. -/
theorem foldl {ι : Type} (f : State → ι → State) (hf : ∀ t i, s.Keeps t → s.Keeps (f t i)) (l : List ι)
    (h : s.Keeps t) : s.Keeps (l.foldl f t) := by
  induction l generalizing t with
  | nil => exact h
  | cons i l ih => exact ih (hf t i h)

theorem ite {c : Prop} [Decidable c] {v : State} (h : s.Keeps u) (h' : s.Keeps v) : s.Keeps (if c then u else v) := by
  split
  · exact h
  · exact h'

/-- The invariants speak of seven parts of the state, and of the reset pin, alone. -/
theorem congr (h : s.Keeps t) (hmemory : u.log.memory = t.log.memory := by simp)
    (hqueue : u.log.queue = t.log.queue := by simp) (hattention : u.attention = t.attention := by simp)
    (hline : u.line = t.line := by simp) (hlists : u.lists = t.lists := by simp)
    (hreleased : u.released = t.released := by simp) (hchannels : u.channels = t.channels := by simp)
    (hpin : u.inReset = t.inReset := by simp [State.inReset]) : s.Keeps u where
  memory hs := by simpa only [memoryCanonical, hmemory] using h.memory hs
  attention hs := by simpa only [attentionOnce, hattention] using h.attention hs
  queue hs := by simpa only [sendQueueOrdered, hline] using h.queue hs
  places hs := by simpa only [holdPlaces, hline] using h.places hs
  line hs := by simpa only [lineBounded, hline] using h.line hs
  lists hs := by simpa only [listsBounded, hlists, hreleased] using h.lists hs
  stages hs := by
    unfold stagesBounded State.chan
    rw [hqueue, hchannels]
    exact h.stages hs
  draws hs := by simpa only [State.drawsSound, drawOffsReturn, State.chan, hline, hchannels, hpin] using h.draws hs
  pin hr := h.pin (hpin ▸ hr)

/-! ### One lemma per update of a part -/

section Updates

variable (h : s.Keeps t)
include h

theorem setLane (ℓ : LaneId) (x : Lane) : s.Keeps (t.setLane ℓ x) := h.congr
theorem modLane (ℓ : LaneId) (f : Lane → Lane) : s.Keeps (t.modLane ℓ f) := h.congr
theorem modRecord (ℓ : LaneId) (f : LoadRecord → LoadRecord) : s.Keeps (t.modRecord ℓ f) := h.congr
theorem setPins (x : Pins) (hx : x.resetAsserted = t.pins.resetAsserted := by simp) : s.Keeps (t.setPins x) :=
  h.congr (hpin := hx)
theorem setUnit (x : StationUnit) : s.Keeps (t.setUnit x) := h.congr
theorem setView (x : PeerView) : s.Keeps (t.setView x) := h.congr
theorem setPort (x : PanelPort) : s.Keeps (t.setPort x) := h.congr
theorem nextFree : s.Keeps t.nextFree := h.congr

theorem setAttention (x : List (Reason × Bool)) (hx : attentionOnce t → (x.map Prod.fst).Nodup) :
    s.Keeps (t.setAttention x) :=
  ⟨⟨h.memory, hx ∘ h.attention, h.queue, h.places, h.line, h.lists, h.stages⟩, h.draws, h.pin⟩

theorem setReleased (x : List (Nat × FigureSet)) (hx : t.released.length ≤ 32 → x.length ≤ 32) :
    s.Keeps (t.setReleased x) :=
  ⟨⟨h.memory, h.attention, h.queue, h.places, h.line,
    fun hs => ⟨(h.lists hs).1, hx (h.lists hs).2.1, (h.lists hs).2.2⟩, h.stages⟩, h.draws, h.pin⟩

theorem setLists (x : Lists) (hholds : t.lists.holds.length ≤ 24 → x.holds.length ≤ 24)
    (hcount : t.lists.matchCount ≤ 255 → x.matchCount ≤ 255) : s.Keeps (t.setLists x) :=
  ⟨⟨h.memory, h.attention, h.queue, h.places, h.line,
    fun hs => ⟨hholds (h.lists hs).1, (h.lists hs).2.1, hcount (h.lists hs).2.2⟩, h.stages⟩, h.draws, h.pin⟩

/-- The line but for its Send Queue. -/
theorem setLine (x : RackLine) (hqueue : x.sendQueue = t.line.sendQueue) (hx : lineBounded t → lineBounded (t.setLine x)) :
    s.Keeps (t.setLine x) where
  memory := h.memory
  attention := h.attention
  queue hs := by simpa only [sendQueueOrdered, setLine_line, hqueue] using h.queue hs
  places hs := by simpa only [holdPlaces, setLine_line, hqueue] using h.places hs
  line hs := hx (h.line hs)
  lists := h.lists
  pin := h.pin
  stages := h.stages
  draws hs hr := by simpa only [drawOffsReturn, setLine_line, hqueue, chan_setLine] using h.draws hs hr

/-- A Send Queue in order, of the eight HOLD places, whose DRAW-OFFs are returning. -/
theorem setSendQueue (q : List SendEntry) (hqueue : sendQueueOrdered t → sendQueueOrdered (t.setSendQueue q))
    (hplaces : holdPlaces s → holdPlaces (t.setSendQueue q)) (hdraws : drawOffsReturn t → drawOffsReturn (t.setSendQueue q)) :
    s.Keeps (t.setSendQueue q) :=
  ⟨⟨h.memory, h.attention, hqueue ∘ h.queue, hplaces, h.line, h.lists, h.stages⟩,
    fun hs hr => ⟨(h.draws hs hr).1, hdraws (h.draws hs hr).2⟩, h.pin⟩

/-- The log but for its Log Write Queue. -/
theorem setLog (x : DeliveryLog) (hqueue : x.queue = t.log.queue) (hx : memoryCanonical t → memoryWf x.memory) :
    s.Keeps (t.setLog x) :=
  ⟨⟨hx ∘ h.memory, h.attention, h.queue, h.places, h.line, h.lists,
    fun hs => by unfold stagesBounded; rw [setLog_log, hqueue]; exact h.stages hs⟩, h.draws, h.pin⟩

end Updates

end State.Keeps

/-! ### The attention set (R198) -/

theorem fst_mem_addReasonTo {r q : Reason} {l : List (Reason × Bool)} :
    q ∈ (addReasonTo r l).map Prod.fst ↔ q = r ∨ q ∈ l.map Prod.fst := by
  induction l with
  | nil => simp [addReasonTo]
  | cons p l ih =>
    unfold addReasonTo
    split
    case isTrue hp => simp [← hp]
    case isFalse hp => simp only [List.map_cons, List.mem_cons, ih]; tauto

theorem nodup_addReasonTo {r : Reason} {l : List (Reason × Bool)} (h : (l.map Prod.fst).Nodup) :
    ((addReasonTo r l).map Prod.fst).Nodup := by
  induction l with
  | nil => simp [addReasonTo]
  | cons p l ih =>
    rw [List.map_cons] at h
    obtain ⟨hp, hl⟩ := List.nodup_cons.1 h
    unfold addReasonTo
    split
    case isTrue hr => simpa using h
    case isFalse hr =>
      rw [List.map_cons, List.nodup_cons, fst_mem_addReasonTo]
      exact ⟨fun hq => hq.elim hr hp, ih hl⟩

theorem State.Keeps.attend {s t : State} (h : s.Keeps t) (r : Reason) : s.Keeps (t.attend r) :=
  h.setAttention _ nodup_addReasonTo

theorem State.Keeps.markReported {s t : State} (h : s.Keeps t) : s.Keeps t.markReported :=
  h.setAttention _ fun hs => by simpa [attentionOnce, Function.comp_def] using hs

theorem State.Keeps.clearReported {s t : State} (h : s.Keeps t) : s.Keeps t.clearReported :=
  h.setAttention _ fun hs => by simpa [attentionOnce, Function.comp_def] using hs

theorem State.Keeps.dropReported {s t : State} (h : s.Keeps t) : s.Keeps t.dropReported :=
  h.setAttention _ fun hs => hs.sublist (List.filter_sublist.map _)

/-! ### The Send Queue (R129, R130) -/

theorem insertSend_perm (e : SendEntry) (q : List SendEntry) : (insertSend e q).Perm (e :: q) := by
  induction q with
  | nil => exact .refl _
  | cons x q ih =>
    unfold insertSend
    split
    · exact (ih.cons x).trans (.swap e x q)
    · exact .refl _

theorem mem_insertSend {e x : SendEntry} {q : List SendEntry} : x ∈ insertSend e q ↔ x = e ∨ x ∈ q := by
  rw [(insertSend_perm e q).mem_iff, List.mem_cons]

theorem pairwise_insertSend {e : SendEntry} {q : List SendEntry}
    (h : q.Pairwise (fun x y => x.notice.kind ≤ y.notice.kind)) :
    (insertSend e q).Pairwise (fun x y => x.notice.kind ≤ y.notice.kind) := by
  induction q with
  | nil => simp [insertSend]
  | cons x q ih =>
    obtain ⟨hx, hq⟩ := List.pairwise_cons.1 h
    unfold insertSend
    split
    case isTrue hle =>
      refine List.pairwise_cons.2 ⟨fun y hy => ?_, ih hq⟩
      obtain rfl | hy := mem_insertSend.1 hy
      · exact hle
      · exact hx y hy
    case isFalse hlt =>
      refine List.pairwise_cons.2 ⟨fun y hy => ?_, h⟩
      obtain rfl | hy := List.mem_cons.1 hy
      · omega
      · have := hx y hy
        omega

theorem State.noticeAt_eq_none {s : State} {p : Place} :
    s.noticeAt p = none ↔ ∀ e ∈ s.line.sendQueue, e.notice.place ≠ p := by
  simp [State.noticeAt]

theorem State.mem_of_noticeAt {s : State} {p : Place} {e : SendEntry} (h : s.noticeAt p = some e) :
    e ∈ s.line.sendQueue ∧ e.notice.place = p :=
  ⟨List.mem_of_find?_eq_some h, by simpa using List.find?_some h⟩

/-- What waits in the Send Queue after a notice is queued waited before, or is the notice. -/
theorem State.mem_queueNotice {s : State} {n : Notice} {e : SendEntry} (h : e ∈ (s.queueNotice n).line.sendQueue) :
    e = ⟨n, false⟩ ∨ e ∈ s.line.sendQueue := by
  unfold State.queueNotice at h
  split at h
  · exact .inr h
  · exact mem_insertSend.1 h

theorem State.mem_removeNotice {s : State} {p : Place} {e : SendEntry} (h : e ∈ (s.removeNotice p).line.sendQueue) :
    e ∈ s.line.sendQueue := by
  unfold State.removeNotice State.stopDriving at h
  split at h
  · exact h
  · dsimp only at h
    split at h <;> exact (List.mem_filter.1 h).1

namespace State.Keeps

variable {s t : State}

/-- A notice is queued: a HOLD is of one of the eight order slots, a DRAW-OFF of a channel returning its place. -/
theorem queueNoticeOf (h : s.Keeps t) (n : Notice) (hplace : holdPlaces s → ∀ k, n.place = .hold k → k < 8)
    (hdraw : ∀ c hd, n = .draw false c hd → (t.chan c).draw = .returning) : s.Keeps (t.queueNotice n) := by
  unfold State.queueNotice
  split
  · exact h
  case isFalse hfree =>
    have hnone := State.noticeAt_eq_none.1 (Option.not_isSome_iff_eq_none.1 hfree)
    refine h.setSendQueue _ (fun ⟨hnodup, hsorted⟩ => ⟨?_, pairwise_insertSend hsorted⟩) (fun hp e he k hk => ?_)
      fun hd e he c hd' hn => ?_
    · refine (((insertSend_perm _ _).map _).nodup_iff).2 (List.nodup_cons.2 ⟨?_, hnodup⟩)
      simpa using hnone
    · obtain rfl | he := mem_insertSend.1 he
      · exact hplace hp k hk
      · exact h.places hp e he k hk
    · obtain rfl | he := mem_insertSend.1 he
      · exact hdraw c hd' hn
      · exact hd e he c hd' hn

theorem queueNotice (h : s.Keeps t) (n : Notice) (hplace : ∀ k, n.place = .hold k → k < 8)
    (hdraw : ∀ c hd, n = .draw false c hd → (t.chan c).draw = .returning) : s.Keeps (t.queueNotice n) :=
  h.queueNoticeOf n (fun _ => hplace) hdraw

/-- A notice that is neither a HOLD nor a DRAW-OFF. -/
theorem queueOther (h : s.Keeps t) (n : Notice) (hkind : n.kind ≠ 5 := by simp [Notice.kind])
    (hdraw : ∀ c hd, n ≠ .draw false c hd := by simp) :
    s.Keeps (t.queueNotice n) :=
  h.queueNotice n (fun k hk => by cases n <;> simp_all [Notice.place, Notice.kind]) fun c hd hn => absurd hn (hdraw c hd)

theorem filterSendQueue (h : s.Keeps t) (f : SendEntry → Bool) : s.Keeps (t.setSendQueue (t.line.sendQueue.filter f)) :=
  h.setSendQueue _
    (fun hs => ⟨hs.1.sublist (List.filter_sublist.map _), hs.2.sublist List.filter_sublist⟩)
    (fun hs e he => h.places hs e (List.mem_filter.1 he).1) fun hs e he => hs e (List.mem_filter.1 he).1

theorem takeNotice (h : s.Keeps t) (p : Place) : s.Keeps (t.takeNotice p) := h.filterSendQueue _

theorem stopDriving (h : s.Keeps t) : s.Keeps t.stopDriving :=
  h.setLine _ rfl fun ⟨hrx, hrun, hfault, hbreak, _⟩ => ⟨hrx, hrun, hfault, hbreak, fun _ => rfl⟩

theorem removeNotice (h : s.Keeps t) (p : Place) : s.Keeps (t.removeNotice p) := by
  unfold State.removeNotice
  split
  · exact h
  · dsimp only
    split
    · exact h.stopDriving.takeNotice p
    · exact h.takeNotice p

theorem markBegun (h : s.Keeps t) (p : Place) : s.Keeps (t.markBegun p) := by
  have hnotice : ∀ e : SendEntry, (if e.notice.place = p then { e with begun := true } else e).notice = e.notice := by
    intro e; split <;> rfl
  refine h.setSendQueue _ (fun hs => ⟨?_, ?_⟩) (fun hs e he => ?_) fun hs e he => ?_
  · simpa only [State.setSendQueue, setLine_line, List.map_map, Function.comp_def, hnotice] using hs.1
  · simpa only [State.setSendQueue, setLine_line, List.pairwise_map, hnotice] using hs.2
  · obtain ⟨e', he', rfl⟩ := List.mem_map.1 he
    simpa only [hnotice] using h.places hs e' he'
  · obtain ⟨e', he', rfl⟩ := List.mem_map.1 he
    simpa only [hnotice, State.setSendQueue, chan_setLine] using hs e' he'

theorem queueWithdrawn (h : s.Keeps t) (ℓ : LaneId) (d : Nat) : s.Keeps (t.queueWithdrawn ℓ d) := by
  unfold State.queueWithdrawn
  split
  · exact h.modLane _ _
  · exact h.queueOther _

end State.Keeps

/-! ### The channels (chapter 4) -/

/-- A channel that is not POURING has no phase and its permit OFF (R86). -/
theorem permitFollows_of_off {ch : Channel} (hstate : ch.state ≠ .pouring) (hphase : ch.phase = none)
    (hpermit : ch.permit = .off) : permitFollows ch :=
  ⟨fun h => absurd h hstate, fun _ => ⟨hphase, hpermit⟩⟩

/-- The draw state matters to the permit in FULL alone (R86, R88). -/
theorem permitFollows_setDraw {ch : Channel} (d : DrawState) (h : permitFollows ch) (hphase : ch.phase ≠ some .full) :
    permitFollows { ch with draw := d } := by
  refine ⟨fun hstate => ?_, h.2⟩
  obtain ⟨ph, hph, hpermit, -⟩ := h.1 hstate
  exact ⟨ph, hph, hpermit, fun hfull => absurd (hfull ▸ hph) hphase⟩

theorem permitFollows.phase_ne_full {ch : Channel} (h : permitFollows ch) (hdraw : ch.draw ≠ .granted) :
    ch.phase ≠ some .full := by
  intro hfull
  by_cases hstate : ch.state = .pouring
  · obtain ⟨ph, hph, -, hgranted⟩ := h.1 hstate
    exact hdraw (hgranted (Option.some.inj (hph.symm.trans hfull)))
  · simp [(h.2 hstate).1] at hfull

/-- FULL is decided with a granted draw alone (R84). -/
theorem State.granted_of_phaseOf_full {s : State} {c : ChanId} (h : s.phaseOf c = .full) : (s.chan c).draw = .granted := by
  unfold State.phaseOf at h
  repeat' split at h
  all_goals first | simp at h; done | simpa [Channel.grant] using ‹(s.chan c).grant = true›

@[simp] theorem State.modChan_modChan (s : State) (c : ChanId) (f g : Channel → Channel) :
    (s.modChan c f).modChan c g = s.modChan c (fun ch => g (f ch)) := by
  simp [State.modChan, State.chan, State.setChan]

theorem State.setChan_chan (s : State) (c : ChanId) : s.setChan c (s.chan c) = s := by
  cases c <;> rfl

theorem State.modChan_id (s : State) (c : ChanId) : s.modChan c (fun ch => ch) = s := s.setChan_chan c

namespace State.Keeps

variable {s t : State}

/-- A change of one channel that keeps its permit in step, its place while a DRAW-OFF of it waits, and ENDED. -/
theorem modChanOf (h : s.Keeps t) (c : ChanId) (f : Channel → Channel)
    (hpermit : s.drawsSound → t.inReset = false → permitFollows (t.chan c) → permitFollows (f (t.chan c)))
    (hdraw : (∃ e ∈ t.line.sendQueue, ∃ hd, e.notice = .draw false c hd) → (t.chan c).draw = .returning →
      (f (t.chan c)).draw = .returning)
    (hended : (t.chan c).state = .ended → (f (t.chan c)).state = .ended) : s.Keeps (t.modChan c f) where
  memory := h.memory
  attention := h.attention
  queue := h.queue
  places := h.places
  line := h.line
  lists := h.lists
  pin := h.pin
  stages hs := by
    refine ⟨(h.stages hs).1, fun d => ?_⟩
    have hd := (h.stages hs).2 d
    by_cases hdc : d = c
    · subst hdc
      by_cases hst : (t.chan d).state = .ended
      · simpa [hst, hended hst] using hd
      · rw [if_neg hst] at hd
        exact hd.trans (Nat.zero_le _)
    · simpa [State.chan_modChan_ne _ _ hdc] using hd
  draws hs hr := by
    obtain ⟨hperm, hoff⟩ := h.draws hs hr
    refine ⟨fun d => ?_, fun e he d hd hn => ?_⟩
    · by_cases hdc : d = c
      · subst hdc; simpa using hpermit hs hr (hperm d)
      · simpa [State.chan_modChan_ne _ _ hdc] using hperm d
    · by_cases hdc : d = c
      · subst hdc; simpa using hdraw ⟨e, he, hd, hn⟩ (hoff e he d hd hn)
      · simpa [State.chan_modChan_ne _ _ hdc] using hoff e he d hd hn

theorem modChan (h : s.Keeps t) (c : ChanId) (f : Channel → Channel)
    (hpermit : permitFollows (t.chan c) → permitFollows (f (t.chan c)))
    (hdraw : (t.chan c).draw = .returning → (f (t.chan c)).draw = .returning)
    (hended : (t.chan c).state = .ended → (f (t.chan c)).state = .ended) : s.Keeps (t.modChan c f) :=
  h.modChanOf c f (fun _ _ => hpermit) (fun _ => hdraw) hended

/-- A change of every channel that keeps its state, its permit in step, and its place while it returns it. -/
theorem mapChannels (h : s.Keeps t) (f : Channel → Channel) (hstate : ∀ ch, (f ch).state = ch.state)
    (hpermit : ∀ ch, permitFollows ch → permitFollows (f ch))
    (hdraw : ∀ ch, ch.draw = .returning → (f ch).draw = .returning) :
    s.Keeps { t with channels := t.channels.map f } where
  memory := h.memory
  attention := h.attention
  queue := h.queue
  places := h.places
  line := h.line
  lists := h.lists
  pin := h.pin
  stages hs := by
    refine ⟨(h.stages hs).1, fun c => ?_⟩
    have hst : (({ t with channels := t.channels.map f } : State).chan c).state = (t.chan c).state := by
      simp [State.chan, hstate]
    rw [hst]
    exact (h.stages hs).2 c
  draws hs hr := by
    obtain ⟨hperm, hoff⟩ := h.draws hs hr
    exact ⟨fun c => by simpa [State.chan] using hpermit _ (hperm c),
      fun e he c hd hn => by simpa [State.chan] using hdraw _ (hoff e he c hd hn)⟩

/-- A change of the channel's counts and timers. -/
theorem modCounts (h : s.Keeps t) (c : ChanId) (f : Channel → Channel) (hstate : (f (t.chan c)).state = (t.chan c).state)
    (hphase : (f (t.chan c)).phase = (t.chan c).phase) (hpermit : (f (t.chan c)).permit = (t.chan c).permit)
    (hdraw : (f (t.chan c)).draw = (t.chan c).draw) : s.Keeps (t.modChan c f) :=
  h.modChan c f (fun hp => by simpa only [permitFollows, hstate, hphase, hpermit, hdraw] using hp) (hdraw ▸ ·)
    (hstate ▸ ·)

/-- A change of the draw state outside FULL; RETURNING is left when the DRAW-OFF is sent whole alone. -/
theorem setDraw (h : s.Keeps t) (c : ChanId) (d : DrawState) (hfull : permitFollows (t.chan c) → (t.chan c).phase ≠ some .full)
    (hreturning : (t.chan c).draw ≠ .returning ∨ d = .returning) : s.Keeps (t.modChan c (fun ch => { ch with draw := d })) :=
  h.modChan c _ (fun hp => permitFollows_setDraw d hp (hfull hp)) (fun hd => hreturning.resolve_left (not_not.2 hd)) id

theorem offerOne (h : s.Keeps t) (hd : Nat) (c : ChanId) : s.Keeps (State.offerOne hd t c) := by
  unfold State.offerOne
  split
  case isTrue hoffer =>
    have hwants : (t.chan c).draw = .none := by
      simp only [Channel.wantsDraw, Bool.and_eq_true, beq_iff_eq] at hoffer
      exact hoffer.1.1.2.2
    exact (h.queueOther _).setDraw c _ (fun hp => by simpa using hp.phase_ne_full (by simp [hwants]))
      (.inl (by simp [hwants]))
  · exact h

theorem offerRound (h : s.Keeps t) (hd : Nat) : s.Keeps (t.offerRound hd) :=
  foldl _ (fun _ c h => h.offerOne hd c) _ h

theorem reportFalls (h : s.Keeps t) (before : State) : s.Keeps (State.reportFalls before t) := by
  refine foldl _ (fun u hd h => ?_) _ h
  split
  · exact h.offerRound hd
  · exact h

theorem returnDraw (h : s.Keeps t) (c : ChanId) (hfull : permitFollows (t.chan c) → (t.chan c).phase ≠ some .full) :
    s.Keeps (t.returnDraw c) := by
  have h1 := h.setDraw c .returning hfull (.inr rfl)
  unfold State.returnDraw
  dsimp only
  split
  · exact h1
  · exact (h1.removeNotice _).queueNotice _ nofun fun d hd hn => by cases hn; simp

theorem giveUpDraw (h : s.Keeps t) (c : ChanId) (hfull : (t.chan c).phase ≠ some .full) : s.Keeps (t.giveUpDraw c) := by
  unfold State.giveUpDraw
  split
  case h_3 hasked =>
    split
    · exact h.setDraw c _ (fun _ => hfull) (.inr rfl)
    · exact (h.removeNotice _).setDraw c _ (fun _ => by simpa using hfull) (.inl (by simp [hasked]))
  all_goals first | exact h.returnDraw c fun _ => hfull | exact h

/-- A channel is POURING, or becomes so, and its phase is decided (R84). -/
theorem decidePhase (h : s.Keeps t) (c : ChanId) (f : Channel → Channel) (hstate : (f (t.chan c)).state = .pouring)
    (hdraw : (f (t.chan c)).draw = (t.chan c).draw) (hended : (t.chan c).state ≠ .ended) :
    s.Keeps ((t.modChan c f).decidePhase c) := by
  have h1 : s.Keeps ((t.modChan c f).modChan c (fun ch =>
      { ch with phase := some ((t.modChan c f).phaseOf c), permit := ((t.modChan c f).phaseOf c).level })) := by
    rw [State.modChan_modChan]
    refine h.modChan c _ (fun _ => ⟨fun _ => ⟨_, rfl, ?_, fun hfull => ?_⟩, fun hne => absurd hstate hne⟩)
      (fun hd => hdraw.trans hd) fun he => absurd he hended
    · cases (t.modChan c f).phaseOf c <;> rfl
    · simpa using State.granted_of_phaseOf_full hfull
  unfold State.decidePhase
  dsimp only
  split
  · exact h1
  split
  · exact h1.offerRound _
  split
  case isTrue hnew => exact (h1.giveUpDraw c (by simpa using hnew.1)).reportFalls _
  · exact h1

theorem suspend (h : s.Keeps t) (c : ChanId) (hstate : (t.chan c).state = .pouring) : s.Keeps (t.suspend c) := by
  have h1 := h.modChan c (fun ch => { ch with state := .suspended, phase := none, permit := .off })
    (fun _ => permitFollows_of_off nofun rfl rfl) id (fun he => by simp [hstate] at he)
  exact ((h1.giveUpDraw c (by simp)).modCounts c _ rfl rfl rfl rfl).attend _

theorem applyCauses (h : s.Keeps t) : s.Keeps t.applyCauses := by
  refine (foldl _ (fun u c h => ?_) _ h).reportFalls _
  unfold State.suspendIfStanding
  split
  case isTrue hc => exact h.suspend c hc.1
  · exact h

theorem settlePour (h : s.Keeps t) (e : EndStatus) (c : ChanId) : s.Keeps (State.settlePour e t c) := by
  unfold State.settlePour
  split
  case isTrue hruns =>
    have h1 := h.modChan c (fun ch => { ch with state := .settling, phase := none, permit := .off })
      (fun _ => permitFollows_of_off nofun rfl rfl) id (fun he => by simp [he] at hruns)
    exact (h1.giveUpDraw c (by simp)).modCounts c _ rfl rfl rfl rfl
  · exact h

theorem endPour (h : s.Keeps t) (c : ChanId) (e : EndStatus) : s.Keeps (t.endPour c e) :=
  (h.settlePour e c).reportFalls _

/-- An ARMED channel returns to IDLE. -/
theorem idleArmed (h : s.Keeps t) (c : ChanId) (hstate : (t.chan c).state = .armed) : s.Keeps (t.idleChannel c) :=
  h.modChan c _
    (fun hp => permitFollows_of_off (by simp) (hp.2 (by simp [hstate])).1 (hp.2 (by simp [hstate])).2) id
    (fun he => by simp [hstate] at he)

/-- A channel in ENDED none of whose stages waits returns to IDLE (R100). -/
theorem idleEnded (h : s.Keeps t) (c : ChanId) (hstate : (t.chan c).state = .ended)
    (hqueue : stagesBounded s → t.log.queue.countP (fun w => w.owner == .channel c) = 0) :
    s.Keeps (t.idleChannel c) where
  memory := h.memory
  attention := h.attention
  queue := h.queue
  places := h.places
  line := h.line
  lists := h.lists
  pin := h.pin
  stages hs := by
    refine ⟨(h.stages hs).1, fun d => ?_⟩
    by_cases hdc : d = c
    · subst hdc
      exact (hqueue hs).trans_le (Nat.zero_le _)
    · simpa [State.idleChannel, State.chan_modChan_ne _ _ hdc] using (h.stages hs).2 d
  draws hs hr := by
    obtain ⟨hperm, hoff⟩ := h.draws hs hr
    refine ⟨fun d => ?_, fun e he d hd hn => ?_⟩
    · by_cases hdc : d = c
      · subst hdc
        obtain ⟨hphase, hpermit⟩ := (hperm d).2 (by simp [hstate])
        rw [State.idleChannel, State.chan_modChan_same]
        exact permitFollows_of_off (by simp) hphase hpermit
      · simpa [State.idleChannel, State.chan_modChan_ne _ _ hdc] using hperm d
    · by_cases hdc : d = c
      · subst hdc; simpa [State.idleChannel] using hoff e he d hd hn
      · simpa [State.idleChannel, State.chan_modChan_ne _ _ hdc] using hoff e he d hd hn

end State.Keeps

end Sys2Proof.Machine

namespace Sys2Proof.Machine

/-! ### The Log Write Queue (R19, R177) -/

/-- A lane's outcome stage leaves the queue, the others staying in their order. -/
theorem DeliveryLog.withdrawn_sublist (l : DeliveryLog) (f : StageWrite → Bool) :
    ((if l.writingStage then l.queue.take 1 else []) ++ l.unbegun.filter f).Sublist l.queue := by
  unfold DeliveryLog.unbegun
  split
  · conv_rhs => rw [← List.take_append_drop 1 l.queue]
    exact (List.Sublist.refl _).append List.filter_sublist
  · exact List.filter_sublist

/-- A lane whose next stage can be queued has at most one pending (R19). -/
theorem State.pendingStages_le_one {s : State} {ℓ : LaneId} (h : ¬ s.stagesFull ℓ = true) : s.pendingStages ℓ ≤ 1 := by
  simp only [State.stagesFull, Bool.or_eq_true, decide_eq_true_eq, not_or] at h
  omega

namespace State.Keeps

variable {s t : State}

/-- The Log Write Queue loses stages, or stays. -/
theorem setLogQueue (h : s.Keeps t) (x : DeliveryLog) (hqueue : x.queue.Sublist t.log.queue)
    (hx : memoryCanonical t → memoryWf x.memory) : s.Keeps (t.setLog x) :=
  ⟨⟨hx ∘ h.memory, h.attention, h.queue, h.places, h.line, h.lists, fun hs =>
    ⟨fun ℓ => hqueue.countP_le.trans ((h.stages hs).1 ℓ), fun c => hqueue.countP_le.trans ((h.stages hs).2 c)⟩⟩, h.draws,
    h.pin⟩

/-- A stage joins the queue where its owner has room. -/
theorem enqueueStage (h : s.Keeps t) (w : StageWrite)
    (hlane : ∀ ℓ, w.owner = .lane ℓ → stagesBounded s → t.log.queue.countP (fun x => x.owner == .lane ℓ) ≤ 1)
    (hchan : ∀ c, w.owner = .channel c → (t.chan c).state = .ended ∧
      (stagesBounded s → t.log.queue.countP (fun x => x.owner == .channel c) = 0)) : s.Keeps (t.enqueueStage w) where
  memory := h.memory
  attention := h.attention
  queue := h.queue
  places := h.places
  line := h.line
  lists := h.lists
  draws := h.draws
  pin := h.pin
  stages hs := by
    have hcount (o : Owner) : (t.enqueueStage w).log.queue.countP (fun x => x.owner == o) =
        t.log.queue.countP (fun x => x.owner == o) + if w.owner = o then 1 else 0 := by
      simp [State.enqueueStage, List.countP_append, List.countP_cons]
    refine ⟨fun ℓ => ?_, fun c => ?_⟩ <;> rw [hcount]
    · by_cases hw : w.owner = .lane ℓ
      · have := hlane ℓ hw hs
        simp only [hw, if_true]
        omega
      · simpa [hw] using (h.stages hs).1 ℓ
    · by_cases hw : w.owner = .channel c
      · obtain ⟨hended, hnone⟩ := hchan c hw
        simp [hw, hnone hs, show ((t.enqueueStage w).chan c).state = .ended from hended]
      · rw [if_neg hw]
        exact (h.stages hs).2 c

theorem enqueueLane (h : s.Keeps t) (ℓ : LaneId) (slot seq : Nat) (st : Stage)
    (hroom : stagesBounded s → t.log.queue.countP (fun x => x.owner == .lane ℓ) ≤ 1) :
    s.Keeps (t.enqueueStage ⟨slot, seq, st, .lane ℓ⟩) :=
  h.enqueueStage _ (fun ℓ' hℓ => by cases hℓ; exact hroom) fun c hc => by cases hc

theorem handStage (h : s.Keeps t) (ℓ : LaneId) (st : Stage) : s.Keeps (t.handStage ℓ st) := by
  unfold State.handStage
  split
  · exact h
  split
  · exact h.modLane _ _
  case isFalse hfull =>
    exact h.enqueueLane ℓ _ _ st fun _ => State.pendingStages_le_one hfull

/-- The backlog is passed on once a stage of the lane has left the queue. -/
theorem passBacklog (h : s.Keeps t) (ℓ : LaneId)
    (hroom : stagesBounded s → t.log.queue.countP (fun x => x.owner == .lane ℓ) ≤ 1) : s.Keeps (t.passBacklog ℓ) := by
  unfold State.passBacklog
  split
  · exact h
  · exact (h.modLane _ _).enqueueLane ℓ _ _ _ hroom

theorem withdrawOutcome (h : s.Keeps t) (ℓ : LaneId) : s.Keeps (t.withdrawOutcome ℓ) :=
  h.setLogQueue _ (t.log.withdrawn_sublist _) id

/-! ### The slot table -/

theorem setSlot (h : s.Keeps t) (p : Nat) (e : SlotEntry) : s.Keeps (t.setLog (t.log.setSlot p e)) :=
  h.setLog _ rfl id

theorem lowCheck (h : s.Keeps t) (before : State) : s.Keeps (State.lowCheck before t) := by
  unfold State.lowCheck
  split
  · exact h.attend _
  · exact h

theorem reserve (h : s.Keeps t) : s.Keeps t.reserve.1 := by
  refine lowCheck (h.setLog _ ?_ ?_) _
  · rfl
  · exact id

theorem leaveSlot (h : s.Keeps t) (p seq : Nat) : s.Keeps (t.leaveSlot p seq) := by
  unfold State.leaveSlot
  repeat' split
  all_goals first | exact h.setSlot _ _ | exact h

theorem abandonWrite (h : s.Keeps t) : s.Keeps t.abandonWrite := by
  unfold State.abandonWrite
  split
  · split
    · exact nextFree (h.setLog _ (by rfl) (by exact scanCut_wf _ _ _))
    · exact h
  · exact h.setLog _ rfl id
  · split
    · exact h.setLog _ rfl id
    · exact nextFree (h.setLog _ (by rfl) (by exact cutAreas_wf _ _))

theorem trim (h : s.Keeps t) (gone : List (Nat × SlotEntry)) : s.Keeps (t.trim gone) := by
  have hfree : ∀ (g : List (Nat × SlotEntry)) (l : DeliveryLog),
      (l.freeSlotsOf g).queue = l.queue ∧ (l.freeSlotsOf g).memory = l.memory := by
    intro g
    induction g with
    | nil => exact fun l => ⟨rfl, rfl⟩
    | cons p g ih => exact fun l => ih (l.setSlot p.1 .free)
  unfold State.trim
  split
  · exact h
  · exact h.setLog _ (hfree _ _).1 fun hm => by rw [show _ = t.log.memory from (hfree gone t.log).2]; exact hm

/-! ### Hold members and the duty timer (R15, R68) -/

theorem setResult (h : s.Keeps t) (ℓ : LaneId) (e : ResultEvent) (o : ResultOutcome) : s.Keeps (t.setResult ℓ e o) :=
  (h.modLane _ _).attend _

theorem joinFindings (h : s.Keeps t) (ℓ : LaneId) (fs : List Finding) : s.Keeps (t.joinFindings ℓ fs) := h.modRecord _ _

theorem setHold (h : s.Keeps t) (ℓ : LaneId) (m : HoldMember) (f : Finding) : s.Keeps (t.setHold ℓ m f) := by
  have h1 := ((h.modLane ℓ (fun l => { l with holds := l.holds.put m true })).joinFindings ℓ [f]).attend (.holdSet ℓ)
  unfold State.setHold
  dsimp only
  repeat' split
  all_goals first | exact h1.applyCauses | exact h1 | exact h

theorem clearHold (h : s.Keeps t) (ℓ : LaneId) (m : HoldMember) : s.Keeps (t.clearHold ℓ m) := h.modLane _ _

theorem stopTimer (h : s.Keeps t) (ℓ : LaneId) : s.Keeps (t.stopTimer ℓ) := h.modLane _ _

theorem armTimer (h : s.Keeps t) (ℓ : LaneId) (r : DutyResult) : s.Keeps (t.armTimer ℓ r) := by
  have h1 := h.modLane ℓ (fun l => { l with dutyTimer := some ⟨r.latest, r.setBy, t.dutyNearAt r.latest⟩ })
  have h2 := (h1.attend (.dutyNear ℓ)).ite (c := t.dutyNearAt r.latest = true) h1
  exact ((h2.setHold _ _ _).modLane _ _).ite h2

/-! ### Contests and claims (R10 to R14, R21, R155) -/

theorem placeContest (h : s.Keeps t) (ℓ : LaneId) (d : Nat) : s.Keeps (t.placeContest ℓ d) := h.queueOther _

theorem queueContest (h : s.Keeps t) (ℓ : LaneId) (d : Nat) : s.Keeps (t.queueContest ℓ d) := by
  unfold State.queueContest
  repeat' split
  all_goals first | exact h.placeContest _ _ | exact h.modLane _ _ | exact h

theorem queueOwedContest (h : s.Keeps t) (ℓ : LaneId) : s.Keeps (t.queueOwedContest ℓ) := by
  unfold State.queueOwedContest
  dsimp only
  repeat' split
  all_goals first | exact (h.modLane _ _).placeContest _ _ | exact h.modLane _ _ | exact h

theorem dropContest (h : s.Keeps t) (ℓ : LaneId) (d : Nat) : s.Keeps (t.dropContest ℓ d) := by
  unfold State.dropContest
  dsimp only
  repeat' split
  all_goals first
    | exact ((h.removeNotice _).modLane _ _).queueOwedContest _
    | exact (h.modLane _ _).queueOwedContest _
    | exact h

theorem testClaim (h : s.Keeps t) (ℓ : LaneId) : s.Keeps (t.testClaim ℓ) := by
  unfold State.testClaim
  repeat' split
  all_goals first | exact (h.queueOther _).modLane _ _ | exact h

theorem removeClaim (h : s.Keeps t) (ℓ : LaneId) (c : Claim) (pure : Bool) : s.Keeps (t.removeClaim ℓ c pure) := by
  unfold State.removeClaim
  repeat' split
  all_goals first | exact h.removeNotice _ | exact h.modLane _ _ | exact h

theorem withdrawClaim (h : s.Keeps t) (ℓ : LaneId) (o : ResultOutcome) : s.Keeps (t.withdrawClaim ℓ o) := by
  unfold State.withdrawClaim
  split
  · exact h
  case h_2 c _ =>
    have h1 := h.removeClaim ℓ c false
    exact (((((h1.queueWithdrawn ℓ c.driver).ite h1).setSlot _ _).modLane _ _).setResult _ _ _).dropContest _ _

theorem endReclaim (h : s.Keeps t) (ℓ : LaneId) : s.Keeps (t.endReclaim ℓ) := by
  unfold State.endReclaim
  split
  · exact h
  case h_2 r _ =>
    have h1 := h.removeClaim ℓ r.claim ((t.lane ℓ).driver? == some r.claim.driver)
    exact (((h1.queueWithdrawn ℓ r.claim.driver).ite h1).modLane _ _).dropContest _ _

theorem failReclaim (h : s.Keeps t) (ℓ : LaneId) : s.Keeps (t.failReclaim ℓ) := (h.endReclaim ℓ).setResult _ _ _

/-! ### The way out of CLOSING (R26 to R30) -/

theorem handVoided (h : s.Keeps t) (ℓ : LaneId) : s.Keeps (t.handVoided ℓ) := by
  unfold State.handVoided
  repeat' split
  all_goals first | exact (h.modLane _ _).handStage _ _ | exact h

theorem leaveClosing (h : s.Keeps t) (ℓ : LaneId) (c : Closing) (r : LoadRecord) : s.Keeps (t.leaveClosing ℓ c r) := by
  have h1 := (h.modLane ℓ (fun l => { l with dispatch := true, pulse := some Config.pulseMs })).ite
    (c := c.outcome = .released) h
  exact ((((h1.queueOther _).leaveSlot _ _).modLane _ _).setResult _ _ _).dropContest _ _

theorem testClosing (h : s.Keeps t) (ℓ : LaneId) : s.Keeps (t.testClosing ℓ) := by
  unfold State.testClosing
  dsimp only
  repeat' split
  all_goals first | exact (h.handVoided ℓ).leaveClosing _ _ _ | exact h.handVoided ℓ

theorem returnToLoading (h : s.Keeps t) (ℓ : LaneId) : s.Keeps (t.returnToLoading ℓ) := by
  unfold State.returnToLoading
  dsimp only
  repeat' split
  all_goals first | exact (h.modLane _ _).armTimer _ _ | exact h.modLane _ _

theorem finishChannel (h : s.Keeps t) (c : ChanId) (hstate : (t.chan c).state = .ended)
    (hqueue : stagesBounded s → t.log.queue.countP (fun w => w.owner == .channel c) = 0) : s.Keeps (t.finishChannel c) := by
  unfold State.finishChannel
  split
  · exact (h.idleEnded c hstate hqueue).testClosing _
  · exact h.idleEnded c hstate hqueue

theorem finishIfEnded (h : s.Keeps t) (c : ChanId)
    (hqueue : stagesBounded s → t.log.queue.countP (fun w => w.owner == .channel c) = 0) : s.Keeps (t.finishIfEnded c) := by
  unfold State.finishIfEnded
  split
  case isTrue hstate => exact h.finishChannel c hstate hqueue
  · exact h

theorem laneLogFault (h : s.Keeps t) (ℓ : LaneId) : s.Keeps (t.laneLogFault ℓ) := by
  unfold State.laneLogFault
  dsimp only
  repeat' split
  all_goals first | exact ((h.modLane _ _).returnToLoading _).setResult _ _ _ | exact h.modLane _ _

end State.Keeps

/-! ### In LOG_FAULT no stage is produced (R180) -/

/-- The log is in LOG_FAULT, and but for the slot table it is `l`. -/
def State.faulted (s : State) (l : DeliveryLog) : Prop := s.log.state = .logFault ∧ s.log = { l with table := s.log.table }

namespace State.faulted

variable {s : State} {l : DeliveryLog}

theorem congr {t : State} (h : s.faulted l) (hlog : t.log = s.log) : t.faulted l := by
  unfold State.faulted
  rw [hlog]
  exact h

theorem queue (h : s.faulted l) : s.log.queue = l.queue := by rw [h.2]

theorem handVoided (h : s.faulted l) (ℓ : LaneId) : s.handVoided ℓ = s := by
  unfold State.handVoided
  split <;> simp [h.1]

theorem leaveSlot (h : s.faulted l) (p n : Nat) : (s.leaveSlot p n).faulted l := by
  unfold State.leaveSlot
  split
  · split <;> exact ⟨h.1, by rw [h.2]; rfl⟩
  · exact h

theorem leaveClosing (h : s.faulted l) (ℓ : LaneId) (c : Closing) (r : LoadRecord) : (s.leaveClosing ℓ c r).faulted l := by
  have h1 : ((if c.outcome = .released then
      s.modLane ℓ (fun l => { l with dispatch := true, pulse := some Config.pulseMs }) else s).queueNotice
      (.release ℓ .endOfLoad r.current.driver c.figures)).faulted l := h.congr (by split <;> simp)
  exact (h1.leaveSlot r.slot r.seq).congr (by unfold State.leaveClosing; simp)

theorem testClosing (h : s.faulted l) (ℓ : LaneId) : (s.testClosing ℓ).faulted l := by
  unfold State.testClosing
  rw [h.handVoided ℓ]
  dsimp only
  repeat' split
  all_goals first | exact h.leaveClosing _ _ _ | exact h

theorem finishIfEnded (h : s.faulted l) (c : ChanId) : (s.finishIfEnded c).faulted l := by
  have hidle : (s.idleChannel c).faulted l := h.congr (by simp)
  unfold State.finishIfEnded State.finishChannel
  repeat' split
  all_goals first | exact hidle.testClosing _ | exact h

theorem laneLogFault (h : s.faulted l) (ℓ : LaneId) : (s.laneLogFault ℓ).faulted l := h.congr (by simp)

end State.faulted

/-- The state in which the blocks learn of LOG_FAULT: nothing is written and nothing waits (R180). -/
def State.stopLog (s : State) : State :=
  s.setLog { s.log with state := .logFault, queue := [], writing := none, pendingMark := none }

theorem State.stopLog_faulted (s : State) : s.stopLog.faulted s.stopLog.log := ⟨rfl, rfl⟩

theorem State.enterLogFault_eq (s : State) :
    s.enterLogFault = (((ChanId.all.foldl State.finishIfEnded ((s.stopLog.laneLogFault .a).laneLogFault .b)).testClosing
      .a).testClosing .b).attend .logFault := rfl

namespace State.Keeps

variable {s t : State}

theorem enterLogFault (h : s.Keeps t) : s.Keeps t.enterLogFault := by
  have h1 : s.Keeps t.stopLog := h.setLogQueue _ (List.nil_sublist _) id
  have hfold : ∀ (cs : List ChanId) (u : State), s.Keeps u → u.faulted t.stopLog.log →
      s.Keeps (cs.foldl State.finishIfEnded u) := by
    intro cs
    induction cs with
    | nil => exact fun u hu _ => hu
    | cons c cs ih =>
      exact fun u hu hf => ih _ (hu.finishIfEnded c fun _ => by rw [hf.queue]; rfl) (hf.finishIfEnded c)
  rw [State.enterLogFault_eq]
  exact ((((hfold _ _ ((h1.laneLogFault .a).laneLogFault .b)
    ((t.stopLog_faulted.laneLogFault .a).laneLogFault .b)).testClosing .a).testClosing .b)).attend _

/-! ### Matching holds and the watch (R120, R122) -/

theorem matchLane (h : s.Keeps t) (ℓ : LaneId) : s.Keeps (t.matchLane ℓ) := by
  have horder : s.Keeps (t.orderReachesClosing ℓ) := by
    unfold State.orderReachesClosing
    split
    · exact (((h.withdrawOutcome ℓ).returnToLoading ℓ).setHold _ _ _).setResult _ _ _
    · exact h
  unfold State.matchLane
  dsimp only
  repeat' split
  all_goals first | exact h | exact horder | exact h.setHold _ _ _ | exact h.clearHold _ _

theorem matchLanes (h : s.Keeps t) : s.Keeps t.matchLanes := (h.matchLane .a).matchLane .b

theorem matchWatch (h : s.Keeps t) (d : Nat) (v : Option Nat) (l : Latch) : s.Keeps (t.matchWatch d v l) := by
  unfold State.matchWatch
  repeat' split
  all_goals first
    | exact h
    | (refine attend (h.setLists _ ?_ ?_) _
       · exact id
       · exact fun _ => Nat.min_le_right _ _)

theorem matchOwn (h : s.Keeps t) (ℓ : LaneId) (d v : Nat) (e : WatchEvent) : s.Keeps (t.matchOwn ℓ d v e) := by
  unfold State.matchOwn
  dsimp only
  repeat' split
  all_goals first | exact (h.matchWatch _ _ _).setHold _ _ _ | exact h.matchWatch _ _ _

/-! ### Requests -/

theorem acceptCheckIn (h : s.Keeps t) (ℓ : LaneId) (x : CheckInFields) : s.Keeps (t.acceptCheckIn ℓ x) :=
  (((h.reserve.modLane _ _).matchLane _).matchOwn _ _ _ _).testClaim _

theorem acceptReDriver (h : s.Keeps t) (ℓ : LaneId) (d : Nat) (f : FigureSet) : s.Keeps (t.acceptReDriver ℓ d f) :=
  ((h.modLane _ _).matchOwn _ _ _ _).testClaim _

theorem acceptVoid (h : s.Keeps t) (ℓ : LaneId) : s.Keeps (t.acceptVoid ℓ) := by
  refine ((foldl _ (fun u c h => ?_) _ (((h.endReclaim ℓ).modLane _ _).modLane _ _)).reportFalls _).testClosing _
  unfold State.voidChannel
  repeat' split
  all_goals first | exact h.idleArmed _ ‹_› | exact h.settlePour _ _ | exact h

theorem acceptArm (h : s.Keeps t) (c : ChanId) (ℓ : LaneId) (n : Nat) (q : Nat × Int × Nat)
    (hstate : (t.chan c).state = .idle) : s.Keeps (t.acceptArm c ℓ n q) :=
  h.modChan c _
    (fun hp => permitFollows_of_off (by simp) (hp.2 (by simp [hstate])).1 (hp.2 (by simp [hstate])).2) id
    (fun he => by simp [hstate] at he)

theorem startPouring (h : s.Keeps t) (c : ChanId) (hstate : (t.chan c).state ≠ .ended) : s.Keeps (t.startPouring c) :=
  h.decidePhase c _ rfl rfl hstate

theorem acceptHoldIssue (h : s.Keeps t) (n : Nat) (kind : KeyKind) (key reason : Nat) (hn : n < 8)
    (hroom : t.lists.holds.length < Config.holdMax) : s.Keeps (t.acceptHoldIssue n kind key reason) := by
  have h1 := h.setLists { t.lists.setOrder n (.active kind key reason) with
    holds := t.lists.holds ++ [⟨t.unit.address, n, kind, key, reason, false, 0⟩] }
    (fun _ => by rw [List.length_append]; exact hroom) id
  exact (h1.queueNotice (.hold true n kind key reason) (by rintro k ⟨⟩; exact hn) nofun).matchLanes

theorem acceptHoldCancel (h : s.Keeps t) (n : Nat) (kind : KeyKind) (key reason : Nat) (hn : n < 8) :
    s.Keeps (t.acceptHoldCancel n kind key reason) := by
  have h1 := (h.setLists (t.lists.dropHold t.unit.address n) (List.length_filter_le _ _).trans id).matchLanes
  exact (((h1.setLists _ (by exact id) (by exact id)).removeNotice _).queueNotice (.hold false n kind key reason)
    (by rintro k ⟨⟩; exact hn) nofun)

theorem queueStop (h : s.Keeps t) : s.Keeps t.queueStop := by
  unfold State.queueStop
  split
  · exact h
  · exact h.queueOther _

theorem setOwnStop (h : s.Keeps t) : s.Keeps t.setOwnStop := h.setLists _ id id

theorem enterJoining (h : s.Keeps t) : s.Keeps t.enterJoining := by
  have h1 := ((h.setUnit { t.unit with state := .joining }).setView { t.view with
    refresh := some t.refreshMs
    resync := some (2 * t.refreshMs)
    joining := some (2 * t.refreshMs) }).queueOther .status
  unfold State.enterJoining
  dsimp only
  split
  · exact h1.setOwnStop.queueStop
  · exact h1

/-- An owner that accepts a request keeps the invariants. -/
theorem accepts (h : s.Keeps t) {r : Request} {u : State} (ha : r.Accepts t u) : s.Keeps u := by
  cases r with
  | checkIn => obtain ⟨ℓ, x, rfl⟩ := ha; exact h.acceptCheckIn _ _
  | reDriver => obtain ⟨ℓ, d, f, rfl⟩ := ha; exact h.acceptReDriver _ _ _
  | paperEntry => obtain ⟨ℓ, f, rfl⟩ := ha; exact h.modRecord _ _
  | paperDelete => obtain ⟨ℓ, f, rfl⟩ := ha; exact h.modRecord _ _
  | papersClose =>
    obtain ⟨ℓ, fs, f, rfl⟩ | ⟨ℓ, st, d, f, g, rfl⟩ := ha
    · exact (h.modLane _ _).joinFindings _ _
    · exact (((h.modLane _ _).modLane _ _).handStage _ _).armTimer _ _
  | amend =>
    obtain ⟨ℓ, fs, rfl⟩ | ⟨ℓ, st, f, rfl⟩ := ha
    · exact h.joinFindings _ _
    · exact (h.modLane _ _).handStage _ _
  | release =>
    obtain ⟨ℓ, fs, rfl⟩ | ⟨ℓ, st, f, rfl⟩ := ha
    · exact h.joinFindings _ _
    · exact (h.modLane _ _).handStage _ _
  | void =>
    obtain ⟨ℓ, rfl⟩ | ⟨ℓ, rfl⟩ := ha
    · exact h.withdrawClaim _ _
    · exact h.acceptVoid _
  | unholdWatch => obtain ⟨ℓ, rfl⟩ := ha; exact h.clearHold _ _
  | pourArm => obtain ⟨c, ℓ, n, q, hidle, rfl⟩ := ha; exact h.acceptArm _ _ _ _ hidle
  | pourStop =>
    obtain ⟨c, harmed, rfl⟩ | ⟨c, rfl⟩ := ha
    · exact h.idleArmed _ harmed
    · exact h.endPour _ _
  | pourResume => obtain ⟨c, hsusp, rfl⟩ := ha; exact h.startPouring c (by simp [hsusp])
  | holdIssue => obtain ⟨n, kind, key, reason, hn, hroom, rfl⟩ := ha; exact h.acceptHoldIssue _ _ _ _ hn hroom
  | holdCancel => obtain ⟨n, kind, key, reason, hn, rfl⟩ := ha; exact h.acceptHoldCancel _ _ _ _ hn
  | holdDrop =>
    obtain ⟨origin, n, rfl⟩ := ha
    exact (h.setLists (t.lists.dropHold origin n) (List.length_filter_le _ _).trans id).matchLanes
  | stopDrop => obtain ⟨a, rfl⟩ := ha; exact h.setLists _ id id
  | watchSet => obtain ⟨w, rfl⟩ := ha; exact h.setLists _ id fun _ => Nat.zero_le _
  | watchClear => subst ha; exact h.setLists _ id id
  | readLane => subst ha; exact h
  | readChannel => subst ha; exact h
  | readPeers => subst ha; exact h
  | readAttention => subst ha; exact h.markReported
  | readLog => exact ha.elim
  | readCause => subst ha; exact h.setUnit _
  | trimLog => obtain ⟨gone, rfl⟩ := ha; exact h.trim _
  | configure => obtain ⟨u, rfl⟩ := ha; exact (h.setUnit _).enterJoining
  | restart => subst ha; exact h.setPort _

theorem replied (h : s.Keeps t) {r : Request} {p : State × Reply} (hp : Replied t (r.Accepts t) p) : s.Keeps p.1 := by
  cases hp with
  | refused => exact h
  | ok u body ha => exact h.accepts ha
  | findings ℓ u fs ha => exact h.accepts ha

theorem serve (h : s.Keeps t) (r : Request) (ops : List Byte) : s.Keeps (serve r ops t).1 := by
  unfold Machine.serve
  split
  · exact h
  by_cases hr : r = .readLog
  · subst hr
    simp only [askOwner, ownReadLog]
    split
    · exact h.setPort _
    · exact h
  · obtain ⟨p, hp, hreplied⟩ := askOwner_replied ops t r hr
    rw [hp]
    exact h.replied hreplied

theorem carryOut (h : s.Keeps t) (r : Request) (ops : List Byte) : s.Keeps (t.carryOut r ops) := by
  have h1 := h.serve r ops
  unfold State.carryOut
  split
  case h_1 hserve => rw [hserve] at h1; exact h1.setPort _
  case h_2 hserve => rw [hserve] at h1; exact h1.setPort _

theorem takeRequest (h : s.Keeps t) (r : Request) (ops : List Byte) (k : CheckWord) :
    s.Keeps (t.takeRequest r ops k) := by
  unfold State.takeRequest
  repeat' split
  all_goals first | exact h | exact h.setPort _ | exact (h.setPort _).setPort _ | exact h.carryOut _ _

end State.Keeps

end Sys2Proof.Machine

namespace Sys2Proof.Machine

/-! ### The Released-Driver Table (R57 to R59) -/

theorem earliest_mem (e : Nat × FigureSet) (rest : List (Nat × FigureSet)) : earliest e rest ∈ e :: rest := by
  induction rest generalizing e with
  | nil => simp [earliest]
  | cons x rest ih =>
    have h : earliest e (x :: rest) = earliest (if displacedBefore x e then x else e) rest := rfl
    rw [h]
    split
    · exact List.mem_cons_of_mem _ (ih x)
    · obtain h | h := List.mem_cons.1 (ih e)
      · rw [h]
        exact List.mem_cons_self
      · exact List.mem_cons_of_mem _ (List.mem_cons_of_mem _ h)

/-- The table never holds more than 32 entries (R57). -/
theorem storeReleased_length_le (d : Nat) (f : FigureSet) (table : List (Nat × FigureSet)) (h : table.length ≤ 32) :
    (storeReleased d f table).length ≤ 32 := by
  unfold storeReleased
  split
  · simpa using h
  split
  case isTrue hroom =>
    rw [List.length_append]
    exact hroom
  cases table with
  | nil => simp
  | cons e rest =>
    dsimp only
    split
    · exact h
    · have hout := earliest_mem e rest
      have hlt := List.length_filter_lt_length_iff_exists (p := fun x => x.1 != (earliest e rest).1)|>.2
        ⟨_, hout, by simp⟩
      rw [List.length_append, List.length_singleton]
      omega

namespace State.Keeps

variable {s t : State}

/-! ### The channels' events -/

theorem countPulse (h : s.Keeps t) (c : ChanId) : s.Keeps (t.countPulse c) := by
  have h1 := h.modCounts c (fun ch => { ch with pulses := min (ch.pulses + 1) Config.pulseMax }) rfl rfl rfl rfl
  unfold State.countPulse State.addMetered
  dsimp only
  split
  · exact h1
  · exact h1.modRecord _ _

theorem strayPulse (h : s.Keeps t) (c : ChanId) : s.Keeps (t.strayPulse c) := by
  have h1 := h.modCounts c (fun ch => { ch with stray := (t.chan c).stray + 1 }) rfl rfl rfl rfl
  exact h.ite ((h1.attend _).ite h1)

theorem pouringPulse (h : s.Keeps t) (c : ChanId) (hstate : (t.chan c).state = .pouring) : s.Keeps (t.pouringPulse c) := by
  have h1 := (h.modCounts c (fun ch => { ch with noFlow := some t.noFlowMs }) rfl rfl rfl rfl).countPulse c
  have hpours : (((t.modChan c (fun ch => { ch with noFlow := some t.noFlowMs })).countPulse c).chan c).state = .pouring := by
    unfold State.countPulse State.addMetered
    dsimp only
    split <;> simp [hstate]
  have h2 := h1.decidePhase c (fun ch => ch) hpours rfl (by simp [hpours])
  rw [State.modChan_id] at h2
  exact (h1.endPour c _).ite (h2.ite h1)

theorem suspendedPulse (h : s.Keeps t) (c : ChanId) : s.Keeps (t.suspendedPulse c) :=
  ((h.countPulse c).endPour c _).ite (h.countPulse c)

theorem pulse (h : s.Keeps t) (c : ChanId) : s.Keeps (t.pulse c) := by
  unfold State.pulse
  split
  · exact h.pouringPulse c ‹_›
  · exact h.suspendedPulse c
  · exact h.countPulse c
  all_goals exact h.strayPulse c

theorem startPour (h : s.Keeps t) (c : ChanId) (hstate : (t.chan c).state = .armed) : s.Keeps (t.startPour c) :=
  (h.modCounts c (fun ch => { ch with pourStart := some t.minute }) rfl rfl rfl rfl).startPouring c (by simp [hstate])

theorem wetChannel (h : s.Keeps t) (ℓ : LaneId) (c : ChanId) : s.Keeps (State.wetChannel ℓ t c) :=
  (h.settlePour _ c).ite h

theorem stopChanged (h : s.Keeps t) : s.Keeps t.stopChanged := (h.setOwnStop.removeNotice _).queueStop.applyCauses

/-- A channel that has just entered ENDED hands its pour stage over (R98, R99). -/
theorem endAt (h : s.Keeps t) (c : ChanId) (ℓ : LaneId) (n : Nat) (comp : Comp) (hstate : (t.chan c).state = .ended)
    (hqueue : stagesBounded s → t.log.queue.countP (fun w => w.owner == .channel c) = 0) : s.Keeps (t.endAt c ℓ n comp) := by
  unfold State.endAt State.handPour
  dsimp only
  split
  · exact h.modRecord _ _
  · refine (h.modRecord _ _).enqueueStage _ (fun ℓ' hℓ => by cases hℓ) fun c' hc => ?_
    cases hc
    exact ⟨hstate, hqueue⟩

theorem settled (h : s.Keeps t) (c : ChanId) (hstate : (t.chan c).state = .settling) : s.Keeps (t.settled c) := by
  have hnone : stagesBounded s → t.log.queue.countP (fun w => w.owner == .channel c) = 0 := fun hs => by
    simpa [hstate] using (h.stages hs).2 c
  have h1 := h.modChan c (fun ch => { ch with state := .ended, settle := none })
    (fun hp => permitFollows_of_off (by simp) (hp.2 (by simp [hstate])).1 (hp.2 (by simp [hstate])).2) id (fun _ => rfl)
  have hend (ℓ : LaneId) (n : Nat) (comp : Comp) := h1.endAt c ℓ n comp (by simp) hnone
  have hstop (ℓ : LaneId) (n : Nat) (comp : Comp) (hfault : t.log.state = .logFault) :
      ((t.modChan c (fun ch => { ch with state := .ended, settle := none })).endAt c ℓ n comp).log = t.log := by
    simp [State.endAt, State.handPour, hfault]
  have hlast {u : State} (hu : s.Keeps u) (hended : (u.chan c).state = .ended)
      (hlog : t.log.state = .logFault → u.log = t.log) :
      s.Keeps (if t.log.state = .logFault then
        ((u.modChan c (fun ch => { ch with stray := 0, lastEnd := ch.pourEnd })).attend (.channelEnd c)).finishChannel c
        else (u.modChan c (fun ch => { ch with stray := 0, lastEnd := ch.pourEnd })).attend (.channelEnd c)) := by
    have h2 := (hu.modCounts c (fun ch => { ch with stray := 0, lastEnd := ch.pourEnd }) rfl rfl rfl rfl).attend
      (.channelEnd c)
    split
    case isTrue hfault =>
      refine h2.finishChannel c (by simpa using hended) fun hs => ?_
      simpa [hlog hfault] using hnone hs
    · exact h2
  refine hlast ?_ ?_ ?_
  · split
    · exact hend _ _ _
    · exact h1
  · split <;> simp [State.chan]
  · intro hfault
    split
    · exact hstop _ _ _ hfault
    · rfl

/-! ### The lanes' events -/

theorem claimSucceeds (h : s.Keeps t) (ℓ : LaneId) (r : LoadRecord) : s.Keeps (t.claimSucceeds ℓ r) := by
  refine setResult (handStage (setSlot (h.modLane _ _) _ _) _ _) _ _ _

theorem pureReclaim (h : s.Keeps t) (ℓ : LaneId) : s.Keeps (t.pureReclaim ℓ) :=
  ((h.clearHold _ _).modLane _ _).setResult _ _ _

theorem recompute (h : s.Keeps t) (ℓ : LaneId) : s.Keeps (t.recompute ℓ) := by
  have hfail (o : DutyOutcome) : s.Keeps (t.failDuty ℓ o) := by
    unfold State.failDuty
    dsimp only
    split
    · exact ((h.modRecord _ _).stopTimer _).setHold _ _ _
    · exact (h.modRecord _ _).stopTimer _
  unfold State.recompute
  repeat' split
  all_goals first | exact (h.modRecord _ _).armTimer _ _ | exact hfail _ | exact h

theorem changeDriver (h : s.Keeps t) (ℓ : LaneId) (r : LoadRecord) (rc : Reclaim) : s.Keeps (t.changeDriver ℓ r rc) := by
  have h1 := (((h.queueOther (.release ℓ .handover r.current.driver (t.onward ℓ noPlan))).modRecord ℓ (fun r =>
    { r with second := some ⟨rc.claim.driver, rc.figures, rc.source⟩ })).handStage ℓ
    ⟨.driver, driverContent ⟨rc.claim.driver, rc.figures, rc.source⟩ t.minute (t.onward ℓ noPlan)⟩).clearHold ℓ .duty
      |>.clearHold ℓ .duplicate
  exact ((((h1.recompute ℓ).ite h1).matchLane ℓ).modLane _ _).setResult _ _ _ |>.dropContest _ _

theorem warnDuty (h : s.Keeps t) (ℓ : LaneId) (x : DutyTimer) : s.Keeps (t.warnDuty ℓ x) := (h.modLane _ _).attend _

theorem testNear (h : s.Keeps t) (m : Nat) (ℓ : LaneId) : s.Keeps (State.testNear m t ℓ) := by
  unfold State.testNear
  repeat' split
  all_goals first | exact h.warnDuty _ _ | exact h

theorem testOver (h : s.Keeps t) (m : Nat) (ℓ : LaneId) : s.Keeps (State.testOver m t ℓ) := by
  unfold State.testOver
  split
  · exact h
  · exact (((h.ite (h.warnDuty _ _)).setHold _ _ _).stopTimer _).ite h

theorem filterReleased (h : s.Keeps t) (f : Nat × FigureSet → Bool) : s.Keeps (t.setReleased (t.released.filter f)) :=
  h.setReleased _ (List.length_filter_le _ _).trans

theorem advanced (h : s.Keeps t) (m : Nat) : s.Keeps (State.advanced m t) :=
  ((((h.testNear m .a).testOver m .a).testNear m .b).testOver m .b).filterReleased _

/-! ### The line's events -/

theorem setReceiver (h : s.Keeps t) (p : Option Partial) : s.Keeps (t.setReceiver p) := h.setLine _ rfl id

theorem countAbort (h : s.Keeps t) : s.Keeps t.countAbort := by
  unfold State.countAbort
  split
  · refine attend (h.setLine _ (by rfl) ?_) _
    rintro ⟨hrx, -, -, hbreak, hidle⟩
    exact ⟨hrx, le_rfl, rfl, hbreak, hidle⟩
  case isFalse hne =>
    refine h.setLine _ (by rfl) ?_
    rintro ⟨hrx, hrun, hfault, hbreak, hidle⟩
    refine ⟨hrx, Nat.min_le_right _ _, ?_, hbreak, hidle⟩
    rw [show Config.abortMax = 8 from rfl] at hne
    have h8 : (min (t.line.abortRun + 1) 8 == 8) = (t.line.abortRun == 8) := by
      rw [Bool.eq_iff_iff, beq_iff_eq, beq_iff_eq]
      omega
    exact hfault.trans h8.symm

end State.Keeps

end Sys2Proof.Machine

namespace Sys2Proof.Machine
namespace State.Keeps

variable {s t : State}

/-! ### Sending (chapter 6) -/

theorem lineBusy (h : s.Keeps t) : s.Keeps t.lineBusy := h.setLine _ rfl id

/-- The transmitter takes a notice while no break is driven. -/
theorem setTransmitter (h : s.Keeps t) (x : Option Transmission) (n : Nat) (hbreak : t.line.breakLeft = 0) :
    s.Keeps (t.setLine { t.line with transmitter := x, idleCount := n }) :=
  h.setLine _ rfl fun ⟨hrx, hrun, hfault, hleft, _⟩ => ⟨hrx, hrun, hfault, hleft, fun hn => absurd hbreak hn⟩

theorem freePlace (h : s.Keeps t) (p : Place) : s.Keeps (t.freePlace p) :=
  (h.takeNotice p).setLine _ rfl fun ⟨hrx, _, _, hleft, _⟩ => ⟨hrx, Nat.zero_le _, rfl, hleft, fun _ => rfl⟩

theorem lostClaimSent (h : s.Keeps t) (ℓ : LaneId) (lc : LostClaim) : s.Keeps (t.lostClaimSent ℓ lc) :=
  (h.modLane _ _).ite ((h.modLane _ _).queueWithdrawn _ _)

theorem claimSent (h : s.Keeps t) (ℓ : LaneId) : s.Keeps (t.claimSent ℓ) := by
  unfold State.claimSent
  dsimp only
  split
  · exact (h.lostClaimSent _ _).testClaim _
  · exact (h.modLane _ _).testClaim _

theorem releaseSent (h : s.Keeps t) (ℓ : LaneId) : s.Keeps (t.releaseSent ℓ) := by
  unfold State.releaseSent
  dsimp only
  split
  · exact (((h.modLane _ _).queueOther _).testClaim _).testClosing _
  · exact (h.testClaim _).testClosing _

theorem drawOnSent (h : s.Keeps t) (c : ChanId) : s.Keeps (t.drawOnSent c) := by
  unfold State.drawOnSent
  split
  case h_1 hasked => exact h.setDraw c _ (fun hp => hp.phase_ne_full (by simp [hasked])) (.inl (by simp [hasked]))
  case h_2 hret => exact h.queueNotice _ nofun fun c' hd hn => by cases hn; exact hret
  all_goals exact h

/-- The DRAW-OFF of a channel is gone from the queue: the channel is in NONE (R88). -/
theorem drawOffSent (h : s.Keeps t) (c : ChanId) (hret : s.drawsSound → t.inReset = false → (t.chan c).draw = .returning)
    (hgone : t.noticeAt (.draw c) = none) : s.Keeps (t.drawOffSent c) := by
  have h1 : s.Keeps (t.modChan c (fun ch => { ch with draw := .none })) := by
    refine h.modChanOf c _ (fun hs hr hp => permitFollows_setDraw _ hp (hp.phase_ne_full (by simp [hret hs hr]))) ?_ id
    rintro ⟨e, he, hd, hn⟩ -
    exact absurd (by rw [hn]; rfl) (State.noticeAt_eq_none.1 hgone e he)
  exact (h1.offerRound _).ite h1

theorem stopSent (h : s.Keeps t) (b : Bool) : s.Keeps (t.stopSent b) :=
  queueStop (h.setLists _ (by exact id) (by exact id))

/-- The order slot of a notice in the queue is one of the eight (R116). -/
theorem issueSent (h : s.Keeps t) (n : Nat) (hn : holdPlaces s → n < 8) : s.Keeps (t.issueSent n) := by
  unfold State.issueSent
  split
  case h_1 kind key reason _ =>
    exact h.queueNoticeOf _ (by rintro hp k ⟨⟩; exact hn hp) nofun
  all_goals exact h

/-- A notice sent whole leaves its place and its owner acts (R135). -/
theorem sentWhole (e : SendEntry) (p : Place) (he : t.noticeAt p = some e) :
    t.Keeps ((t.freePlace p).tellOwner e.notice) := by
  obtain ⟨hmem, hplace⟩ := State.mem_of_noticeAt he
  have h : t.Keeps (t.freePlace p) := refl.freePlace p
  have hfree : (t.freePlace p).noticeAt p = none := (State.noticeAt_takeNotice t p p).trans (if_pos rfl)
  unfold State.tellOwner
  split
  · exact h.stopSent _
  · exact h.queueOwedContest _
  · exact h.claimSent _
  · exact h.drawOnSent _
  case h_5 c hd hn =>
    rw [hn] at hplace
    exact h.drawOffSent c (fun hs hr => (hs hr).2 e hmem c hd hn) (by rw [show Place.draw c = p from hplace]; exact hfree)
  · exact h.releaseSent _
  case h_7 n _ _ _ hn => exact h.issueSent n fun hp => hp e hmem n (by rw [hn]; rfl)
  · exact h.setLists _ (by exact id) (by exact id)
  · exact h

/-! ### Reception and the losses (R92, R137 to R141, R164) -/

theorem loseClaim (h : s.Keeps t) (entering : Bool) (ℓ : LaneId) : s.Keeps (State.loseClaim entering t ℓ) := by
  unfold State.loseClaim
  dsimp only
  repeat' split
  all_goals first | exact (h.removeNotice _).modLane _ _ | exact h.modLane _ _ | exact h

theorem receiveLost (h : s.Keeps t) : s.Keeps t.receiveLost := by
  have h1 := (((h.attend .lineLoss).setView { t.view with
    resync := some (max (t.view.resync.getD 0) t.refreshMs) }).loseClaim t.view.resync.isNone .a).loseClaim
      t.view.resync.isNone .b
  refine h1.mapChannels Channel.loseDraw (fun ch => ?_) (fun ch hp => ?_) fun ch hd => ?_ <;> unfold Channel.loseDraw <;> split
  · rfl
  · rfl
  case isTrue hsent => exact permitFollows_setDraw _ hp (hp.phase_ne_full (by simp [hsent]))
  · exact hp
  case isTrue hsent => simp [hsent] at hd
  · exact hd

theorem judge (h : s.Keeps t) (hd length : Byte) (body : List Byte) (check : CheckWord) :
    s.Keeps (t.judge hd length body check) := by
  unfold State.judge
  split
  · exact h.receiveLost
  split
  · exact h
  split
  case isTrue hroom =>
    refine h.setLine _ (by rfl) fun ⟨_, hrun, hfault, hleft, hidle⟩ => ⟨?_, hrun, hfault, hleft, hidle⟩
    rw [setLine_line, List.length_append]
    exact hroom
  · exact h.receiveLost

/-! ### The Peer View's timers (R119, R147, R148, R166) -/

theorem refreshOrder (h : s.Keeps t) (n : Nat) (hn : n < 8) : s.Keeps (t.refreshOrder n) := by
  unfold State.refreshOrder
  split
  · exact h.queueNotice _ (by rintro k ⟨⟩; exact hn) nofun
  all_goals exact h

theorem refreshOrders (h : s.Keeps t) : ∀ ns : List Nat, (∀ n ∈ ns, n < 8) → s.Keeps (ns.foldl State.refreshOrder t) := by
  intro ns
  induction ns generalizing t with
  | nil => exact fun _ => h
  | cons n ns ih => exact fun hns => ih (h.refreshOrder n (hns n (by simp))) fun m hm => hns m (by simp [hm])

theorem expireRow (h : s.Keeps t) (a : Nat) : s.Keeps (t.expireRow a) := by
  have horphan (l : Lists) : (l.orphan a).holds.length = l.holds.length ∧ (l.orphan a).matchCount = l.matchCount := by
    unfold Lists.orphan
    dsimp only
    split <;> simp [Lists.setStop]
  have h1 := (h.setView (t.view.setRow a (t.view.row a).expire)).reportFalls t
  have h2 := h1.setLists ((State.reportFalls t (t.setView (t.view.setRow a (t.view.row a).expire))).lists.orphan a)
    (fun hl => (horphan _).1.trans_le hl) fun hl => (horphan _).2.trans_le hl
  exact (h2.attend _).ite h2

/-! ### Notices heard (chapter 7) -/

theorem dropFront (h : s.Keeps t) : s.Keeps t.dropFront :=
  h.setLine _ rfl fun ⟨hrx, hrun, hfault, hleft, hidle⟩ =>
    ⟨(List.drop_sublist 1 _).length_le.trans hrx, hrun, hfault, hleft, hidle⟩

theorem validate (h : s.Keeps t) (a : Nat) : s.Keeps (t.validate a) := by
  have hrevive (l : Lists) : (l.revive a).holds.length = l.holds.length ∧ (l.revive a).matchCount = l.matchCount := by
    unfold Lists.revive
    dsimp only
    split <;> simp [Lists.setStop]
  have h1 := h.setLists (t.lists.revive a) (fun hl => (hrevive _).1.trans_le hl) fun hl => (hrevive _).2.trans_le hl
  unfold State.validate
  dsimp only
  split
  · exact h.setView _
  · exact h1.setView _

theorem modRow (h : s.Keeps t) (a : Nat) (f : PeerRow → PeerRow) : s.Keeps (t.modRow a f) := h.setView _

theorem takeStop (h : s.Keeps t) (a : Nat) (b : Bool) : s.Keeps (t.takeStop a b) :=
  applyCauses (h.setLists _ (by exact id) (by exact id))

theorem contestLane (h : s.Keeps t) (d : Nat) (ℓ : LaneId) : s.Keeps (State.contestLane d t ℓ) := by
  unfold State.contestLane
  dsimp only
  repeat' split
  all_goals first
    | exact h.withdrawClaim _ _
    | exact (h.failReclaim _).setHold _ _ _
    | exact h.failReclaim _
    | exact h.setHold _ _ _
    | exact h

theorem contestSettled (h : s.Keeps t) (ℓ : LaneId) (d : Nat) : s.Keeps (t.contestSettled ℓ d) :=
  (h.queueContest _ _).ite h

theorem claimLane (h : s.Keeps t) (d : Nat) (ℓ : LaneId) : s.Keeps (State.claimLane d t ℓ) := by
  unfold State.claimLane
  repeat' split
  all_goals first
    | exact h
    | exact h.queueContest _ _
    | exact h.withdrawClaim _ _
    | exact (h.failReclaim _).contestSettled _ _
    | exact h.contestSettled _ _

theorem storeFigures (h : s.Keeps t) (d : Nat) (f : Option FigureSet) : s.Keeps (t.storeFigures d f) := by
  unfold State.storeFigures
  split
  · exact h.setReleased _ (storeReleased_length_le d _ _)
  · exact h

theorem grant (h : s.Keeps t) (c : ChanId) : s.Keeps (t.grant c) := by
  unfold State.grant
  split
  case isTrue hwaits =>
    split
    · exact h
    case isFalse hret =>
      refine (h.removeNotice _).modChan c _ (fun hp => ⟨fun _ => ⟨.full, rfl, rfl, fun _ => rfl⟩, fun hne => ?_⟩)
        (fun hd => ?_) fun he => ?_
      · exact absurd (by simpa using hwaits.1) hne
      · exact absurd (by simpa using hd) hret
      · simp [hwaits.1] at he
  · split
    case isTrue hnone => exact h.returnDraw c fun hp => hp.phase_ne_full (by simp [hnone])
    · exact h

theorem void (h : s.Keeps t) (c : ChanId) : s.Keeps (t.void c) := by
  unfold State.void
  split
  case isTrue hwaits => exact h.setDraw c _ (fun _ => by simp [hwaits.2.1]) (.inl hwaits.2.2)
  · exact h

theorem actDraw (h : s.Keeps t) (a : Nat) (x : Bool × ChanId × Nat) : s.Keeps (actDraw a x t) := by
  unfold Machine.actDraw
  dsimp only
  split
  · exact ((h.modRow _ _).modRow _ _).reportFalls _
  · exact (h.modRow _ _).reportFalls _

theorem actDrawEcho (h : s.Keeps t) (x : Bool × ChanId × Nat) : s.Keeps (actDrawEcho x t) :=
  h.ite ((h.grant _).ite (h.void _))

theorem actStop (h : s.Keeps t) (a : Nat) (b : Bool) : s.Keeps (actStop a b t) := (h.modRow _ _).takeStop _ _

theorem actContest (h : s.Keeps t) (a d : Nat) : s.Keeps (actContest a d t) := (h.contestLane _ _).contestLane _ _

theorem actClaim (h : s.Keeps t) (a : Nat) (x : LaneId × Bool × Nat × Nat) : s.Keeps (actClaim a x t) :=
  (((h.modRow _ _).claimLane _ _).claimLane _ _).matchWatch _ _ _

theorem actClaimEcho (h : s.Keeps t) (x : LaneId × Bool × Nat × Nat) : s.Keeps (actClaimEcho x t) := by
  unfold Machine.actClaimEcho
  repeat' split
  all_goals first | exact (h.removeNotice _).modLane _ _ | exact h

theorem actRelease (h : s.Keeps t) (a : Nat) (x : LaneId × ReleaseForm × Nat × Option FigureSet) :
    s.Keeps (actRelease a x t) := ((h.modRow _ _).storeFigures _ _).matchWatch _ _ _

theorem actHold (h : s.Keeps t) (a : Nat) (x : Bool × Nat × KeyKind × Nat × Nat) : s.Keeps (actHold a x t) := by
  have hmap (f : HoldEntry → HoldEntry) := h.setLists { t.lists with holds := t.lists.holds.map f }
    (List.length_map f).trans_le id
  unfold Machine.actHold
  split
  · unfold State.hearIssue
    dsimp only
    split
    · split
      · exact hmap _
      · exact (hmap _).matchLanes
    split
    case isTrue hroom =>
      refine matchLanes (h.setLists _ (fun _ => ?_) (by exact id))
      rw [List.length_append]
      exact hroom
    · exact h.attend _
  · unfold State.hearCancel
    split
    · exact (h.setLists (t.lists.dropHold a x.2.1) (List.length_filter_le _ _).trans id).matchLanes
    · exact h

theorem duplicateTest (h : s.Keeps t) (x : StatusReport) (ℓ : LaneId) : s.Keeps (State.duplicateTest x t ℓ) := by
  unfold State.duplicateTest
  repeat' split
  all_goals first | exact h.setHold _ _ _ | exact h

theorem actStatus (h : s.Keeps t) (a : Nat) (x : StatusReport) : s.Keeps (actStatus a x t) := by
  refine ((((((h.modRow a _).reportFalls t).modRow a _).takeStop a x.stop).setLists _ ?_ ?_).duplicateTest x
    .a).duplicateTest x .b
  · exact (List.length_map _).trans_le
  · exact id

theorem hear {α : Type} (h : s.Keeps t) (kind : Nat) (form : List Byte → Option α) (act : Nat → α → State → State)
    (hact : ∀ a x u, s.Keeps u → s.Keeps (act a x u)) : s.Keeps (t.hear kind form act) := by
  unfold State.hear
  repeat' split
  all_goals first | exact h | exact h.dropFront | exact hact _ _ _ (h.dropFront.validate _)

theorem hearOther {α : Type} (h : s.Keeps t) (kind : Nat) (form : List Byte → Option α) (act : Nat → α → State → State)
    (hact : ∀ a x u, s.Keeps u → s.Keeps (act a x u)) : s.Keeps (t.hearOther kind form act) := by
  unfold State.hearOther
  repeat' split
  all_goals first | exact h | exact h.dropFront | exact hact _ _ _ (h.dropFront.validate _)

theorem hearEcho {α : Type} (h : s.Keeps t) (kind : Nat) (form : List Byte → Option α) (act : α → State → State)
    (hact : ∀ x u, s.Keeps u → s.Keeps (act x u)) : s.Keeps (t.hearEcho kind form act) := by
  unfold State.hearEcho
  repeat' split
  all_goals first | exact h | exact h.dropFront | exact hact _ _ h.dropFront

end State.Keeps
end Sys2Proof.Machine

namespace Sys2Proof.Machine
namespace State.Keeps

variable {s t : State}

/-! ### The log's events (chapter 8) -/

/-- The written stage leaves the queue, and its owner is told (R178). -/
theorem written (w : StageWrite) (rest : List StageWrite) (area number : Nat) (hqueue : s.log.queue = w :: rest) :
    s.Keeps ((s.setLog (s.log.stored w area number)).tellWritten w) := by
  have hq : (s.log.stored w area number).queue = rest := by simp [DeliveryLog.stored, hqueue]
  have h1 : s.Keeps (s.setLog (s.log.stored w area number)) :=
    refl.setLogQueue _ (by rw [hq, hqueue]; exact List.sublist_cons_self _ _) (storeStage_wf _ _ _)
  have hcount (o : Owner) (ho : w.owner = o) :
      s.log.queue.countP (fun x => x.owner == o) = rest.countP (fun x => x.owner == o) + 1 := by
    simp [hqueue, ho]
  unfold State.tellWritten
  split
  case h_1 c hc =>
    refine h1.finishIfEnded c fun hs => ?_
    rw [setLog_log, hq]
    have hle := (hs.2 c).trans (ite_le_one le_rfl (Nat.zero_le 1))
    rw [hcount _ hc] at hle
    omega
  case h_2 ℓ hℓ =>
    have h2 := h1.passBacklog ℓ fun hs => by
      rw [setLog_log, hq]
      have hle := hs.1 ℓ
      rw [hcount _ hℓ] at hle
      omega
    split
    · exact (h2.modLane _ _).testClosing _
    · exact h2

theorem verifyFailed (h : s.Keeps t) (w : StageWrite) (area number : Nat) (second : Bool) :
    s.Keeps (t.verifyFailed w area number second) := by
  have h1 : s.Keeps (t.setLog { t.log with
      writing := some (.stage area number true)
      memory := failedMemory t.freeCount t.log.memory w area (w.image number) }) :=
    h.setLog _ (by rfl) (by exact failedMemory_wf _ _ _ _)
  exact h1.nextFree.enterLogFault.ite h1.nextFree

theorem endScan (h : s.Keeps t) (fault : Option Nat) : s.Keeps (t.endScan fault) := by
  have h1 := (h.setLog (t.log.scanned t.freeCount fault) (by rfl) (scanned_wf _ _ _)).nextFree
  have h2 := (h1.attend .logLow).ite (c := (t.setLog (t.log.scanned t.freeCount fault)).nextFree.log.freeSlots <
    Config.lowSlots) h1
  exact (h2.attend .logFault).ite h2

/-! ### Resets (R209, R210) -/

/-- The blocks at their values after reset meet every invariant, the memory being kept. -/
theorem clearBlocks (h : memoryCanonical s → memoryCanonical t) (hpin : t.inReset = true → s.inReset = true) :
    s.Keeps t.clearBlocks where
  memory := h
  pin := hpin
  attention _ := List.nodup_nil
  queue _ := ⟨List.nodup_nil, .nil⟩
  places _ := nofun
  line _ := ⟨Nat.zero_le _, Nat.zero_le _, rfl, Nat.zero_le _, fun _ => rfl⟩
  lists _ := ⟨Nat.zero_le _, Nat.zero_le _, Nat.zero_le _⟩
  stages _ := ⟨fun _ => Nat.zero_le _, fun _ => Nat.zero_le _⟩
  draws _ _ := ⟨fun c => permitFollows_of_off (by cases c <;> nofun) (by cases c <;> rfl) (by cases c <;> rfl), nofun⟩

theorem readStraps (h : s.Keeps t) : s.Keeps t.readStraps := h.setUnit _

theorem showStraps (h : s.Keeps t) (a : Fin 32) (r : Fin 4) : s.Keeps (t.showStraps a r) := h.setPins _ rfl

theorem outputsOff_memory (h : s.Keeps t) (hs : memoryCanonical s) : memoryCanonical t.outputsOff :=
  abandonWrite_wf _ (h.memory hs)

theorem outputsOff_pin (h : s.Keeps t) (hr : t.outputsOff.inReset = true) : s.inReset = true :=
  h.pin (by simpa [State.inReset, State.outputsOff, State.abandonExchange] using hr)

theorem powerOnReset (h : s.Keeps t) : s.Keeps t.powerOnReset :=
  (clearBlocks (t := t.outputsOff.clearConfig) h.outputsOff_memory h.outputsOff_pin).setUnit _ |>.readStraps

theorem restartReset (h : s.Keeps t) : s.Keeps t.restartReset :=
  ((clearBlocks (t := t.outputsOff) h.outputsOff_memory h.outputsOff_pin).setUnit _ |>.readStraps).setUnit _

theorem pinReset (h : memoryCanonical s → memoryCanonical t) (hpin : t.inReset = true → s.inReset = true) :
    s.Keeps t.pinReset :=
  (clearBlocks (t := t.clearConfig) h hpin).setUnit _ |>.readStraps

/-! ### The port's events (chapter 9) -/

theorem endExchange (h : s.Keeps t) : s.Keeps t.endExchange := (h.setPort _).clearReported.setUnit _

theorem delivered (h : s.Keeps t) (a : Answer) : s.Keeps (t.delivered a) := by
  unfold State.delivered
  split
  · exact h.dropReported
  · exact h.setUnit _
  · exact h

theorem answerRead (h : s.Keeps t) (r : Reading) : s.Keeps (t.answerRead r) := ((h.setPort _).setPort _).ite (h.setPort _)

theorem carryOutUnheard (h : s.Keeps t) (r : Request) (ops : List Byte) : s.Keeps (t.carryOutUnheard r ops) := by
  unfold State.carryOutUnheard
  split
  · exact h.restartReset
  · exact ((h.serve _ _).setPort _).clearReported.setUnit _

theorem handOver (h : s.Keeps t) : s.Keeps t.handOver := by
  unfold State.handOver
  dsimp only
  repeat' split
  all_goals first | exact h | exact (h.setPort _).carryOut _ _ | exact (h.setPort _).carryOutUnheard _ _

/-! ### One bit time (R131, R208) -/

theorem tickLine (h : s.Keeps t) : s.Keeps t.tickLine := by
  have hline : t.line.tick.sendQueue = t.line.sendQueue := by
    unfold RackLine.tick
    repeat' split
    all_goals rfl
  refine (h.setLine _ hline ?_).ite h
  rintro ⟨hrx, hrun, hfault, hleft, hidle⟩
  unfold lineBounded
  rw [setLine_line]
  unfold RackLine.tick
  split
  · exact ⟨hrx, hrun, hfault, (Nat.sub_le _ _).trans hleft, fun _ => hidle ‹_›⟩
  split
  · exact ⟨hrx, hrun, hfault, hleft, hidle⟩
  split <;> exact ⟨hrx, hrun, hfault, hleft, hidle⟩

theorem tickMs (h : s.Keeps t) : s.Keeps t.tickMs :=
  (h.mapChannels Channel.tick (fun _ => rfl) (fun _ hp => hp) fun _ hd => hd).congr rfl rfl rfl rfl rfl rfl rfl rfl

theorem tick (h : s.Keeps t) : s.Keeps t.tick := by
  unfold State.tick
  repeat' split
  · exact h
  · exact h.tickLine.setUnit _
  · exact (h.tickLine.setUnit _).tickMs

end State.Keeps

/-- The first step of a reset through the pin: the permits go OFF, and the pin is held from here on (R209). -/
theorem State.KeepsBlocks.pinAsserted {s : State} : s.KeepsBlocks (s.outputsOff.setPins { s.pins with resetAsserted := true }) where
  memory := Keeps.refl.outputsOff_memory
  attention hs := by simpa [attentionOnce, State.outputsOff, State.abandonExchange] using hs
  queue hs := by simpa [sendQueueOrdered, State.outputsOff, State.abandonExchange, State.releaseLine] using hs
  places hs := by simpa [holdPlaces, State.outputsOff, State.abandonExchange, State.releaseLine] using hs
  line hs := by
    obtain ⟨hrx, hrun, hfault, -, -⟩ := hs
    simpa [lineBounded, State.outputsOff, State.abandonExchange, State.releaseLine] using ⟨hrx, hrun, hfault⟩
  lists hs := by simpa [listsBounded, State.outputsOff, State.abandonExchange] using hs
  stages hs := by
    have hqueue (u : State) : u.abandonWrite.log.queue = u.log.queue := by
      unfold State.abandonWrite
      repeat' split
      all_goals simp
    have hchan (c : ChanId) : ((s.outputsOff.setPins { s.pins with resetAsserted := true }).chan c).state =
        (s.chan c).state := by
      simp [State.outputsOff, State.abandonExchange, State.chan, Channel.off]
    refine ⟨fun ℓ => ?_, fun c => ?_⟩
    · simpa [State.outputsOff, hqueue, State.abandonExchange] using hs.1 ℓ
    · rw [hchan]
      simpa [State.outputsOff, hqueue, State.abandonExchange] using hs.2 c

end Sys2Proof.Machine

namespace Sys2Proof.Machine

/-! ### Every command keeps the invariants -/

/-- Every next state of the outcome keeps the invariants of `s`. -/
def Result.Keeps (s : State) (r : Result) : Prop := ∀ t, r = .next t → s.Keeps t

theorem Result.Keeps.next {s t : State} (h : s.Keeps t) : Result.Keeps s (.next t) := by
  rintro u ⟨⟩
  exact h

section Commands

variable (s : State)

theorem execUnknownRequest_keeps (code : Byte) : Result.Keeps s (execUnknownRequest code s) :=
  .next (.ite .refl (.setPort .refl _))

theorem execExchangeBegin_keeps : Result.Keeps s (execExchangeBegin s) := by
  refine .next (.ite .refl (.ite ?_ (.setPort ?_ _))) <;> exact .setPins .refl _

theorem execExchangeEnd_keeps (a : Fin 32) (r : Fin 4) : Result.Keeps s (execExchangeEnd a r s) := by
  have h : s.Keeps ((s.selectPort false).showStraps a r) := .setPins (.setPins .refl _) _ rfl
  exact .next (.ite .refl (h.ite (h.endExchange.restartReset.ite h.endExchange)))

theorem execAnswerDelivered_keeps : Result.Keeps s (execAnswerDelivered s) := by
  refine .next (.ite .refl ?_)
  split
  · exact .refl
  · exact .delivered (.setPort .refl _) _

theorem execLogReadServed_keeps (a : Fin 32) (r : Fin 4) : Result.Keeps s (execLogReadServed a r s) := by
  refine .next ?_
  split
  · exact .refl
  · exact .ite (.handOver (.answerRead (.showStraps .refl _ _) _)) .refl

theorem execMeterPulse_keeps (c : ChanId) : Result.Keeps s (execMeterPulse c s) := .next (.ite (.pulse .refl _) .refl)

theorem execStartPress_keeps (c : ChanId) : Result.Keeps s (execStartPress c s) := by
  have h : s.Keeps (s.setPressed c true) := .setPins .refl _
  refine .next (.ite .refl ?_)
  dsimp only
  split
  case isTrue hstart =>
    simp only [Bool.and_eq_true, State.mayStart, beq_iff_eq] at hstart
    exact h.startPour c hstart.2.1.1.1.1
  · exact h

theorem execStartButtonRelease_keeps (c : ChanId) : Result.Keeps s (execStartButtonRelease c s) :=
  .next (.setPins .refl _)

theorem execCouplerLost_keeps (c : ChanId) : Result.Keeps s (execCouplerLost c s) := by
  have h : s.Keeps (s.setCoupled c false) := .setPins .refl _
  exact .next ((h.endPour _ _).ite h)

theorem execCouplerConnected_keeps (c : ChanId) : Result.Keeps s (execCouplerConnected c s) := .next (.setPins .refl _)

theorem execGroundChange_keeps (ℓ : LaneId) (g : Ground) : Result.Keeps s (execGroundChange ℓ g s) := by
  have h : s.Keeps (s.setPins (s.pins.setGround ℓ g)) := .setPins .refl _ (by cases ℓ <;> rfl)
  exact .next (h.ite h.applyCauses)

theorem execProbeChange_keeps (ℓ : LaneId) (p : Probe) : Result.Keeps s (execProbeChange ℓ p s) := by
  have h : s.Keeps (s.setPins (s.pins.setProbe ℓ p)) := .setPins .refl _ (by cases ℓ <;> rfl)
  exact .next (h.ite (.reportFalls (.foldl _ (fun _ c h => h.wetChannel ℓ c) _ h) _))

theorem execStopInputChange_keeps (b : Bool) : Result.Keeps s (execStopInputChange b s) := by
  have h : s.Keeps (s.setPins { s.pins with stopChain := b }) := .setPins .refl _
  exact .next (h.ite h.stopChanged)

theorem execNoFlowTimerExpiry_keeps (c : ChanId) : Result.Keeps s (execNoFlowTimerExpiry c s) :=
  .next (.ite (.endPour .refl _ _) .refl)

theorem execSettleTimerExpiry_keeps (c : ChanId) : Result.Keeps s (execSettleTimerExpiry c s) := by
  refine .next ?_
  split
  case isTrue hruns =>
    simp only [Bool.and_eq_true, beq_iff_eq] at hruns
    exact .settled .refl c hruns.2
  · exact .refl

theorem execClaimTimerExpiry_keeps (ℓ : LaneId) : Result.Keeps s (execClaimTimerExpiry ℓ s) := by
  refine .next ?_
  split
  · exact .refl
  · exact .ite (.claimSucceeds .refl _ _) .refl

theorem execReclaimTimerExpiry_keeps (ℓ : LaneId) : Result.Keeps s (execReclaimTimerExpiry ℓ s) := by
  refine .next ?_
  split
  · exact .ite (.ite (.pureReclaim .refl _) (.changeDriver .refl _ _ _)) .refl
  · exact .refl

theorem execDispatchPulseEnd_keeps (ℓ : LaneId) : Result.Keeps s (execDispatchPulseEnd ℓ s) :=
  .next (.ite (.modLane .refl _ _) .refl)

theorem execMinuteAdvance_keeps : Result.Keeps s (execMinuteAdvance s) := by
  refine .next ?_
  split
  · exact .refl
  · exact .ite .refl (.advanced (.setUnit .refl _) _)

theorem execDutyNear_keeps (ℓ : LaneId) : Result.Keeps s (execDutyNear ℓ s) := .next (.ite .refl (.testNear .refl _ _))

theorem execDutyTimerExpiry_keeps (ℓ : LaneId) : Result.Keeps s (execDutyTimerExpiry ℓ s) :=
  .next (.ite .refl (.testOver .refl _ _))

theorem execReleasedDriverAgeing_keeps (d : Nat) : Result.Keeps s (execReleasedDriverAgeing d s) :=
  .next (.ite (.filterReleased .refl _) .refl)

theorem execHoldEntryLapse_keeps (a n : Nat) : Result.Keeps s (execHoldEntryLapse a n s) := by
  refine .next ?_
  split
  · exact .refl
  · exact .ite (.matchLanes (.setLists .refl (s.lists.dropHold a n) (List.length_filter_le _ _).trans id)) .refl

theorem execTransmitStart_keeps : Result.Keeps s (execTransmitStart s) := by
  refine .next ?_
  split
  · exact .refl
  split
  case isTrue hmay =>
    simp only [State.mayStartNotice, Bool.and_eq_true, beq_iff_eq] at hmay
    exact .setTransmitter .refl _ _ hmay.1.2
  · exact .refl

theorem execArbitrationLost_keeps : Result.Keeps s (execArbitrationLost s) := by
  refine .next ?_
  split
  · exact .refl
  · exact .ite .refl (.stopDriving .refl)

theorem execNoticeBegun_keeps : Result.Keeps s (execNoticeBegun s) := by
  refine .next ?_
  split
  · exact .refl
  case h_2 x hx =>
    refine .ite .refl (.markBegun (.setLine .refl _ (by rfl) ?_) _)
    rintro ⟨hrx, hrun, hfault, hleft, hidle⟩
    exact ⟨hrx, hrun, hfault, hleft, fun hn => absurd (hx.symm.trans (hidle hn)) nofun⟩

theorem execAbort_keeps : Result.Keeps s (execAbort s) := by
  refine .next ?_
  split
  · exact .refl
  · refine .ite .refl (.countAbort (.setLine .refl _ (by rfl) ?_))
    rintro ⟨hrx, hrun, hfault, -, -⟩
    exact ⟨hrx, hrun, hfault, le_rfl, fun _ => rfl⟩

theorem execSentWhole_keeps : Result.Keeps s (execSentWhole s) := by
  refine .next ?_
  repeat' split
  case h_2.isFalse he _ => exact .sentWhole _ _ he
  all_goals exact .refl

theorem execHeaderCharacterReceived_keeps (h : Byte) : Result.Keeps s (execHeaderCharacterReceived h s) :=
  .next (.ite .refl (.ite (.receiveLost (.setReceiver .refl _)) (.setReceiver .refl _)))

theorem execBreakReceived_keeps : Result.Keeps s (execBreakReceived s) := .next (.ite (.setReceiver .refl _) .refl)

theorem execNoticeReceived_keeps (length : Byte) (body : List Byte) (check : CheckWord) :
    Result.Keeps s (execNoticeReceived length body check s) := by
  refine .next (.ite .refl ?_)
  split
  · exact .lineBusy .refl
  · exact .ite .refl (.ite (.receiveLost (.setReceiver .refl _)) (.ite .refl (.ite (.setReceiver .refl _)
      (.judge (.setReceiver .refl _) _ _ _ _))))

theorem execReceiveLoss_keeps (k : LossKind) : Result.Keeps s (execReceiveLoss k s) := by
  refine .next (.ite (.receiveLost (.setLine .refl _ ?_ ?_)) .refl)
  · rfl
  · exact id

theorem execRefreshTick_keeps : Result.Keeps s (execRefreshTick s) :=
  .next (.ite .refl (.setView (.refreshOrders (.queueOther .refl _) _ fun _ => List.mem_range.1) _))

theorem execRowExpiry_keeps (a : Nat) : Result.Keeps s (execRowExpiry a s) := .next (.ite (.expireRow .refl _) .refl)

theorem execResyncTimerExpiry_keeps : Result.Keeps s (execResyncTimerExpiry s) :=
  .next (.ite .refl (.testClaim (.testClaim (.foldl _ (fun _ hd h => h.offerRound hd) _ (.setView .refl _)) _) _))

theorem execJoiningTimerExpiry_keeps : Result.Keeps s (execJoiningTimerExpiry s) :=
  .next (.ite .refl (.setUnit (.setView .refl _) _))

theorem execStopHeard_keeps : Result.Keeps s (execStopHeard s) :=
  .next (.hear .refl _ _ _ fun _ _ _ h => h.actStop _ _)

theorem execContestHeard_keeps : Result.Keeps s (execContestHeard s) :=
  .next (.hear .refl _ _ _ fun _ _ _ h => h.actContest _ _)

theorem execClaimHeard_keeps : Result.Keeps s (execClaimHeard s) :=
  .next (.hearOther .refl _ _ _ fun _ _ _ h => h.actClaim _ _)

theorem execClaimEcho_keeps : Result.Keeps s (execClaimEcho s) :=
  .next (.hearEcho .refl _ _ _ fun _ _ h => h.actClaimEcho _)

theorem execDrawOnHeard_keeps : Result.Keeps s (execDrawOnHeard s) :=
  .next (.ite .refl (.hearOther .refl _ _ _ fun _ _ _ h => h.actDraw _ _))

theorem execDrawOnEcho_keeps : Result.Keeps s (execDrawOnEcho s) :=
  .next (.ite .refl (.hearEcho .refl _ _ _ fun _ _ h => h.actDrawEcho _))

theorem execDrawOffHeard_keeps : Result.Keeps s (execDrawOffHeard s) :=
  .next (.ite .refl (.hear .refl _ _ _ fun _ _ _ h => h.actDraw _ _))

theorem execReleaseHeard_keeps : Result.Keeps s (execReleaseHeard s) :=
  .next (.hearOther .refl _ _ _ fun _ _ _ h => h.actRelease _ _)

theorem execReleaseEcho_keeps : Result.Keeps s (execReleaseEcho s) :=
  .next (.hearEcho .refl _ _ _ fun _ _ h => h.storeFigures _ _)

theorem execHoldIssueHeard_keeps : Result.Keeps s (execHoldIssueHeard s) :=
  .next (.ite .refl (.hear .refl _ _ _ fun _ _ _ h => h.actHold _ _))

theorem execHoldCancelHeard_keeps : Result.Keeps s (execHoldCancelHeard s) :=
  .next (.ite .refl (.hear .refl _ _ _ fun _ _ _ h => h.actHold _ _))

theorem execStatusHeard_keeps : Result.Keeps s (execStatusHeard s) :=
  .next (.hear .refl _ _ _ fun _ _ _ h => h.actStatus _ _)

theorem execLogWriteStart_keeps : Result.Keeps s (execLogWriteStart s) := by
  refine .next ?_
  split
  · exact .refl
  · exact .ite (.setLog .refl _ (by rfl) (by exact id)) .refl

theorem execLogWriteComplete_keeps (verified : Bool) : Result.Keeps s (execLogWriteComplete verified s) := by
  refine .next ?_
  split
  case h_1 hqueue => exact .ite .refl (.ite (.written _ _ _ _ hqueue) (.verifyFailed .refl _ _ _ _))
  · exact .refl

theorem execTrimMarkWriteStart_keeps : Result.Keeps s (execTrimMarkWriteStart s) := by
  refine .next ?_
  split
  · exact .refl
  · exact .ite .refl (.setLog .refl _ (by rfl) (by exact id))

theorem execTrimMarkWriteComplete_keeps (verified : Bool) : Result.Keeps s (execTrimMarkWriteComplete verified s) := by
  refine .next ?_
  split
  · exact .ite .refl (.ite (.setLog .refl _ (by rfl) (by exact id)) (.ite
      (.enterLogFault (.nextFree (.setLog .refl _ (by rfl) (by exact id)))) (.setLog .refl _ (by rfl) (by exact id))))
  · exact .refl

theorem execScanEnd_keeps (fault : Option Nat) : Result.Keeps s (execScanEnd fault s) :=
  .next (.ite .refl (.ite (.enterJoining (.endScan .refl _)) (.endScan .refl _)))

theorem execPowerOn_keeps (a : Fin 32) (r : Fin 4) : Result.Keeps s (execPowerOn a r s) :=
  .next (.powerOnReset (.showStraps .refl _ _))

theorem execResetPinRelease_keeps (a : Fin 32) (r : Fin 4) : Result.Keeps s (execResetPinRelease a r s) :=
  .next (.ite (.pinReset id nofun) .refl)

end Commands

/-- Every command but the assertion of the reset pin keeps the invariants. -/
theorem exec_keeps (i : Instr) (s : State) (hi : i ≠ .resetPin) : Result.Keeps s (exec i s) := by
  cases hrequest : requestOf i with
  | some x =>
    obtain ⟨r, ops, k⟩ := x
    rw [exec_of_requestOf hrequest]
    exact .next (.takeRequest .refl _ _ _)
  | none =>
    cases i
    case unknownRequest code => exact execUnknownRequest_keeps s code
    case exchangeBegin => exact execExchangeBegin_keeps s
    case exchangeEnd a r => exact execExchangeEnd_keeps s a r
    case answerDelivered => exact execAnswerDelivered_keeps s
    case logReadServed a r => exact execLogReadServed_keeps s a r
    case meterPulse c => exact execMeterPulse_keeps s c
    case startPress c => exact execStartPress_keeps s c
    case startButtonRelease c => exact execStartButtonRelease_keeps s c
    case couplerLost c => exact execCouplerLost_keeps s c
    case couplerConnected c => exact execCouplerConnected_keeps s c
    case groundChange ℓ g => exact execGroundChange_keeps s ℓ g
    case probeChange ℓ p => exact execProbeChange_keeps s ℓ p
    case stopInputChange b => exact execStopInputChange_keeps s b
    case noFlowTimerExpiry c => exact execNoFlowTimerExpiry_keeps s c
    case settleTimerExpiry c => exact execSettleTimerExpiry_keeps s c
    case claimTimerExpiry ℓ => exact execClaimTimerExpiry_keeps s ℓ
    case reclaimTimerExpiry ℓ => exact execReclaimTimerExpiry_keeps s ℓ
    case dispatchPulseEnd ℓ => exact execDispatchPulseEnd_keeps s ℓ
    case minuteAdvance => exact execMinuteAdvance_keeps s
    case dutyNear ℓ => exact execDutyNear_keeps s ℓ
    case dutyTimerExpiry ℓ => exact execDutyTimerExpiry_keeps s ℓ
    case releasedDriverAgeing d => exact execReleasedDriverAgeing_keeps s d
    case holdEntryLapse a n => exact execHoldEntryLapse_keeps s a n
    case transmitStart => exact execTransmitStart_keeps s
    case arbitrationLost => exact execArbitrationLost_keeps s
    case noticeBegun => exact execNoticeBegun_keeps s
    case abort => exact execAbort_keeps s
    case sentWhole => exact execSentWhole_keeps s
    case headerCharacterReceived h => exact execHeaderCharacterReceived_keeps s h
    case breakReceived => exact execBreakReceived_keeps s
    case noticeReceived length body check => exact execNoticeReceived_keeps s length body check
    case receiveLoss k => exact execReceiveLoss_keeps s k
    case refreshTick => exact execRefreshTick_keeps s
    case rowExpiry a => exact execRowExpiry_keeps s a
    case resyncTimerExpiry => exact execResyncTimerExpiry_keeps s
    case joiningTimerExpiry => exact execJoiningTimerExpiry_keeps s
    case stopHeard => exact execStopHeard_keeps s
    case contestHeard => exact execContestHeard_keeps s
    case claimHeard => exact execClaimHeard_keeps s
    case claimEcho => exact execClaimEcho_keeps s
    case drawOnHeard => exact execDrawOnHeard_keeps s
    case drawOnEcho => exact execDrawOnEcho_keeps s
    case drawOffHeard => exact execDrawOffHeard_keeps s
    case releaseHeard => exact execReleaseHeard_keeps s
    case releaseEcho => exact execReleaseEcho_keeps s
    case holdIssueHeard => exact execHoldIssueHeard_keeps s
    case holdCancelHeard => exact execHoldCancelHeard_keeps s
    case statusHeard => exact execStatusHeard_keeps s
    case logWriteStart => exact execLogWriteStart_keeps s
    case logWriteComplete verified => exact execLogWriteComplete_keeps s verified
    case trimMarkWriteStart => exact execTrimMarkWriteStart_keeps s
    case trimMarkWriteComplete verified => exact execTrimMarkWriteComplete_keeps s verified
    case scanEnd fault => exact execScanEnd_keeps s fault
    case powerOn a r => exact execPowerOn_keeps s a r
    case resetPin => exact absurd rfl hi
    case resetPinRelease a r => exact execResetPinRelease_keeps s a r
    all_goals exact absurd hrequest nofun

/-- Every command keeps the invariants of the blocks. -/
theorem exec_keepsBlocks {i : Instr} {s t : State} (h : exec i s = .next t) : s.KeepsBlocks t := by
  by_cases hi : i = .resetPin
  · subst hi
    have h' : (if s.inReset then s else s.outputsOff.setPins { s.pins with resetAsserted := true }) = t :=
      Host.Outcome.next.inj h
    split at h' <;> subst h'
    · exact State.Keeps.refl.toKeepsBlocks
    · exact .pinAsserted
  · exact (exec_keeps i s hi t h).toKeepsBlocks

/-- The invariants do not speak of the commands that wait. -/
theorem State.keeps_pending (s : State) (rest : List Instr) : s.Keeps { s with pending := rest } :=
  State.Keeps.refl.congr rfl rfl rfl rfl rfl rfl rfl rfl

theorem step_keepsBlocks {s t : State} (h : step s = .next t) : s.KeepsBlocks t := by
  unfold step at h
  split at h
  · cases h
    exact State.Keeps.refl.tick.toKeepsBlocks
  case h_2 i rest _ =>
    have h1 := (s.keeps_pending rest).toKeepsBlocks
    have h2 := exec_keepsBlocks h
    exact ⟨h2.memory ∘ h1.memory, h2.attention ∘ h1.attention, h2.queue ∘ h1.queue, h2.places ∘ h1.places,
      h2.line ∘ h1.line, h2.lists ∘ h1.lists, h2.stages ∘ h1.stages⟩

/-! ### The bounds that follow -/

/-- The places of the Send Queue, the HOLD places of the eight own order slots among them (R129). -/
def allPlaces : List Place :=
  [.stop, .status, .contest .a, .contest .b, .claim .a, .claim .b, .release .a, .release .b] ++
    ChanId.all.map .draw ++ (List.range 8).map .hold

theorem mem_allPlaces {p : Place} (h : ∀ n, p = .hold n → n < 8) : p ∈ allPlaces := by
  cases p with
  | hold n => simpa [allPlaces] using h n rfl
  | draw c => cases c <;> simp [allPlaces, ChanId.all]
  | contest ℓ => cases ℓ <;> simp [allPlaces]
  | claim ℓ => cases ℓ <;> simp [allPlaces]
  | release ℓ => cases ℓ <;> simp [allPlaces]
  | stop => simp [allPlaces]
  | status => simp [allPlaces]

/-- One notice for a place and 22 places: the Send Queue holds at most 22 notices (R129). -/
theorem sendQueue_length_le {s : State} (hqueue : sendQueueOrdered s) (hplaces : holdPlaces s) :
    s.line.sendQueue.length ≤ 22 := by
  have hsub : s.line.sendQueue.map (fun e => e.notice.place) ⊆ allPlaces := by
    intro p hp
    obtain ⟨e, he, rfl⟩ := List.mem_map.1 hp
    exact mem_allPlaces (hplaces e he)
  simpa [allPlaces, ChanId.all] using (List.subperm_of_subset hqueue.1 hsub).length_le

/-- Every stage in the queue is of a lane or of a channel. -/
theorem length_eq_sum_owners (q : List StageWrite) :
    q.length = (q.countP (fun w => w.owner == .lane .a) + q.countP (fun w => w.owner == .lane .b)) +
      (ChanId.all.map fun c => q.countP (fun w => w.owner == .channel c)).sum := by
  induction q with
  | nil => rfl
  | cons w q ih =>
    simp only [List.length_cons, List.countP_cons, ih, ChanId.all, List.map_cons, List.map_nil, List.sum_cons, List.sum_nil]
    cases w.owner with
    | lane ℓ => cases ℓ <;> simp <;> omega
    | channel c => cases c <;> simp <;> omega

/-- Two stages of each lane and one of each channel: the Log Write Queue holds at most 10 (R19, R99, R177). -/
theorem logQueue_length_le {s : State} (h : stagesBounded s) : s.log.queue.length ≤ 10 := by
  have hchan (c : ChanId) : s.log.queue.countP (fun w => w.owner == .channel c) ≤ 1 :=
    (h.2 c).trans (ite_le_one le_rfl (Nat.zero_le 1))
  have ha := h.1 .a
  have hb := h.1 .b
  have h0 := hchan .c0
  have h1 := hchan .c1
  have h2 := hchan .c2
  have h3 := hchan .c3
  have h4 := hchan .c4
  have h5 := hchan .c5
  rw [length_eq_sum_owners]
  simp only [ChanId.all, List.map_cons, List.map_nil, List.sum_cons, List.sum_nil]
  omega

/-! ### In a held reset (R209) -/

theorem State.front?_of_inReset {s : State} (hs : s.inReset = true) (kind : Nat) : s.front? kind = none := by
  unfold State.front?
  split <;> simp [State.lineOn, hs]

@[simp] theorem State.sampled_setPressed (s : State) (c d : ChanId) (b : Bool) :
    (s.setPressed c b).sampled d = s.sampled d := rfl

@[simp] theorem State.sampled_setCoupled (s : State) (c d : ChanId) (b : Bool) :
    (s.setCoupled c b).sampled d = s.sampled d := rfl

theorem State.sampled_of_inReset {s : State} (hs : s.inReset = true) (c : ChanId) : s.sampled c = false := by
  simp [State.sampled, hs]

theorem State.driverAged_of_inReset {s : State} (hs : s.inReset = true) (d : Nat) : s.driverAged d = false := by
  have hdue : s.advanceDue = false := by
    unfold State.advanceDue
    split <;> simp [hs]
  unfold State.driverAged
  split <;> simp [hdue]

/-- While the reset pin is held every command but a power-on and the pin's release changes the inputs' levels alone. -/
theorem exec_of_inReset {i : Instr} {s : State} (hs : s.inReset = true) (hpower : ∀ a r, i ≠ .powerOn a r)
    (hrelease : ∀ a r, i ≠ .resetPinRelease a r) : ∃ p : Pins, exec i s = .next (s.setPins p) := by
  have hline : s.lineOn = false := by simp [State.lineOn, hs]
  have hfront := State.front?_of_inReset hs
  have hsampled := State.sampled_of_inReset hs
  have hsame : exec i s = .next s → ∃ p : Pins, exec i s = .next (s.setPins p) := fun h => ⟨s.pins, h⟩
  cases hrequest : requestOf i with
  | some x =>
    obtain ⟨r, ops, k⟩ := x
    refine hsame ?_
    rw [exec_of_requestOf hrequest, State.takeRequest_of_not_receives fun h => by simp [h.1] at hs]
  | none =>
    cases i
    case exchangeBegin =>
      by_cases hc : s.pins.chipSelect = true
      · exact hsame (by simp [exec, execExchangeBegin, hc])
      · exact ⟨_, by simp [exec, execExchangeBegin, hc, State.selectPort, hs]; rfl⟩
    case exchangeEnd a r =>
      by_cases hc : s.pins.chipSelect = true
      · exact ⟨_, by simp [exec, execExchangeEnd, hc, State.selectPort, State.showStraps, hs]; rfl⟩
      · exact hsame (by simp [exec, execExchangeEnd, hc])
    case startPress c =>
      by_cases hp : s.pins.pressed.get c = true
      · exact hsame (by simp [exec, execStartPress, hp])
      · exact ⟨_, by simp [exec, execStartPress, hp, hsampled]; rfl⟩
    case startButtonRelease c => exact ⟨_, rfl⟩
    case couplerLost c => exact ⟨_, by simp [exec, execCouplerLost, hsampled]; rfl⟩
    case couplerConnected c => exact ⟨_, rfl⟩
    case groundChange ℓ g => exact ⟨_, by simp [exec, execGroundChange, hs]; rfl⟩
    case probeChange ℓ p => exact ⟨_, by simp [exec, execProbeChange, hs]; rfl⟩
    case stopInputChange b => exact ⟨_, by simp [exec, execStopInputChange, hline]; rfl⟩
    case powerOn a r => exact absurd rfl (hpower a r)
    case resetPinRelease a r => exact absurd rfl (hrelease a r)
    case resetPin => exact hsame (by simp [exec, execResetPin, hs])
    case unknownRequest code => exact hsame (by simp [exec, execUnknownRequest, hs])
    case answerDelivered => exact hsame (by simp [exec, execAnswerDelivered, hs])
    case logReadServed a r => refine hsame ?_; simp only [exec, execLogReadServed]; split <;> simp [State.logReadReady, hs]
    case meterPulse c => exact hsame (by simp [exec, execMeterPulse, State.sampled, hs])
    case noFlowTimerExpiry c => exact hsame (by simp [exec, execNoFlowTimerExpiry, hs])
    case settleTimerExpiry c => exact hsame (by simp [exec, execSettleTimerExpiry, hs])
    case claimTimerExpiry ℓ => refine hsame ?_; simp only [exec, execClaimTimerExpiry]; split <;> simp [hs]
    case reclaimTimerExpiry ℓ => refine hsame ?_; simp only [exec, execReclaimTimerExpiry]; split <;> simp [hs]
    case dispatchPulseEnd ℓ => exact hsame (by simp [exec, execDispatchPulseEnd, hs])
    case minuteAdvance => refine hsame ?_; simp only [exec, execMinuteAdvance]; split <;> simp [hs]
    case dutyNear ℓ => exact hsame (by simp [exec, execDutyNear, hs])
    case dutyTimerExpiry ℓ => exact hsame (by simp [exec, execDutyTimerExpiry, hs])
    case releasedDriverAgeing d =>
      exact hsame (by simp [exec, execReleasedDriverAgeing, State.driverAged_of_inReset hs])
    case holdEntryLapse a n => refine hsame ?_; simp only [exec, execHoldEntryLapse]; split <;> simp [State.holdLapsed, hs]
    case transmitStart => refine hsame ?_; simp only [exec, execTransmitStart]; split <;> simp [State.mayStartNotice, hline]
    case arbitrationLost => refine hsame ?_; simp only [exec, execArbitrationLost]; split <;> simp [hs]
    case noticeBegun => refine hsame ?_; simp only [exec, execNoticeBegun]; split <;> simp [hs]
    case abort => refine hsame ?_; simp only [exec, execAbort]; split <;> simp [hs]
    case sentWhole => refine hsame ?_; simp only [exec, execSentWhole]; (repeat' split) <;> simp_all
    case headerCharacterReceived h => exact hsame (by simp [exec, execHeaderCharacterReceived, hline])
    case breakReceived => exact hsame (by simp [exec, execBreakReceived, hline])
    case noticeReceived length body check => exact hsame (by simp [exec, execNoticeReceived, hline])
    case receiveLoss k => exact hsame (by simp [exec, execReceiveLoss, hline])
    case refreshTick => exact hsame (by simp [exec, execRefreshTick, hs])
    case rowExpiry a => exact hsame (by simp [exec, execRowExpiry, hs])
    case resyncTimerExpiry => exact hsame (by simp [exec, execResyncTimerExpiry, hs])
    case joiningTimerExpiry => exact hsame (by simp [exec, execJoiningTimerExpiry, hs])
    case stopHeard => exact hsame (by simp [exec, execStopHeard, State.hear, hfront])
    case contestHeard => exact hsame (by simp [exec, execContestHeard, State.hear, hfront])
    case claimHeard => exact hsame (by simp [exec, execClaimHeard, State.hearOther, hfront])
    case claimEcho => exact hsame (by simp [exec, execClaimEcho, State.hearEcho, hfront])
    case drawOnHeard => exact hsame (by simp [exec, execDrawOnHeard, State.hearOther, hfront])
    case drawOnEcho => exact hsame (by simp [exec, execDrawOnEcho, State.hearEcho, hfront])
    case drawOffHeard => exact hsame (by simp [exec, execDrawOffHeard, State.hear, hfront])
    case releaseHeard => exact hsame (by simp [exec, execReleaseHeard, State.hearOther, hfront])
    case releaseEcho => exact hsame (by simp [exec, execReleaseEcho, State.hearEcho, hfront])
    case holdIssueHeard => exact hsame (by simp [exec, execHoldIssueHeard, State.hear, hfront])
    case holdCancelHeard => exact hsame (by simp [exec, execHoldCancelHeard, State.hear, hfront])
    case statusHeard => exact hsame (by simp [exec, execStatusHeard, State.hear, hfront])
    case logWriteStart => refine hsame ?_; simp only [exec, execLogWriteStart]; split <;> simp [State.memoryFree, hs]
    case logWriteComplete verified => refine hsame ?_; simp only [exec, execLogWriteComplete]; split <;> simp [hs]
    case trimMarkWriteStart => refine hsame ?_; simp only [exec, execTrimMarkWriteStart]; split <;> simp [hs]
    case trimMarkWriteComplete verified => refine hsame ?_; simp only [exec, execTrimMarkWriteComplete]; split <;> simp [hs]
    case scanEnd fault => exact hsame (by simp [exec, execScanEnd, hs])
    all_goals exact absurd hrequest nofun

/-! ### The statements -/

/-- Settles O4: every operation on the memory keeps its canonical form. -/
theorem stepKeepsMemoryCanonical : Obligations.StepKeepsMemoryCanonical :=
  fun _ _ hs hstep => (step_keepsBlocks hstep).memory hs

/-- Settles O6: a reason is only ever added once. -/
theorem stepKeepsAttentionOnce : Obligations.StepKeepsAttentionOnce :=
  fun _ _ hs hstep => (step_keepsBlocks hstep).attention hs

/-- Settles O7: a place that holds a notice takes no second, and a notice is inserted behind its kind. -/
theorem stepKeepsSendQueue : Obligations.StepKeepsSendQueue :=
  fun _ _ hs hstep => (step_keepsBlocks hstep).queue hs

/-- Settles O8: each bound is kept, and the two lengths follow from the places of the Send Queue and the owners of stages. -/
theorem stepKeepsBounds : Obligations.StepKeepsBounds := by
  intro s t hstep
  have h := step_keepsBlocks hstep
  exact ⟨fun hline hlists => ⟨h.line hline, h.lists hlists⟩,
    fun hqueue hplaces => ⟨h.places hplaces, sendQueue_length_le (h.queue hqueue) (h.places hplaces)⟩,
    fun hstages => ⟨h.stages hstages, logQueue_length_le (h.stages hstages)⟩⟩

/-- What the outputs and the DRAW-OFFs keep, whether the reset pin is held or not (R86, R91, R209). -/
def State.outputsSound (s : State) : Prop := permitsFollow s ∧ drawOffsReturn s

theorem State.outputsSound.drawsSound {s : State} (h : s.outputsSound) : s.drawsSound := fun hr => ⟨h.1.1 hr, h.2⟩

/-- A step that leaves the pin, the channels and the Send Queue alone keeps the outputs sound. -/
theorem State.outputsSound.congr {s t : State} (h : s.outputsSound) (hpin : t.inReset = s.inReset)
    (hchannels : t.channels = s.channels) (hqueue : t.line.sendQueue = s.line.sendQueue) : t.outputsSound := by
  have hchan (c : ChanId) : t.chan c = s.chan c := by simp [State.chan, hchannels]
  refine ⟨?_, ?_⟩
  · simpa only [permitsFollow, hpin, hchan] using h.1
  · simpa only [drawOffsReturn, hqueue, hchan] using h.2

/-- Outside a held reset the outputs are sound where the channels' permits follow and the DRAW-OFFs are returning. -/
theorem State.outputsSound_of_running {s : State} (h : s.drawsSound) (hr : s.inReset = false) : s.outputsSound :=
  ⟨⟨fun _ => (h hr).1, fun ht => by simp [hr] at ht⟩, (h hr).2⟩

/-- A reset leaves every permit OFF and the Send Queue empty. -/
theorem State.outputsSound_clearBlocks {s t : State} (hchannels : t.channels = s.clearBlocks.channels)
    (hqueue : t.line.sendQueue = []) : t.outputsSound := by
  have hchan (c : ChanId) : t.chan c = Channel.reset := by
    unfold State.chan
    rw [hchannels]
    cases c <;> rfl
  refine ⟨⟨fun _ c => ?_, fun _ c => ?_⟩, ?_⟩
  · rw [hchan]
    exact permitFollows_of_off nofun rfl rfl
  · rw [hchan]
    rfl
  · intro e he
    rw [hqueue] at he
    cases he

/-- The assertion of the reset pin takes every permit OFF and leaves the draws and the Send Queue (R209 step 1). -/
theorem State.outputsSound.pinAsserted {s : State} (h : s.outputsSound) :
    (s.outputsOff.setPins { s.pins with resetAsserted := true }).outputsSound := by
  refine ⟨⟨fun hr => by simp [State.inReset] at hr, fun _ c => ?_⟩, fun e he c hd hn => ?_⟩
  · simp [State.outputsOff, State.abandonExchange, State.chan, Channel.off]
  · have hreturning := h.2 e (by simpa [State.outputsOff, State.abandonExchange, State.releaseLine] using he) c hd hn
    simpa [State.outputsOff, State.abandonExchange, State.chan, Channel.off] using hreturning

theorem exec_outputsSound {i : Instr} {s t : State} (hs : s.outputsSound) (h : exec i s = .next t) : t.outputsSound := by
  by_cases hassert : i = .resetPin
  · subst hassert
    have h' : (if s.inReset then s else s.outputsOff.setPins { s.pins with resetAsserted := true }) = t :=
      Host.Outcome.next.inj h
    split at h' <;> subst h'
    · exact hs
    · exact hs.pinAsserted
  have hkeeps := exec_keeps i s hassert t h
  cases hr : t.inReset with
  | false => exact State.outputsSound_of_running (hkeeps.draws hs.drawsSound) hr
  | true =>
    have hsr := hkeeps.pin hr
    by_cases hpower : ∃ a r, i = .powerOn a r
    · obtain ⟨a, r, rfl⟩ := hpower
      cases h
      exact State.outputsSound_clearBlocks (s := (s.showStraps a r).outputsOff.clearConfig) rfl rfl
    by_cases hrelease : ∃ a r, i = .resetPinRelease a r
    · obtain ⟨a, r, rfl⟩ := hrelease
      cases h
      rw [if_pos hsr] at hr
      cases hr
    obtain ⟨p, hp⟩ := exec_of_inReset hsr (fun a r hi => hpower ⟨a, r, hi⟩) fun a r hi => hrelease ⟨a, r, hi⟩
    obtain rfl := Host.Outcome.next.inj (h.symm.trans hp)
    exact hs.congr (hr.trans hsr.symm) rfl rfl

/-- Settles O5: outside a held reset every operation on a channel keeps its permit in step, and in one nothing acts. -/
theorem stepKeepsPermits : Obligations.StepKeepsPermits := by
  intro s t hpermits hdraws hstep
  unfold step at hstep
  split at hstep
  · cases hstep
    have hkeeps : s.Keeps s.tick := State.Keeps.refl.tick
    cases hr : s.inReset with
    | true =>
      have htick : s.tick = s := by simp [State.tick, hr]
      exact htick.symm ▸ ⟨hpermits, hdraws⟩
    | false =>
      refine State.outputsSound_of_running (hkeeps.draws (State.outputsSound.drawsSound ⟨hpermits, hdraws⟩)) ?_
      exact Bool.eq_false_iff.2 fun ht => by simp [hkeeps.pin ht] at hr
  case h_2 i rest _ =>
    have hpending : ({ s with pending := rest } : State).outputsSound :=
      State.outputsSound.congr ⟨hpermits, hdraws⟩ rfl rfl rfl
    exact exec_outputsSound hpending hstep

end Sys2Proof.Machine

namespace Sys2Proof.Machine

/-! ## Proofs: the step, the reset and the port (chapters 9 and 10) -/

/-- Settles O1. -/
theorem stepRunsFrontCommand : Obligations.StepRunsFrontCommand := by
  intro c rest s h
  simp [step, h]

/-- Settles O2: each value is read off the reset state. -/
theorem resetLeavesStatedValues : Obligations.ResetLeavesStatedValues := by
  refine ⟨rfl, rfl, rfl, rfl, fun ℓ => ?_, fun c => ?_, rfl, fun _ => rfl, rfl, rfl, fun _ => rfl, rfl, rfl, rfl, rfl, rfl,
    rfl, rfl, rfl, rfl, rfl, rfl, fun _ => rfl, fun h => ?_, rfl, rfl, rfl, rfl, fun p => ?_, rfl, rfl, rfl, rfl, rfl, rfl⟩
  · cases ℓ <;> exact ⟨rfl, rfl, rfl, rfl, rfl, rfl, rfl, rfl, rfl, rfl, rfl, rfl⟩
  · cases c <;> exact ⟨rfl, rfl, rfl, rfl, rfl, rfl, rfl, rfl, rfl, rfl, rfl, rfl, rfl, rfl, rfl⟩
  · rfl
  · exact nofun

/-- Settles O3: every list is empty, every count 0, and every permit OFF. -/
theorem invariantsHoldAtReset : Obligations.InvariantsHoldAtReset := by
  obtain ⟨hpermits, hdraws⟩ : State.reset.outputsSound := State.outputsSound_clearBlocks (s := State.reset) rfl rfl
  exact ⟨reset_memoryWf, hpermits, hdraws, List.nodup_nil, ⟨List.nodup_nil, .nil⟩, nofun,
    ⟨Nat.zero_le _, Nat.zero_le _, rfl, Nat.zero_le _, fun _ => rfl⟩,
    ⟨Nat.zero_le _, Nat.zero_le _, Nat.zero_le _⟩, ⟨fun _ => Nat.zero_le _, fun _ => Nat.zero_le _⟩⟩

section Port

variable {i : Instr} {r : Request} {ops : List Byte} {k : CheckWord} {s : State}

/-- Settles O9. -/
theorem wrongCheckWordIsBadFrame : Obligations.WrongCheckWordIsBadFrame := by
  intro i r ops k s hi hreceives hcheck
  rw [exec_of_requestOf hi, State.takeRequest_of_receives hreceives, if_pos hcheck]
  rfl

/-- Settles O10: only CONFIGURE, READ-CAUSE, READ-LOG, TRIM-LOG and RESTART are handed on. -/
theorem unconfiguredRefusesRequests : Obligations.UnconfiguredRefusesRequests := by
  intro i r ops k s hi htakes hstate hconfigure hcause hlog htrim hrestart
  have hr : r.unconfiguredOk = false := by
    cases r <;> first | rfl | contradiction
  exact exec_of_serve hi htakes (serve_of_unconfigured hstate hr)

/-- Settles O12. -/
theorem requestIsHeldBehindRead : Obligations.RequestIsHeldBehindRead := by
  intro i r ops k s hi hreceives hcheck hreading
  rw [exec_of_requestOf hi, State.takeRequest_of_receives hreceives, if_neg (not_not.2 hcheck),
    if_pos (Option.isSome_iff_ne_none.2 hreading)]
  rfl

/-- Settles O13. -/
theorem unknownCodeIsAnswered : Obligations.UnknownCodeIsAnswered := by
  intro code s hs hstep
  have hknown : codeUnknown code = !requestCodes.contains code.toNat := rfl
  refine ⟨fun h => ?_, fun h => ?_⟩
  all_goals
    rw [hknown] at h
    simp only [Bool.not_eq_true', Bool.not_eq_false'] at h
    simp [exec, execUnknownRequest, hs, hstep, h, State.answerWith, -List.contains_eq_mem]

/-- The command of a request answered OK (R194). -/
theorem exec_of_okReply {t : State} {body : List Byte} (hi : requestOf i = some (r, ops, k)) (h : s.takes r ops k)
    (hserve : serve r ops s = (t, some ⟨.ok, body⟩)) : exec i s = .next (t.answersOk r body) :=
  exec_of_serve hi h hserve

/-- A refusal of READ-LOG carries nothing (R183). -/
theorem State.logReply_body (s : State) (index : Nat) (h : (s.logReply index).result ≠ .ok) :
    (s.logReply index).body = [] := by
  unfold State.logReply at h ⊢
  split
  · rfl
  rw [if_neg ‹_›] at h
  split
  · rfl
  case h_2 hslot => simp [hslot] at h

/-- An answer that a request taken brings, where none stood, and that is neither OK nor FINDINGS (R196). -/
theorem State.carryOut_of_refused {t : State} {a : Answer} (hnone : s.port.answer = none) (ht : s.carryOut r ops = t)
    (ha : t.port.answer = some a) (hok : a.result ≠ .ok) (hfindings : a.result ≠ .findings) :
    a.body = [] ∧ t = s.answerWith a := by
  have hreply : ∀ (u : State) (reply : Reply), serve r ops s = (u, some reply) →
      (reply.result ≠ .ok → reply.result ≠ .findings → reply.body = [] ∧ u = s) → a.body = [] ∧ t = s.answerWith a := by
    intro u reply hserve hrefusal
    rw [State.carryOut_of_serve hserve] at ht
    subst ht
    cases ha
    obtain ⟨hbody, rfl⟩ := hrefusal hok hfindings
    exact ⟨hbody, rfl⟩
  by_cases hconf : s.unit.state = .unconfigured ∧ r.unconfiguredOk = false
  · exact hreply s _ (serve_of_unconfigured hconf.1 hconf.2) fun _ _ => ⟨rfl, rfl⟩
  have hserve : serve r ops s = askOwner r ops s := if_neg hconf
  by_cases hr : r = .readLog
  · subst hr
    by_cases hresult : (s.logReply (field ops 0 2)).result = .ok
    · have hwaits : serve .readLog ops s =
          (s.setPort { s.port with reading := some ⟨field ops 0 2, true⟩ }, none) := hserve.trans (if_pos hresult)
      unfold State.carryOut at ht
      rw [hwaits] at ht
      subst ht
      exact absurd (hnone.symm.trans ha) nofun
    · exact hreply s _ (hserve.trans (if_neg hresult)) fun _ _ => ⟨s.logReply_body _ hresult, rfl⟩
  · obtain ⟨p, hp, hreplied⟩ := askOwner_replied ops s r hr
    refine hreply p.1 p.2 (hserve.trans hp) fun hok' hfindings' => ?_
    cases hreplied with
    | refused => exact ⟨rfl, rfl⟩
    | ok => exact absurd rfl hok'
    | findings => exact absurd rfl hfindings'

/-- Settles O11: a wrong check word, the station's state or the owner refuses, and the state is as it was. -/
theorem refusalChangesNothing : Obligations.RefusalChangesNothing := by
  intro i r ops k s t a hi hreceives hnone hexec ha hok hfindings
  rw [exec_of_requestOf hi, State.takeRequest_of_receives hreceives] at hexec
  have ht := Host.Outcome.next.inj hexec
  split at ht
  · subst ht
    cases ha
    exact ⟨rfl, rfl⟩
  split at ht
  · subst ht
    exact absurd (hnone.symm.trans ha) nofun
  · exact State.carryOut_of_refused hnone ht ha hok hfindings

/-- Settles O14: the chip select moves the port, the reported marks and what waits in it, and no other block. -/
theorem exchangesBeginAndEnd : Obligations.ExchangesBeginAndEnd := by
  refine ⟨fun s hselect hs => ?_, fun a r s hselect hs hrestart => ?_⟩
  · cases hheld : s.port.held <;> simp [exec, execExchangeBegin, State.selectPort, hselect, hs, hheld]
  · refine ⟨((s.selectPort false).showStraps a r).endExchange, ?_, ?_⟩
    · simp [exec, execExchangeEnd, State.selectPort, State.showStraps, hselect, hs, hrestart]
    · exact ⟨rfl, rfl, rfl, rfl, rfl, rfl, rfl, rfl, rfl, rfl, rfl, rfl, rfl, rfl, rfl, rfl⟩

/-- Settles O16. -/
theorem emptyingReadsMarkWhatTheyCarry : Obligations.EmptyingReadsMarkWhatTheyCarry :=
  ⟨fun _ _ htakes hconf => exec_of_serve rfl htakes (serve_of_configured hconf),
    fun _ _ htakes => exec_of_serve rfl htakes (serve_of_unconfiguredOk rfl)⟩

/-- Settles O17: by the two answers that empty something. -/
theorem deliveryEmptiesWhatWasReported : Obligations.DeliveryEmptiesWhatWasReported := by
  intro s a hs hstep hanswer
  refine ⟨(s.setPort { s.port with step := .done, answer := none }).delivered a, ?_, ?_⟩
  · simp [exec, execAnswerDelivered, hs, hstep, hanswer]
  unfold State.delivered
  split
  case h_1 hreq hres => simp [hreq, hres, State.dropReported]
  case h_2 hreq hres => simp [hreq, hres]
  case h_3 hattention hcause =>
    have h1 : ¬ (a.request = some .readAttention ∧ a.result = .ok) := fun h => hattention h.1 h.2
    have h2 : ¬ (a.request = some .readCause ∧ a.result = .ok) := fun h => hcause h.1 h.2
    simp [h1, h2]

/-- Settles O18. -/
theorem readsChangeNothing : Obligations.ReadsChangeNothing := by
  refine ⟨fun ops k s ℓ htakes hconf hlane => ?_, fun ops k s c cfg htakes hconf hchan => ?_,
    fun ops k s htakes hconf hindex => ?_⟩
  · refine exec_of_okReply (i := .readLane ops k) rfl htakes ((serve_of_configured hconf).trans ?_)
    simp [askOwner, atOnce, ownReadLane, hlane, okReply]
  · refine exec_of_okReply (i := .readChannel ops k) rfl htakes ((serve_of_configured hconf).trans ?_)
    simp [askOwner, atOnce, ownReadChannel, hchan, okReply]
  · refine exec_of_okReply (i := .readPeers ops k) rfl htakes ((serve_of_configured hconf).trans ?_)
    simp [askOwner, atOnce, ownReadPeers, not_lt.2 hindex, okReply]

end Port

end Sys2Proof.Machine

namespace Sys2Proof.Machine

/-! ## Proofs: what the start scan and an abandoned write leave of the memory (R182, R189) -/

/-- The entries of one area, however often the memory lists it. -/
def entriesAt (m : Assoc (List Byte)) (key : Nat) : Assoc (List Byte) := m.filter (fun e => e.1 == key)

theorem mem_entriesAt {m : Assoc (List Byte)} {key : Nat} {e : Nat × List Byte} :
    e ∈ entriesAt m key ↔ e ∈ m ∧ e.1 = key := by
  simp [entriesAt]

/-- An area reads as its entries give it. -/
theorem readArea_eq_of_entriesAt {m m' : Assoc (List Byte)} {key : Nat} (h : entriesAt m key = entriesAt m' key) :
    readArea m key = readArea m' key := by
  have hread : ∀ m : Assoc (List Byte), readArea m key = readArea (entriesAt m key) key := by
    intro m
    induction m with
    | nil => rfl
    | cons e m ih =>
      obtain ⟨i, v⟩ := e
      unfold readArea at ih ⊢
      by_cases hi : i = key
      · simp [entriesAt, Assoc.get, hi]
      · simpa [entriesAt, Assoc.get, hi] using ih
  rw [hread m, hread m', h]

theorem entriesAt_insert {k key : Nat} (x : List Byte) (m : Assoc (List Byte)) (h : key ≠ k) :
    entriesAt (Assoc.insert k x m) key = entriesAt m key := by
  have hk : (k == key) = false := beq_eq_false_iff_ne.2 (Ne.symm h)
  induction m with
  | nil => simp [entriesAt, Assoc.insert, hk]
  | cons e m ih =>
    obtain ⟨i, v⟩ := e
    unfold Assoc.insert
    unfold entriesAt at ih ⊢
    split
    · simp [List.filter_cons, hk]
    split
    case isTrue hi => simp [hk, ← hi]
    · simp [List.filter_cons, ih]

theorem entriesAt_erase {k key : Nat} (m : Assoc (List Byte)) (h : key ≠ k) :
    entriesAt (Assoc.erase k m) key = entriesAt m key := by
  induction m with
  | nil => rfl
  | cons e m ih =>
    obtain ⟨i, v⟩ := e
    unfold Assoc.erase
    unfold entriesAt at ih ⊢
    split
    case isTrue hi => simp [hi, Ne.symm h]
    · simp [List.filter_cons, ih]

/-- A write leaves every other area's entries as they were. -/
theorem entriesAt_writeArea {k key : Nat} (m : Assoc (List Byte)) (image : List Byte) (h : key ≠ k) :
    entriesAt (writeArea m k image) key = entriesAt m key := by
  unfold writeArea Assoc.put
  split
  · exact entriesAt_erase m h
  · exact entriesAt_insert _ m h

theorem entriesAt_foldl_writeArea (f : Assoc (List Byte) → Nat → List Byte) {key : Nat} (keys : List Nat)
    (m : Assoc (List Byte)) (h : key ∉ keys) :
    entriesAt (keys.foldl (fun acc k => writeArea acc k (f acc k)) m) key = entriesAt m key := by
  induction keys generalizing m with
  | nil => rfl
  | cons k ks ih =>
    obtain ⟨hk, hks⟩ : key ≠ k ∧ key ∉ ks := by simpa using h
    exact (ih _ hks).trans (entriesAt_writeArea m _ hk)

theorem entriesAt_cutAreas (n : Nat) {key : Nat} (keys : List Nat) (m : Assoc (List Byte)) (h : key ∉ keys) :
    entriesAt (cutAreas n keys m) key = entriesAt m key := entriesAt_foldl_writeArea _ keys m h

theorem entriesAt_clearSlot_of_ne (m : Assoc (List Byte)) {p key : Nat} (h : key / areasPerSlot ≠ p) :
    entriesAt (clearSlot m p) key = entriesAt m key := by
  unfold entriesAt clearSlot
  rw [List.filter_filter]
  refine List.filter_congr fun e _ => ?_
  by_cases he : e.1 = key
  · simp [he, h]
  · simp [he]

theorem areaKey_mod (p : Nat) {area : Nat} (h : area < areasPerSlot) : areaKey p area % areasPerSlot = area := by
  unfold areaKey areasPerSlot at *
  omega

theorem areaKey_div (p : Nat) {area : Nat} (h : area < areasPerSlot) : areaKey p area / areasPerSlot = p := by
  unfold areaKey areasPerSlot at *
  omega

/-- The entries of a slot, by their areas. -/
theorem mem_slotImages {m : Assoc (List Byte)} {p : Nat} {e : Nat × List Byte} (h : e ∈ slotImages m p) :
    (areaKey p e.1, e.2) ∈ m := by
  obtain ⟨x, hx, rfl⟩ := List.mem_map.1 h
  obtain ⟨hx, hp⟩ := List.mem_filter.1 hx
  have hkey : areaKey p (x.1 % areasPerSlot) = x.1 := by
    rw [← beq_iff_eq.1 hp]
    unfold areaKey areasPerSlot
    omega
  dsimp only
  rw [hkey]
  exact hx

theorem mem_slotImages_of_mem {m : Assoc (List Byte)} {key : Nat} {v : List Byte} (h : (key, v) ∈ m) :
    (key % areasPerSlot, v) ∈ slotImages m (key / areasPerSlot) :=
  List.mem_map.2 ⟨(key, v), List.mem_filter.2 ⟨h, by simp⟩, rfl⟩

/-- The scan of a slot leaves alone the area of a key that is not an OUTCOME's and lists nothing that fails its check
(R182, R189). -/
theorem entriesAt_scanSlot (mark n : Nat) (faultAt : Option Nat) (acc : ScanState) (p : Nat) {key : Nat}
    (houtcome : key % areasPerSlot ≠ areaOutcome) (hgood : ∀ e ∈ acc.memory, e.1 = key → verifies e.2 = true) :
    entriesAt (scanSlot mark n faultAt acc p).memory key = entriesAt acc.memory key := by
  have hbad : ∀ (keys : List (Nat × List Byte)), (∀ e ∈ keys, e ∈ slotImages acc.memory p ∧ verifies e.2 = false) →
      key ∉ keys.map (fun e => areaKey p e.1) := by
    intro keys hkeys hmem
    obtain ⟨e, he, hek⟩ := List.mem_map.1 hmem
    obtain ⟨hslot, hfails⟩ := hkeys e he
    rw [hgood _ (mem_slotImages hslot) hek] at hfails
    cases hfails
  have hkey : key ≠ areaKey p areaOutcome := fun h => houtcome (by rw [h]; exact areaKey_mod p (by decide))
  have htorn (top : Nat) : key ∉ ((slotImages acc.memory p).filter
      (fun e => !verifies e.2 && decide (top < imageStage e.2))).map (fun e => areaKey p e.1) :=
    hbad _ fun e he => by
      obtain ⟨hslot, hfails⟩ := List.mem_filter.1 he
      exact ⟨hslot, by simpa using (Bool.and_eq_true_iff.1 hfails).1⟩
  have hall (hempty : ((slotImages acc.memory p).filter (fun e => verifies e.2)).isEmpty = true) :
      ∀ e ∈ slotImages acc.memory p, e ∈ slotImages acc.memory p ∧ verifies e.2 = false := fun e he =>
    ⟨he, by simpa using (List.filter_eq_nil_iff.1 (List.isEmpty_iff.1 hempty)) e he⟩
  unfold scanSlot
  dsimp only
  split
  · rfl
  split
  case isTrue hempty =>
    split
    · rfl
    split
    · exact entriesAt_cutAreas n _ _ (hbad _ (hall hempty))
    · by_cases hp : key / areasPerSlot = p
      · have hnone : entriesAt acc.memory key = [] := List.eq_nil_iff_forall_not_mem.2 fun e he => by
          obtain ⟨hmem, hek⟩ := mem_entriesAt.1 he
          have hslot := mem_slotImages_of_mem (key := e.1) (v := e.2) hmem
          rw [hek, hp] at hslot
          have hfails := (hall hempty _ hslot).2
          rw [hgood e hmem hek] at hfails
          cases hfails
        rw [hnone]
        refine List.eq_nil_iff_forall_not_mem.2 fun e he => ?_
        obtain ⟨hmem, hek⟩ := mem_entriesAt.1 he
        exact absurd (mem_entriesAt.2 ⟨(List.mem_filter.1 hmem).1, hek⟩) (by simp [hnone])
      · exact entriesAt_clearSlot_of_ne _ hp
  split
  · rfl
  split
  · rfl
  split
  · rfl
  split
  · refine entriesAt_cutAreas n _ _ fun h => ?_
    obtain h | h := List.mem_append.1 h
    · exact htorn _ h
    · exact hkey (List.mem_singleton.1 h)
  · dsimp only
    exact (entriesAt_writeArea _ _ hkey).trans (entriesAt_foldl_writeArea (fun _ _ => []) _ _ (htorn _))

theorem entriesAt_scanSlots (mark n : Nat) (faultAt : Option Nat) (ps : List Nat) (acc : ScanState) {key : Nat}
    (houtcome : key % areasPerSlot ≠ areaOutcome) (hgood : ∀ e ∈ acc.memory, e.1 = key → verifies e.2 = true) :
    entriesAt (ps.foldl (scanSlot mark n faultAt) acc).memory key = entriesAt acc.memory key := by
  induction ps generalizing acc with
  | nil => rfl
  | cons p ps ih =>
    have hslot := entriesAt_scanSlot mark n faultAt acc p houtcome hgood
    refine (ih _ fun e he hek => ?_).trans hslot
    have hmem := mem_entriesAt.2 ⟨he, hek⟩
    rw [hslot] at hmem
    exact hgood e (mem_entriesAt.1 hmem).1 hek

theorem areaKey_lt_slotKeys {p key : Nat} (h : key ∈ slotKeys p) : key / areasPerSlot = p := by
  obtain ⟨area, harea, rfl⟩ := List.mem_map.1 h
  exact areaKey_div p (List.mem_range.1 harea)

/-- What is abandoned touches the areas of its own write or of the scan alone (R182, R189). -/
theorem memoryKept_abandonWrite (s : State) : memoryKept s s.abandonWrite := by
  intro key hwrite hscan
  apply readArea_eq_of_entriesAt
  unfold State.abandonWrite
  split
  · split
    case isTrue hscanning =>
      have hgood : ∀ e ∈ s.log.memory, e.1 = key → verifies e.2 = true := fun e he hek => by
        by_contra hfails
        exact hscan ⟨hscanning.1, .inr ⟨e, he, hek, by simpa using hfails⟩⟩
      exact entriesAt_scanSlots _ _ _ _ ⟨[], s.log.memory, false⟩ (fun h => hscan ⟨hscanning.1, .inl h⟩) hgood
    · rfl
  · rfl
  case h_3 area number second hwriting =>
    split
    · rfl
    case h_2 w rest hqueue =>
      refine entriesAt_cutAreas _ _ _ fun hkey => hwrite ⟨area, number, second, w, hwriting, by simp [hqueue], ?_⟩
      split at hkey
      case isTrue hheader => exact .inr ⟨hheader, areaKey_lt_slotKeys hkey⟩
      · exact .inl (List.mem_singleton.1 hkey)

theorem memoryKept.congr {s t s' t' : State} (h : memoryKept s t) (hs : s'.log = s.log)
    (ht : t'.log.memory = t.log.memory) : memoryKept s' t' := by
  simpa only [memoryKept, writeTouches, scanTouches, hs, ht] using h

end Sys2Proof.Machine

namespace Sys2Proof.Machine

/-! ## Proofs: the resets (chapter 10) -/

/-- An abandoned write leaves the log but for the memory as it was, nothing being written (R182, R186). -/
theorem State.abandonWrite_log (s : State) :
    s.abandonWrite.log = { s.log with writing := none, memory := s.abandonWrite.log.memory } := by
  unfold State.abandonWrite
  split
  case h_1 hwriting =>
    split
    · simp [← hwriting]
    · rw [← hwriting]
  · simp
  · split <;> simp

/-- The first step of a reset: the permits go OFF, the line is released, and what was in progress is abandoned (R209). -/
theorem State.outputsOff_log (s : State) :
    s.outputsOff.log = { s.log with writing := none, memory := s.outputsOff.log.memory } := by
  unfold State.outputsOff
  exact State.abandonWrite_log _

theorem State.memoryKept_outputsOff (s : State) : memoryKept s s.outputsOff := by
  unfold State.outputsOff
  dsimp only
  generalize hu : State.abandonExchange _ = u
  exact (memoryKept_abandonWrite u).congr (by rw [← hu]; rfl) rfl

theorem State.outputsOff_frame (s : State) : s.outputsOff.pins = s.pins ∧
    s.outputsOff.unit = { s.unit with reported := .none } ∧ s.outputsOff.pending = s.pending ∧
    s.outputsOff.port = .reset ∧ s.outputsOff.attention = s.attention ∧ s.outputsOff.lists = s.lists ∧
    s.outputsOff.view = s.view ∧ s.outputsOff.released = s.released ∧
    s.outputsOff.line = { s.line with transmitter := none, breakLeft := 0 } ∧
    s.outputsOff.channels = s.channels.map Channel.off := by
  simp [State.outputsOff, State.abandonExchange, State.releaseLine]

theorem State.lane_outputsOff (s : State) (ℓ : LaneId) : s.outputsOff.lane ℓ = (s.lane ℓ).off := by
  cases ℓ <;> simp [State.outputsOff, State.abandonExchange, State.lane, Lanes.get, Lanes.set]

/-- Steps 3 to 6 of a reset: the blocks at their values after reset, and the straps read (R209). -/
theorem blocksReset_of_clearBlocks {s u t : State} (hblocks : t = (u.clearBlocks.setUnit t.unit)) (hpending : u.pending = s.pending)
    (hmark : u.log.markImage = s.log.markImage) (haddress : t.unit.address = u.pins.strapAddress)
    (hrate : t.unit.rate = u.pins.strapRate) : blocksReset s t u.pins.strapAddress u.pins.strapRate := by
  rw [hblocks]
  exact ⟨rfl, rfl, rfl, rfl, rfl, rfl, rfl, rfl, by rw [← hmark]; rfl, haddress, hrate, rfl, rfl, hpending⟩

/-- A RESTART carried out (R210). -/
theorem State.restartReset_resets (s : State) :
    s.restartReset.unit = ⟨if s.unit.config = none then .unconfigured else .starting, s.unit.config, s.unit.clock,
      s.unit.phase, s.unit.subMs, s.pins.strapAddress, s.pins.strapRate, { s.unit.causes with restart := true },
      CauseSet.none⟩ ∧
    blocksReset s s.restartReset s.pins.strapAddress s.pins.strapRate ∧ memoryKept s s.restartReset ∧
    s.restartReset.pins = s.pins := by
  obtain ⟨hpins, hunit, hpending, -⟩ := s.outputsOff_frame
  refine ⟨?_, ?_, ?_, ?_⟩
  · cases hconfig : s.unit.config <;>
      simp [State.restartReset, State.readStraps, State.setCauses, State.clearBlocks, hpins, hunit, hconfig]
  · rw [← hpins]
    refine blocksReset_of_clearBlocks (u := s.outputsOff) rfl hpending ?_ rfl rfl
    rw [s.outputsOff_log]
  · exact s.memoryKept_outputsOff.congr rfl rfl
  · exact hpins

/-- A power-on reset (R209). -/
theorem State.powerOnReset_resets (s : State) :
    s.powerOnReset.unit = ⟨.unconfigured, none, none, 0, 0, s.pins.strapAddress, s.pins.strapRate, ⟨true, false, false⟩,
      CauseSet.none⟩ ∧
    blocksReset s s.powerOnReset s.pins.strapAddress s.pins.strapRate ∧ memoryKept s s.powerOnReset := by
  obtain ⟨hpins, hunit, hpending, -⟩ := s.outputsOff_frame
  refine ⟨?_, ?_, ?_⟩
  · simp [State.powerOnReset, State.readStraps, State.setCauses, State.clearBlocks, State.clearConfig, hpins]
  · rw [← hpins]
    refine blocksReset_of_clearBlocks (u := s.outputsOff) rfl hpending ?_ rfl rfl
    rw [s.outputsOff_log]
  · exact s.memoryKept_outputsOff.congr rfl rfl

/-- Settles O15: the three resets clear the same blocks, and differ in the unit's fields and in when the write is abandoned. -/
theorem resetsClearTheStation : Obligations.ResetsClearTheStation := by
  refine ⟨fun a r s hselect hs hrestart => ?_, fun a r s => ?_, fun s hs => ?_, fun a r s hs => ?_⟩
  · obtain ⟨hunit, hblocks, hmemory, hpins⟩ :=
      (((s.selectPort false).showStraps a r).endExchange).restartReset_resets
    refine ⟨_, ?_, hunit, hblocks, hmemory.congr rfl rfl, ?_⟩
    · simp [exec, execExchangeEnd, State.selectPort, State.showStraps, hselect, hs, hrestart]
    · rw [hpins]
      rfl
  · obtain ⟨hunit, hblocks, hmemory⟩ := (s.showStraps a r).powerOnReset_resets
    exact ⟨_, rfl, hunit, hblocks, hmemory.congr rfl rfl⟩
  · obtain ⟨-, hunit, hpending, hport, hattention, hlists, hview, hreleased, hline, hchannels⟩ := s.outputsOff_frame
    refine ⟨s.outputsOff.setPins { s.pins with resetAsserted := true }, ?_, rfl, fun c => ?_, s.lane_outputsOff, hport, hline,
      s.outputsOff_log, s.memoryKept_outputsOff.congr rfl rfl, hunit, hattention, hlists, hview, hreleased, hpending⟩
    · simp [exec, execResetPin, hs]
    · simp [State.chan, hchannels, Channel.off]
  · refine ⟨((s.setPins { s.pins with resetAsserted := false }).showStraps a r).pinReset, ?_, rfl, ?_, rfl, rfl⟩
    · simp [exec, execResetPinRelease, hs]
    exact ⟨rfl, rfl, rfl, rfl, rfl, rfl, rfl, rfl, rfl, rfl, rfl, rfl, rfl, rfl⟩

end Sys2Proof.Machine

namespace Sys2Proof.Machine

/-! ## Proofs: TRIM-LOG, CONFIGURE and RESTART -/

/-- What a slot's entry reads as after a write to one. -/
theorem DeliveryLog.slot_setSlot (l : DeliveryLog) (h : Assoc.wf SlotEntry.free l.table = true) (q p : Nat)
    (e : SlotEntry) : (l.setSlot q e).slot p = if p = q then e else l.slot p := by
  unfold DeliveryLog.slot DeliveryLog.setSlot
  exact Assoc.get_put _ _ _ _ _ h

theorem DeliveryLog.setSlot_wf (l : DeliveryLog) (h : Assoc.wf SlotEntry.free l.table = true) (q : Nat) (e : SlotEntry) :
    Assoc.wf SlotEntry.free (l.setSlot q e).table = true := by
  unfold DeliveryLog.setSlot
  exact Assoc.wf_put _ _ _ _ h

/-- Freeing slots makes the freed ones FREE and leaves every other (R185). -/
theorem DeliveryLog.slot_freeSlotsOf (gone : List (Nat × SlotEntry)) (l : DeliveryLog)
    (h : Assoc.wf SlotEntry.free l.table = true) (p : Nat) :
    (l.freeSlotsOf gone).slot p = if gone.any (fun e => e.1 == p) then SlotEntry.free else l.slot p := by
  induction gone generalizing l with
  | nil => rfl
  | cons e gone ih =>
    have hstep : l.freeSlotsOf (e :: gone) = (l.setSlot e.1 .free).freeSlotsOf gone := rfl
    rw [hstep, ih _ (l.setSlot_wf h _ _), l.slot_setSlot h]
    by_cases hp : p = e.1
    · simp [hp]
    · rw [if_neg hp, List.any_cons, beq_eq_false_iff_ne.2 (Ne.symm hp), Bool.false_or]

theorem DeliveryLog.freeSlotsOf_table (gone : List (Nat × SlotEntry)) (l : DeliveryLog) :
    l.freeSlotsOf gone = { l with table := (l.freeSlotsOf gone).table } := by
  induction gone generalizing l with
  | nil => rfl
  | cons e gone ih => exact ih (l.setSlot e.1 .free)

/-- The log after a walk: the slots free, and the mark that of the last (R185, R186). -/
theorem State.trim_log (s : State) (gone : List (Nat × SlotEntry)) :
    (gone = [] → s.trim gone = s) ∧ (∀ last, gone.getLast? = some last → s.trim gone = s.setLog { s.log with
      table := (s.log.freeSlotsOf gone).table
      trimMark := last.2.seq.getD 0
      pendingMark := some (last.2.seq.getD 0) }) := by
  refine ⟨fun h => by subst h; rfl, fun last hlast => ?_⟩
  unfold State.trim
  rw [hlast]
  dsimp only
  rw [DeliveryLog.freeSlotsOf_table]

/-- Settles O20: the walk ends at the first slot that is not CLOSED, and its last slot gives the mark. -/
theorem trimFreesTheOldestClosedSlots : Obligations.TrimFreesTheOldestClosedSlots := by
  intro ops k s htakes hready hn htable
  obtain ⟨gone, hgone⟩ : ∃ gone, gone = trimWalk (field ops 0 2) s.log.bySequence := ⟨_, rfl⟩
  have hexec : exec (.trimLog ops k) s = .next ((s.trim gone).answersOk .trimLog
      (be 2 gone.length ++ be 2 (s.trim gone).log.freeSlots)) := by
    refine exec_of_okReply (i := .trimLog ops k) rfl htakes ((serve_of_unconfiguredOk rfl).trans ?_)
    simp [askOwner, atOnce, ownTrimLog, Config.slots, not_lt.2 hn, hready, okReply, hgone]
  obtain ⟨hnone, hsome⟩ := s.trim_log gone
  refine ⟨_, gone, hexec, hgone, ?_⟩
  cases hlast : gone.getLast? with
  | none =>
    obtain rfl : gone = [] := List.getLast?_eq_none_iff.1 hlast
    rw [hnone rfl]
    simp [State.answersOk, State.answerWith, sameStation]
  | some last =>
    have hslot (p : Nat) := DeliveryLog.slot_freeSlotsOf gone s.log htable p
    rw [hsome last hlast]
    refine ⟨hslot, fun hempty => ?_, fun last' hlast' => ?_, rfl, rfl, rfl, rfl, ⟨rfl, rfl, rfl, rfl, rfl⟩, rfl, rfl, rfl, rfl,
      rfl, rfl⟩
    · simp [hempty] at hlast
    · obtain rfl : last = last' := Option.some.inj hlast'
      rfl

/-! ### The Send Queue alone -/

/-- The line but for its Send Queue is the same in both states. -/
def sendQueueOnly (s t : State) : Prop := t.line = { s.line with sendQueue := t.line.sendQueue }

theorem sendQueueOnly.refl (s : State) : sendQueueOnly s s := rfl

theorem sendQueueOnly.trans {s t u : State} (h : sendQueueOnly s t) (h' : sendQueueOnly t u) : sendQueueOnly s u := by
  unfold sendQueueOnly at *
  rw [h', h]

theorem sendQueueOnly.of_line_eq {s t : State} (h : t.line = s.line) : sendQueueOnly s t := by
  unfold sendQueueOnly
  rw [h]

theorem sendQueueOnly_queueNotice (s : State) (n : Notice) : sendQueueOnly s (s.queueNotice n) := by
  unfold State.queueNotice
  split
  · exact .refl s
  · rfl

/-- The notice queued stands in its place where that was free, and what it held stays otherwise (R129). -/
theorem State.noticeAt_queueNotice_ne_none (s : State) (n : Notice) : (s.queueNotice n).noticeAt n.place ≠ none := by
  rw [State.noticeAt_queueNotice]
  split
  · exact nofun
  case isFalse h => exact fun hn => h ⟨rfl, hn⟩

theorem noticesKept_queueNotice (s : State) (n : Notice) : noticesKept (· = n.place) s (s.queueNotice n) := fun p hp => by
  rw [State.noticeAt_queueNotice, if_neg fun h => hp h.1.symm]

/-- The STOP that states the input is queued where it differs from the announced direction (R106). -/
theorem State.noticeAt_queueStop (s : State) (p : Place) :
    s.queueStop.noticeAt p = if s.pins.stopChain ≠ s.lists.announcedAssert ∧ p = .stop ∧ s.noticeAt .stop = none then
      some ⟨.stop s.pins.stopChain, false⟩ else s.noticeAt p := by
  unfold State.queueStop
  split
  case isTrue h => simp [h]
  case isFalse h =>
    rw [State.noticeAt_queueNotice]
    by_cases hp : p = .stop
    · subst hp; simp [h, Notice.place]
    · simp [h, hp, Notice.place, Ne.symm hp]

theorem sendQueueOnly_queueStop (s : State) : sendQueueOnly s s.queueStop := by
  unfold State.queueStop
  split
  · exact .refl s
  · exact sendQueueOnly_queueNotice s _

theorem State.queueStop_lists (s : State) : s.queueStop.lists = s.lists := by
  unfold State.queueStop
  split <;> simp

/-- What entering JOINING does: the timers run, a STATUS is queued, and a pulled stop chain is stated (R105, R163, R204). -/
structure State.JoiningEntered (s t : State) : Prop where
  unit : t.unit = { s.unit with state := .joining }
  view : t.view = { s.view with
    refresh := some s.refreshMs
    resync := some (2 * s.refreshMs)
    joining := some (2 * s.refreshMs) }
  status : t.noticeAt .status ≠ none
  stop : s.lists.announcedAssert = false → s.noticeAt .stop = none →
    t.noticeAt .stop = if s.pins.stopChain then some ⟨.stop true, false⟩ else none
  notices : noticesKept (fun p => p = .status ∨ p = .stop) s t
  lists : t.lists = if s.pins.stopChain then s.lists.setStop s.unit.address .live else s.lists
  line : sendQueueOnly s t

theorem State.joiningEntered (s : State) : s.JoiningEntered s.enterJoining := by
  obtain ⟨v, hv⟩ : ∃ v, v = (s.setUnit { s.unit with state := .joining }).setView { s.view with
    refresh := some s.refreshMs
    resync := some (2 * s.refreshMs)
    joining := some (2 * s.refreshMs) } := ⟨_, rfl⟩
  have hpins : v.pins = s.pins := by rw [hv]; rfl
  have hlists : v.lists = s.lists := by rw [hv]; rfl
  have hline : v.line = s.line := by rw [hv]; rfl
  have haddress : v.unit.address = s.unit.address := by rw [hv]; rfl
  have hunit : v.unit = { s.unit with state := .joining } := by rw [hv]; rfl
  have hview : v.view = { s.view with
    refresh := some s.refreshMs
    resync := some (2 * s.refreshMs)
    joining := some (2 * s.refreshMs) } := by rw [hv]; rfl
  have hat (p : Place) : v.noticeAt p = s.noticeAt p := by unfold State.noticeAt; rw [hline]
  have hone : sendQueueOnly s (v.queueNotice .status) :=
    (sendQueueOnly.of_line_eq hline).trans (sendQueueOnly_queueNotice v _)
  have hjoin : s.enterJoining = if (v.queueNotice .status).pins.stopChain then
      (v.queueNotice .status).setOwnStop.queueStop else v.queueNotice .status := by
    subst hv
    rfl
  rw [hjoin, show (v.queueNotice .status).pins.stopChain = s.pins.stopChain by simp [hpins]]
  cases hchain : s.pins.stopChain with
  | false =>
    rw [if_neg (by simp)]
    refine ⟨by simp [hunit], by simp [hview], State.noticeAt_queueNotice_ne_none v .status, fun _ hstop => ?_, fun p hp => ?_,
      by simp [hlists, hchain], hone⟩
    · simp [State.noticeAt_queueNotice, Notice.place, hat, hstop, hchain]
    · rw [State.noticeAt_queueNotice, if_neg fun h => hp (.inl h.1.symm), hat]
  | true =>
    rw [if_pos rfl]
    have hat' (p : Place) : (v.queueNotice .status).setOwnStop.noticeAt p = (v.queueNotice .status).noticeAt p := rfl
    have hpins' : (v.queueNotice .status).setOwnStop.pins.stopChain = true := by simp [State.setOwnStop, hpins, hchain]
    have hann : (v.queueNotice .status).setOwnStop.lists.announcedAssert = s.lists.announcedAssert := by
      simp [State.setOwnStop, Lists.setStop, hlists]
    refine ⟨?_, ?_, ?_, fun hoff hstop => ?_, fun p hp => ?_, ?_, ?_⟩
    · simp [hunit]
    · simp [hview]
    · rw [State.noticeAt_queueStop, if_neg fun h => by simp at h, hat']
      exact State.noticeAt_queueNotice_ne_none v .status
    · rw [State.noticeAt_queueStop, hpins', hann, hoff]
      simp [hat', State.noticeAt_queueNotice, Notice.place, hat, hstop, hchain]
    · rw [State.noticeAt_queueStop, if_neg fun h => hp (.inr h.2.1), hat', State.noticeAt_queueNotice,
        if_neg fun h => hp (.inl h.1.symm), hat]
    · rw [State.queueStop_lists]
      simp [State.setOwnStop, hlists, haddress, hpins, hchain]
    · exact hone.trans ((sendQueueOnly.of_line_eq rfl).trans (sendQueueOnly_queueStop _))

/-- Settles O21: the STATUS is queued in JOINING, and the stop chain is read after it. -/
theorem startUpRequestsAct : Obligations.StartUpRequestsAct := by
  refine ⟨fun ops k s cfg m htakes hstate hlog hfields => ?_, fun k s htakes =>
    exec_of_serve (i := .restart [] k) rfl htakes (serve_of_unconfiguredOk rfl)⟩
  obtain ⟨u, hu⟩ : ∃ u, u = s.setUnit { s.unit with config := some cfg, clock := some m, phase := 0, subMs := 0 } := ⟨_, rfl⟩
  have hexec : exec (.configure ops k) s = .next (u.enterJoining.answersOk .configure
      (be 1 s.unit.address ++ be 1 s.unit.rate)) := by
    refine exec_of_okReply (i := .configure ops k) rfl htakes ((serve_of_unconfiguredOk rfl).trans ?_)
    simp [askOwner, atOnce, ownConfigure, hstate, hlog, hfields, okReply, hu]
  have hu' : u.unit = { s.unit with config := some cfg, clock := some m, phase := 0, subMs := 0 } := by rw [hu]; rfl
  have hview : u.view = s.view := by rw [hu]; rfl
  have hpins : u.pins = s.pins := by rw [hu]; rfl
  have hlists : u.lists = s.lists := by rw [hu]; rfl
  have hline : u.line = s.line := by rw [hu]; rfl
  have hms : u.refreshMs = cfg.refresh * 1000 := by rw [hu]; rfl
  have hat (p : Place) : u.noticeAt p = s.noticeAt p := by unfold State.noticeAt; rw [hline]
  obtain ⟨hunit', hview', hstatus, hstop, hnotices, hlists', hline'⟩ := u.joiningEntered
  refine ⟨_, hexec, ?_, ?_, hstatus, fun hoff hnone => ?_, fun p hp => (hnotices p hp).trans (hat p), ?_, rfl, ?_⟩
  · exact hunit'.trans (by rw [hu'])
  · exact hview'.trans (by rw [hview, hms])
  · exact (hstop (by rw [hlists]; exact hoff) ((hat _).trans hnone)).trans (by rw [hpins])
  · exact hlists'.trans (by rw [hpins, hlists, hu'])
  · have hsend : u.enterJoining.line = { s.line with sendQueue := u.enterJoining.line.sendQueue } :=
      hline ▸ hline'
    subst hu
    simp only [State.answersOk, State.answerWith, State.setPort_line]
    exact ⟨by simp, by simp, by simp, by simp, by simp, hsend, by simp, by simp, by simp⟩

end Sys2Proof.Machine

namespace Sys2Proof.Machine

/-! ## Proofs: the record, its papers and its release (chapters 1 and 2) -/

section Record

variable {r : Request} {ops : List Byte} {k : CheckWord} {s t : State} {ℓ : LaneId}

/-- What the command of a request does that its owner accepts. -/
theorem exec_of_accepted {i : Instr} {body : List Byte} (hi : requestOf i = some (r, ops, k)) (htakes : s.takes r ops k)
    (hjoined : s.joined = true) (howner : askOwner r ops s = atOnce (okReply t body)) :
    exec i s = .next (t.answersOk r body) :=
  exec_of_owner hi htakes hjoined howner

@[simp] theorem State.answersOk_frame (body : List Byte) :
    (s.answersOk r body).pending = s.pending ∧ (s.answersOk r body).pins = s.pins ∧
    (s.answersOk r body).unit = s.unit ∧ (s.answersOk r body).lanes = s.lanes ∧
    (s.answersOk r body).channels = s.channels ∧ (s.answersOk r body).released = s.released ∧
    (s.answersOk r body).lists = s.lists ∧ (s.answersOk r body).line = s.line ∧
    (s.answersOk r body).view = s.view ∧ (s.answersOk r body).log = s.log ∧
    (s.answersOk r body).attention = s.attention ∧ (s.answersOk r body).freeCount = s.freeCount ∧
    (s.answersOk r body).port.answer = some ⟨some r, .ok, body⟩ :=
  ⟨rfl, rfl, rfl, rfl, rfl, rfl, rfl, rfl, rfl, rfl, rfl, rfl, rfl⟩

@[simp] theorem State.lane_answersOk (body : List Byte) (m : LaneId) : (s.answersOk r body).lane m = s.lane m := rfl
@[simp] theorem State.chan_answersOk (body : List Byte) (c : ChanId) : (s.answersOk r body).chan c = s.chan c := rfl
@[simp] theorem State.noticeAt_answersOk (body : List Byte) (p : Place) :
    (s.answersOk r body).noticeAt p = s.noticeAt p := rfl
@[simp] theorem State.laneBusy_answersOk (body : List Byte) (m : LaneId) :
    (s.answersOk r body).laneBusy m = s.laneBusy m := rfl

theorem State.modRecord_of_record {x : LoadRecord} (h : (s.lane ℓ).record = some x) (f : LoadRecord → LoadRecord) :
    s.modRecord ℓ f = s.setLane ℓ { s.lane ℓ with record := some (f x) } := by
  simp [State.modRecord, State.modLane, h]

theorem switchLoadMark_none (cfg : Configuration) (product : Product) :
    switchLoadMark cfg product none = !product.high := by
  simp [switchLoadMark]

theorem switchLoadMark_some {cfg : Configuration} {p : Nat} {q : Product} (h : cfg.product p = some q)
    (product : Product) : switchLoadMark cfg product (some p) = (!product.high && q.high) := by
  simp [switchLoadMark, h]

/-- Settles O24: each check of R35 passes, and the entry is put at its place. -/
theorem paperEntryJoinsTheList : Obligations.PaperEntryJoinsTheList := by
  intro ops k s ℓ cfg r comp product group htakes hjoined hlane hcfg hrecord hstate hcomp hentry hproduct hgroup hfields
    hun hunMax hclass hdeclared hcapacity hprevious
  refine ⟨_, rfl, exec_of_accepted (i := .paperEntry ops k) rfl htakes hjoined ?_⟩
  have hproductUn : product.un = field ops 3 2 := congrArg Product.un hfields
  have hproductCls : product.cls = field ops 5 1 := congrArg Product.cls hfields
  have hproductPacking : product.packing = group := congrArg Product.packing hfields
  have hranges : (inRange 1 9999 (field ops 3 2) && decide (field ops 5 1 ≤ 15)) = true := by
    simp [inRange, hun, hunMax, hclass]
  have hlitres : inRange 1 comp.capacity (field ops 7 2) = true := by simp [inRange, hdeclared, hcapacity]
  by_cases hnone : field ops 9 1 = 255
  · cases h255 : cfg.product 255 with
    | none =>
      simp [askOwner, atOnce, ownPaperEntry, hjoined, hlane, hcfg, hrecord, hstate, hcomp, hentry, hproduct, hgroup,
        hranges, hproductUn, hproductCls, hproductPacking, hlitres, hnone, h255, okReply,
        State.modRecord_of_record hrecord, switchLoadMark_none]
    | some q =>
      simp [askOwner, atOnce, ownPaperEntry, hjoined, hlane, hcfg, hrecord, hstate, hcomp, hentry, hproduct, hgroup,
        hranges, hproductUn, hproductCls, hproductPacking, hlitres, hnone, h255, okReply,
        State.modRecord_of_record hrecord, switchLoadMark_none]
  · obtain ⟨q, hq⟩ := Option.ne_none_iff_exists'.1 (hprevious.resolve_left hnone)
    have hbeq : (field ops 9 1 == 255) = false := beq_false_of_ne hnone
    simp [askOwner, atOnce, ownPaperEntry, hjoined, hlane, hcfg, hrecord, hstate, hcomp, hentry, hproduct, hgroup,
      hranges, hproductUn, hproductCls, hproductPacking, hlitres, hnone, hbeq, hq, okReply,
      State.modRecord_of_record hrecord, switchLoadMark_some hq]

/-- Settles O25. -/
theorem paperDeleteTakesTheEntryOut : Obligations.PaperDeleteTakesTheEntryOut := by
  intro ops k s ℓ r htakes hjoined hlane hrecord hstate hentry
  refine ⟨_, rfl, exec_of_accepted (i := .paperDelete ops k) rfl htakes hjoined ?_⟩
  simp [askOwner, atOnce, ownPaperDelete, hjoined, hlane, hrecord, hstate, hentry, okReply,
    State.modRecord_of_record hrecord]

theorem State.joinFindings_of_record {x : LoadRecord} (h : (s.lane ℓ).record = some x) (fs : List Finding) :
    s.joinFindings ℓ fs =
      s.setLane ℓ { s.lane ℓ with record := some { x with findings := fs.foldl joinFinding x.findings } } :=
  State.modRecord_of_record h _

/-- A stage handed over while the lane has room joins the queue, and under LOG_FAULT it is discarded (R19). -/
theorem State.handStage_of_room {x : LoadRecord} (hrecord : (s.lane ℓ).record = some x)
    (hroom : s.stagesFull ℓ = false) (st : Stage) :
    s.handStage ℓ st = s.setLog { s.log with
      queue := if s.log.state = .logFault then s.log.queue else s.log.queue ++ [⟨x.slot, x.seq, st, .lane ℓ⟩] } := by
  unfold State.handStage
  split
  · simp [State.setLog]
  · simp [hroom, State.enqueueStage, Lane.slotOf, hrecord]

theorem State.stagesFull_setLane (x : Lane) (h : x.backlog = (s.lane ℓ).backlog) :
    (s.setLane ℓ x).stagesFull ℓ = s.stagesFull ℓ := by
  simp only [State.stagesFull, State.lane_setLane_same, h]
  rfl

/-- The timer armed from a result whose latest release minute has not passed (R68). -/
theorem State.armTimer_of_ahead {d : DutyResult} (h : s.minute ≤ d.latest) :
    (s.armTimer ℓ d).lane ℓ =
        { s.lane ℓ with dutyTimer := some ⟨d.latest, d.setBy, decide (d.latest ≤ s.minute + s.warn)⟩ } ∧
      (s.armTimer ℓ d).lane (otherLane ℓ) = s.lane (otherLane ℓ) ∧ (s.armTimer ℓ d).channels = s.channels ∧
      (s.armTimer ℓ d).line = s.line := by
  have hother : otherLane ℓ ≠ ℓ := by cases ℓ <;> decide
  unfold State.armTimer
  rw [if_neg (Nat.not_lt.2 h)]
  split
  · simp [State.dutyNearAt, State.lane_modLane_ne _ _ hother]
  · simp [State.dutyNearAt, State.lane_modLane_ne _ _ hother]

/-- A pass allows a release at its own minute at least (R67). -/
theorem le_latest_of_pass {cfg : Configuration} {x : LoadRecord} {m : Nat} {d : DutyResult}
    (h : recordDuty cfg x m = some (.pass d)) (hm : m ≤ Config.clockMax) : m ≤ d.latest := by
  obtain ⟨plan, -, hplan⟩ := Option.map_eq_some_iff.1 h
  unfold dutyCompute at hplan
  dsimp only at hplan
  split at hplan
  · cases hplan
  · split at hplan
    · cases hplan
    · cases hplan
      exact Nat.le_min.2 ⟨Nat.le_add_right _ _, hm⟩

/-- A plan given with PAPERS-CLOSE replaces the record's (R39). -/
theorem orElse_eq_ite {α : Type} [DecidableEq (Option α)] (given old : Option α) :
    (given.orElse fun _ => old) = if given = none then old else given := by
  cases given <;> simp

theorem otherLane_ne (ℓ : LaneId) : otherLane ℓ ≠ ℓ := by cases ℓ <;> decide

/-- Settles O26: the tests decide between the way into LOADING and the findings. -/
theorem papersCloseStartsLoading : Obligations.PapersCloseStartsLoading := by
  refine ⟨?_, ?_⟩
  · intro ops k s ℓ cfg x x' given d htakes hjoined hlane hcfg hrecord hstate hroom hplan hx hfindings hduty hclock
    rw [← orElse_eq_ite] at hx
    obtain ⟨s2, hs2⟩ : ∃ s2, s2 = s.setLane ℓ { s.lane ℓ with state := .loading, record := some { x' with duty := some d } } :=
      ⟨_, rfl⟩
    have hown : ownPapersClose ops s =
        okReply ((s2.handStage ℓ ⟨.papers, papersContent x'⟩).armTimer ℓ d) (dutyBytes (some d)) := by
      subst hx hs2
      simp only [ownPapersClose, hjoined, hlane, hcfg, hrecord, not_not.2 hstate, hroom, hplan, hfindings, hduty,
        Bool.not_true, Bool.false_eq_true, if_false, Option.bind_some, DutyOutcome.result?]
      simp [State.modLane]
    have hroom2 : s2.stagesFull ℓ = false := by rw [hs2, State.stagesFull_setLane _ (by rfl), hroom]
    have hrecord2 : (s2.lane ℓ).record = some { x' with duty := some d } := by rw [hs2]; simp
    obtain ⟨s3, hs3⟩ : ∃ s3, s3 = s2.handStage ℓ ⟨.papers, papersContent x'⟩ := ⟨_, rfl⟩
    rw [← hs3] at hown
    rw [State.handStage_of_room hrecord2 hroom2] at hs3
    have hminute : s3.minute = s.minute := by rw [hs3, hs2]; rfl
    have hwarn : s3.warn = cfg.limits.warn := by rw [hs3, hs2]; simp [State.warn, hcfg]
    have hslot : x'.slot = x.slot ∧ x'.seq = x.seq := by rw [hx]; exact ⟨rfl, rfl⟩
    obtain ⟨harmed, hother, hchannels, hline⟩ := State.armTimer_of_ahead (s := s3) (ℓ := ℓ) (d := d)
      (hminute ▸ le_latest_of_pass hduty hclock)
    have hlane3 : s3.lane ℓ = { s.lane ℓ with state := .loading, record := some { x' with duty := some d } } := by
      rw [hs3, hs2]; simp
    have hother3 : s3.lane (otherLane ℓ) = s.lane (otherLane ℓ) := by
      rw [hs3, hs2]; simp [State.lane_setLane_ne _ _ (otherLane_ne ℓ)]
    rw [hlane3, hminute, hwarn] at harmed
    refine ⟨_, exec_of_accepted (i := .papersClose ops k) rfl htakes hjoined (congrArg atOnce hown), ?_⟩
    simp only [State.lane_answersOk, State.answersOk_frame, sameStation, State.armTimer_frame, harmed, hother.trans hother3,
      hchannels, hline]
    simp [hs3, hs2, hslot]
  · intro ops k s ℓ cfg x x' given htakes hjoined hlane hcfg hrecord hstate hroom hplan hx hfindings
    rw [← orElse_eq_ite] at hx
    obtain ⟨f, fs, hfs⟩ := List.exists_cons_of_ne_nil hfindings
    have hown : ownPapersClose ops s = findingsReply (s.setLane ℓ { s.lane ℓ with record := some x' }) ℓ
        (closeFindings cfg x' s.minute) := by
      subst hx
      simp only [ownPapersClose, hjoined, hlane, hcfg, hrecord, not_not.2 hstate, hroom, hplan, hfs,
        Bool.not_true, Bool.false_eq_true, if_false]
      rfl
    refine (exec_of_owner (i := .papersClose ops k) rfl htakes hjoined (congrArg atOnce hown)).trans ?_
    simp [findingsReply, State.joinFindings_of_record (x := x'), hx]

/-- Settles O27: the dangerous litres of the changed list decide. -/
theorem amendChangesTheEntry : Obligations.AmendChangesTheEntry := by
  refine ⟨?_, ?_⟩
  · intro ops k s ℓ x e comp papers htakes hjoined hlane hrecord hstate hentry hcomp hbusy hlitres hroom hpapers htest
    refine exec_of_accepted (i := .amend ops k) rfl htakes hjoined ?_
    have hvalue : inRange 1 comp.capacity (field ops 2 2) = true ∨ (field ops 2 2 = 0 ∧ comp.metered = 0) := by
      simpa [inRange] using hlitres
    have hhand : (s.setLane ℓ { s.lane ℓ with record := some { x with papers := papers } }).handStage ℓ
        ⟨.amend, papersContent { x with papers := papers }⟩ = _ :=
      State.handStage_of_room (x := { x with papers := papers }) (by simp)
        (by rw [State.stagesFull_setLane _ (by rfl), hroom]) _
    rw [hpapers] at hhand htest ⊢
    simp only [askOwner, ownAmend, hjoined, hlane, hrecord, not_not.2 hstate, hentry, hcomp, hbusy, hvalue, hroom, htest,
      Bool.not_true, Bool.false_eq_true, if_false, not_true_eq_false]
    simp only [State.modLane, hhand]
    rfl
  · intro ops k s ℓ x e comp papers htakes hjoined hlane hrecord hstate hentry hcomp hbusy hlow hhigh hroom hpapers hover
    have hvalue : inRange 1 comp.capacity (field ops 2 2) = true := by simp [inRange, hlow, hhigh]
    have hzero : ¬ field ops 2 2 = 0 := Nat.ne_of_gt hlow
    have htest : testDangerous x papers = [⟨.dangerousOver, [], none⟩] := by
      simp [testDangerous, dangerousLitres, hover, findingAt]
    have hown : ownAmend ops s = findingsReply s ℓ [⟨.dangerousOver, [], none⟩] := by
      rw [hpapers] at htest
      simp only [ownAmend, hjoined, hlane, hrecord, not_not.2 hstate, hentry, hcomp, hbusy, hvalue, hzero, hroom, htest,
        Bool.not_true, Bool.false_eq_true, if_false, not_true_eq_false, true_or]
    refine (exec_of_owner (i := .amend ops k) rfl htakes hjoined (congrArg atOnce hown)).trans ?_
    simp [findingsReply, State.joinFindings_of_record hrecord]

theorem State.onward_of_config {cfg : Configuration} {x : LoadRecord} (hcfg : s.unit.config = some cfg)
    (hrecord : (s.lane ℓ).record = some x) (plan : Plan) :
    s.onward ℓ plan = onwardFigures cfg.limits x.current.figures plan s.minute := by
  simp [State.onward, hcfg, hrecord]

/-- Settles O28: the release tests decide. -/
theorem releaseStartsClosing : Obligations.ReleaseStartsClosing := by
  refine ⟨?_, ?_⟩
  · intro ops k s ℓ cfg x plan d htakes hjoined hlane hcfg hrecord hstate hreclaim hlog hbusy hroom hplan hfindings hduty
    refine ⟨_, rfl, exec_of_accepted (i := .release ops k) rfl htakes hjoined ?_⟩
    have hhand (c : Closing) : (s.setLane ℓ { s.lane ℓ with
          state := .closing, record := some { x with duty := some d }, dutyTimer := none, closing := some c }).handStage ℓ
        (outcomeStage { x with duty := some d } c) = _ :=
      State.handStage_of_room (x := { x with duty := some d }) (by simp)
        (by rw [State.stagesFull_setLane _ (by rfl), hroom]) _
    have hopen : ¬ ((s.lane ℓ).state ≠ .loading ∨ (s.lane ℓ).reclaim.isSome = true) := by simp [hstate, hreclaim]
    have hkept : x.plan.getD noPlan = plan := by rw [hplan]; rfl
    simp only [askOwner, ownRelease, hjoined, hlane, hcfg, hrecord, hopen, hlog, hbusy, hroom, hfindings, hduty,
      Bool.not_true, Bool.false_eq_true, if_false, Option.bind_some, DutyOutcome.result?,
      State.onward_of_config hcfg hrecord, hkept]
    simp only [State.modLane, hhand]
    simp [hlog, outcomeStage]
  · intro ops k s ℓ cfg x fs htakes hjoined hlane hcfg hrecord hstate hreclaim hlog hbusy hroom hfs hne
    obtain ⟨f, rest, hcons⟩ := List.exists_cons_of_ne_nil hne
    have hopen : ¬ ((s.lane ℓ).state ≠ .loading ∨ (s.lane ℓ).reclaim.isSome = true) := by simp [hstate, hreclaim]
    have hown : ownRelease ops s = findingsReply s ℓ fs := by
      simp only [ownRelease, hjoined, hlane, hcfg, hrecord, hopen, hlog, hbusy, hroom, ← hfs, hcons,
        Bool.not_true, Bool.false_eq_true, if_false]
    refine (exec_of_owner (i := .release ops k) rfl htakes hjoined (congrArg atOnce hown)).trans ?_
    simp [findingsReply, State.joinFindings_of_record hrecord]

/-- Settles O32: each check of R77 passes. -/
theorem pourArmFixesTheQuantities : Obligations.PourArmFixesTheQuantities := by
  intro ops k s c cfg ℓ x comp e htakes hjoined hchan hlane hrecord hstate hholds hidle hreach hcomp hentry hproduct hfree
    hpours hlitres hprobe
  refine ⟨_, _, _, rfl, rfl, rfl, exec_of_accepted (i := .pourArm ops k) rfl htakes hjoined ?_⟩
  have hbusy : s.compBusy ℓ (field ops 2 1) = false := by
    simp [State.compBusy, Channel.atComp, hfree]
  simp [askOwner, ownPourArm, hjoined, hchan, hlane, hrecord, hstate, hholds, hidle, hreach, hcomp, hentry, hproduct,
    hbusy, Nat.not_le.2 hpours, Nat.not_le.2 hlitres, hprobe, State.acceptArm, State.modChan, armQuantities]

end Record

end Sys2Proof.Machine

namespace Sys2Proof.Machine

/-! ## Draws, offers and suspensions (chapter 4): what each shared operation of the channels writes -/

section Draws

variable {s t u : State} {c d : ChanId}

/-! ### The rack line but for its Send Queue and its transmitter -/

theorem lineKept.refl (s : State) : lineKept s s := rfl

theorem lineKept.trans (h : lineKept s t) (h' : lineKept t u) : lineKept s u :=
  Eq.trans h' (by rw [show t.line = _ from h])

theorem lineKept_of_eq (h : t.line = s.line) : lineKept s t := by rw [lineKept, h]

theorem lineKept_setSendQueue (q : List SendEntry) : lineKept s (s.setSendQueue q) := rfl

theorem lineKept_queueNotice (n : Notice) : lineKept s (s.queueNotice n) := by
  unfold State.queueNotice
  split <;> rfl

theorem lineKept_removeNotice (p : Place) : lineKept s (s.removeNotice p) := by
  unfold State.removeNotice
  split
  · rfl
  · dsimp only
    split <;> rfl

theorem noticesKept.refl (touched : Place → Prop) (s : State) : noticesKept touched s s := fun _ _ => rfl

theorem noticesKept.trans {touched : Place → Prop} (h : noticesKept touched s t) (h' : noticesKept touched t u) :
    noticesKept touched s u := fun p hp => (h' p hp).trans (h p hp)

theorem noticesKept.mono {touched touched' : Place → Prop} (h : noticesKept touched s t)
    (hsub : ∀ p, touched p → touched' p) : noticesKept touched' s t := fun p hp => h p (mt (hsub p) hp)

theorem noticesKept_of_line {touched : Place → Prop} (h : t.line = s.line) : noticesKept touched s t := fun p _ => by
  simp [State.noticeAt, h]

theorem noticesKept_removeNotice (p : Place) : noticesKept (· = p) s (s.removeNotice p) := fun q hq => by
  rw [State.noticeAt_removeNotice, if_neg fun h => hq h.1]

/-! ### One channel and its DRAW place -/

/-- Only a channel and the notice in its DRAW place have changed, of the channels and of the line. -/
structure State.OnlyDraw (c : ChanId) (s t : State) : Prop where
  chan : ∀ d, d ≠ c → t.chan d = s.chan d
  line : lineKept s t
  kept : noticesKept (· = .draw c) s t

namespace State.OnlyDraw

theorem refl (c : ChanId) (s : State) : OnlyDraw c s s := ⟨fun _ _ => rfl, .refl s, .refl _ s⟩

theorem trans (h : OnlyDraw c s t) (h' : OnlyDraw c t u) : OnlyDraw c s u :=
  ⟨fun d hd => (h'.chan d hd).trans (h.chan d hd), h.line.trans h'.line, h.kept.trans h'.kept⟩

theorem modChan (h : OnlyDraw c s t) (f : Channel → Channel) : OnlyDraw c s (t.modChan c f) :=
  h.trans ⟨fun _ hd => State.chan_modChan_ne _ _ hd, lineKept_of_eq rfl, noticesKept_of_line rfl⟩

theorem removeNotice (h : OnlyDraw c s t) : OnlyDraw c s (t.removeNotice (.draw c)) :=
  h.trans ⟨fun _ _ => State.chan_removeNotice .., lineKept_removeNotice _, noticesKept_removeNotice _⟩

theorem queueDraw (h : OnlyDraw c s t) (on : Bool) (x : Nat) : OnlyDraw c s (t.queueNotice (.draw on c x)) :=
  h.trans ⟨fun _ _ => State.chan_queueNotice .., lineKept_queueNotice _, noticesKept_queueNotice t (.draw on c x)⟩

theorem returnDraw (h : OnlyDraw c s t) : OnlyDraw c s (t.returnDraw c) := by
  unfold State.returnDraw
  dsimp only
  split
  · exact h.modChan _
  · exact ((h.modChan _).removeNotice).queueDraw ..

theorem giveUpDraw (h : OnlyDraw c s t) : OnlyDraw c s (t.giveUpDraw c) := by
  unfold State.giveUpDraw
  split
  · exact h.returnDraw
  · exact h.returnDraw
  · split
    · exact h.modChan _
    · exact h.removeNotice.modChan _
  · exact h
  · exact h

theorem attend (h : OnlyDraw c s t) (r : Reason) : OnlyDraw c s (t.attend r) :=
  h.trans ⟨fun _ _ => rfl, lineKept_of_eq rfl, noticesKept_of_line rfl⟩

theorem suspend (h : OnlyDraw c s t) : OnlyDraw c s (t.suspend c) :=
  (((h.modChan _).giveUpDraw).modChan _).attend _

theorem suspendIfStanding (h : OnlyDraw c s t) : OnlyDraw c s (t.suspendIfStanding c) := by
  unfold State.suspendIfStanding
  split
  · exact h.suspend
  · exact h

theorem settlePour (h : OnlyDraw c s t) (e : EndStatus) : OnlyDraw c s (State.settlePour e t c) := by
  unfold State.settlePour
  split
  · exact ((h.modChan _).giveUpDraw).modChan _
  · exact h

theorem wetChannel (h : OnlyDraw c s t) (ℓ : LaneId) : OnlyDraw c s (State.wetChannel ℓ t c) := by
  unfold State.wetChannel
  split
  · exact h.settlePour _
  · exact h

theorem voidChannel (h : OnlyDraw c s t) (ℓ : LaneId) : OnlyDraw c s (State.voidChannel ℓ t c) := by
  unfold State.voidChannel
  split
  · split
    · exact h.modChan _
    · exact h.settlePour _
  · exact h

theorem noticesDraw (h : OnlyDraw c s t) : noticesKept isDrawPlace s t := h.kept.mono fun _ hp => ⟨c, hp⟩

end State.OnlyDraw

/-! ### One operation for each channel -/

section Fold

variable {op : State → ChanId → State} (hop : ∀ t c, State.OnlyDraw c t (op t c))

include hop

theorem foldl_notMem (l : List ChanId) (hc : c ∉ l) (s : State) :
    (l.foldl op s).chan c = s.chan c ∧ (l.foldl op s).noticeAt (.draw c) = s.noticeAt (.draw c) := by
  induction l generalizing s with
  | nil => exact ⟨rfl, rfl⟩
  | cons d l ih =>
    obtain ⟨hne, hrest⟩ := List.ne_and_not_mem_of_not_mem_cons hc
    obtain ⟨hchan, hnotice⟩ := ih hrest (op s d)
    refine ⟨hchan.trans ((hop s d).chan c hne), hnotice.trans ((hop s d).kept _ fun h => hne ?_)⟩
    exact Place.draw.inj h

/-- What a fold over the channels makes of one channel is what its own step made of it, from a state in which the channel and
its DRAW place were still as before. -/
theorem foldl_at (c : ChanId) (s : State) : ∃ before : List ChanId,
    (before.foldl op s).chan c = s.chan c ∧ (before.foldl op s).noticeAt (.draw c) = s.noticeAt (.draw c) ∧
    (ChanId.all.foldl op s).chan c = (op (before.foldl op s) c).chan c ∧
    (ChanId.all.foldl op s).noticeAt (.draw c) = (op (before.foldl op s) c).noticeAt (.draw c) := by
  obtain ⟨before, after, hall, hbefore, hafter⟩ :
      ∃ before after, ChanId.all = before ++ c :: after ∧ c ∉ before ∧ c ∉ after := by
    cases c
    · exact ⟨[], [.c1, .c2, .c3, .c4, .c5], rfl, by decide, by decide⟩
    · exact ⟨[.c0], [.c2, .c3, .c4, .c5], rfl, by decide, by decide⟩
    · exact ⟨[.c0, .c1], [.c3, .c4, .c5], rfl, by decide, by decide⟩
    · exact ⟨[.c0, .c1, .c2], [.c4, .c5], rfl, by decide, by decide⟩
    · exact ⟨[.c0, .c1, .c2, .c3], [.c5], rfl, by decide, by decide⟩
    · exact ⟨[.c0, .c1, .c2, .c3, .c4], [], rfl, by decide, by decide⟩
  obtain ⟨hchan, hnotice⟩ := foldl_notMem hop before hbefore s
  obtain ⟨hchan', hnotice'⟩ := foldl_notMem hop after hafter (op (before.foldl op s) c)
  rw [hall, List.foldl_append, List.foldl_cons]
  exact ⟨before, hchan, hnotice, hchan', hnotice'⟩

theorem foldl_line (l : List ChanId) (s : State) :
    lineKept s (l.foldl op s) ∧ noticesKept isDrawPlace s (l.foldl op s) := by
  induction l generalizing s with
  | nil => exact ⟨.refl s, .refl _ s⟩
  | cons d l ih =>
    obtain ⟨hline, hkept⟩ := ih (op s d)
    exact ⟨(hop s d).line.trans hline, (hop s d).noticesDraw.trans hkept⟩

end Fold

/-! ### Offers -/

/-- Channels in WAIT have been offered draws, and nothing else has changed but DRAW places that were free (R89). -/
structure State.Offers (s t : State) : Prop where
  chan : ∀ d, t.chan d = s.chan d ∨ ((s.chan d).wantsDraw = true ∧ t.chan d = { s.chan d with draw := .asked })
  line : lineKept s t
  kept : noticesKept isDrawPlace s t
  held : ∀ p e, s.noticeAt p = some e → t.noticeAt p = some e

namespace State.Offers

theorem refl (s : State) : s.Offers s := ⟨fun _ => .inl rfl, .refl s, .refl _ s, fun _ _ h => h⟩

theorem trans (h : s.Offers t) (h' : t.Offers u) : s.Offers u where
  chan d := by
    rcases h'.chan d with hu | ⟨hwants, hu⟩
    · exact hu ▸ h.chan d
    · rcases h.chan d with ht | ⟨-, ht⟩
      · exact .inr ⟨ht ▸ hwants, ht ▸ hu⟩
      · rw [ht] at hwants
        simp [Channel.wantsDraw] at hwants
  line := h.line.trans h'.line
  kept := h.kept.trans h'.kept
  held p e hp := h'.held p e (h.held p e hp)

/-- A channel that is not in WAIT is not offered a draw. -/
theorem chan_eq (h : s.Offers t) (hwants : (s.chan c).wantsDraw = false) : t.chan c = s.chan c :=
  (h.chan c).resolve_right fun hc => by simp [hwants] at hc

theorem foldl {ι : Type} {f : State → ι → State} (hf : ∀ (t : State) i, t.Offers (f t i)) (l : List ι) (s : State) :
    s.Offers (l.foldl f s) := by
  induction l generalizing s with
  | nil => exact .refl s
  | cons i l ih => exact (hf s i).trans (ih _)

theorem offerOne (x : Nat) (s : State) (c : ChanId) : s.Offers (State.offerOne x s c) := by
  unfold State.offerOne
  split
  · rename_i h
    simp only [Bool.and_eq_true] at h
    refine ⟨fun d => ?_, (lineKept_queueNotice _).trans (lineKept_of_eq rfl), ?_, fun p e hp => ?_⟩
    · by_cases hd : d = c
      · subst hd
        simp [h.1.1.2]
      · simp [State.chan_modChan_ne _ _ hd]
    · exact ((noticesKept_queueNotice s (.draw true c x)).trans (noticesKept_of_line rfl)).mono fun p hp => ⟨c, hp⟩
    · show (s.queueNotice _).noticeAt p = some e
      rw [State.noticeAt_queueNotice, if_neg (by simp [hp]), hp]
  · exact .refl s

theorem offerRound (x : Nat) (s : State) : s.Offers (s.offerRound x) := foldl (offerOne x) _ s

theorem reportFalls (before s : State) : s.Offers (State.reportFalls before s) :=
  foldl (fun t x => by
    split
    · exact offerRound x t
    · exact .refl t) _ s

end State.Offers

/-! ### What each operation makes of its channel -/

theorem State.begunAt_congr {p : Place} (h : t.noticeAt p = s.noticeAt p) : t.begunAt p = s.begunAt p := by
  simp [State.begunAt, h]

theorem drawGivenUp_congr (hchan : (t.chan c).draw = (s.chan c).draw) (h : t.noticeAt (.draw c) = s.noticeAt (.draw c)) :
    drawGivenUp t c = drawGivenUp s c := by
  simp [drawGivenUp, hchan, State.begunAt_congr h]

theorem State.headerOf_congr (h : t.unit = s.unit) : t.headerOf c = s.headerOf c := by
  simp [State.headerOf, State.chanCfg, h]

/-- A place held or sent for is returned by a DRAW-OFF, unless a begun notice holds the DRAW place (R91). -/
theorem drawReturned_giveUpDraw (s : State) (c : ChanId) : drawReturned s (s.giveUpDraw c) c := by
  intro hdraw hbegun
  have hreturn : (s.returnDraw c).noticeAt (.draw c) = some ⟨.draw false c (s.headerOf c), false⟩ := by
    unfold State.returnDraw
    dsimp only
    rw [if_neg (by simp [hbegun]), State.noticeAt_queueNotice]
    exact if_pos ⟨rfl, (State.noticeAt_removeNotice ..).trans (if_pos ⟨rfl, hbegun⟩)⟩
  unfold State.giveUpDraw
  rcases hdraw with h | h <;> rw [h] <;> exact hreturn

theorem drawReturned.congr {s' t' : State} (h : drawReturned s t c) (hdraw : (s'.chan c).draw = (s.chan c).draw)
    (hs : s'.noticeAt (.draw c) = s.noticeAt (.draw c)) (hunit : s'.unit = s.unit)
    (ht : ∀ e, t.noticeAt (.draw c) = some e → t'.noticeAt (.draw c) = some e) : drawReturned s' t' c := by
  intro hheld hbegun
  rw [State.headerOf_congr hunit]
  exact ht _ (h (hdraw ▸ hheld) (State.begunAt_congr hs ▸ hbegun))

/-- The channel after its pour's end (R98). -/
def Channel.pourEnded (ch : Channel) (draw : DrawState) (e : EndStatus) (finish settle : Nat) : Channel :=
  { ch with
    state := .settling
    phase := none
    permit := .off
    draw := draw
    noFlow := none
    pourEnd := some e
    pourFinish := some finish
    settle := some settle }

theorem State.chan_giveUpDraw_modChan (s : State) (c : ChanId) (f : Channel → Channel)
    (hdraw : (f (s.chan c)).draw = (s.chan c).draw) :
    ((s.modChan c f).giveUpDraw c).chan c = { f (s.chan c) with draw := drawGivenUp s c } := by
  have hgiven : drawGivenUp (s.modChan c f) c = drawGivenUp s c :=
    drawGivenUp_congr (by rw [State.chan_modChan_same, hdraw]) rfl
  rw [State.chan_giveUpDraw, if_pos rfl, State.chan_modChan_same, hgiven]

theorem State.chan_settlePour (h : runsPour s c) (e : EndStatus) :
    (State.settlePour e s c).chan c = (s.chan c).pourEnded (drawGivenUp s c) e s.minute s.settleMs := by
  unfold State.settlePour
  rw [if_pos (show _ ∨ _ from h)]
  dsimp only
  rw [State.chan_modChan_same, State.chan_giveUpDraw_modChan _ _ _ (by rfl)]
  rfl

theorem drawReturned_settlePour (h : runsPour s c) (e : EndStatus) : drawReturned s (State.settlePour e s c) c := by
  unfold State.settlePour
  rw [if_pos (show _ ∨ _ from h)]
  exact (drawReturned_giveUpDraw _ c).congr (by simp) (by rfl) (by rfl) fun _ => id

theorem State.settlePour_of_not_runsPour (h : ¬ runsPour s c) (e : EndStatus) : State.settlePour e s c = s :=
  if_neg h

/-- The channel after its suspension (R94). -/
def Channel.pourSuspended (ch : Channel) (draw : DrawState) : Channel :=
  { ch with
    state := .suspended
    phase := none
    permit := .off
    draw := draw
    noFlow := none }

theorem State.chan_suspend (s : State) (c : ChanId) :
    (s.suspend c).chan c = (s.chan c).pourSuspended (drawGivenUp s c) := by
  unfold State.suspend
  dsimp only
  rw [State.chan_attend, State.chan_modChan_same, State.chan_giveUpDraw_modChan _ _ _ (by rfl)]
  rfl

theorem drawReturned_suspend (s : State) (c : ChanId) : drawReturned s (s.suspend c) c := by
  unfold State.suspend
  exact (drawReturned_giveUpDraw _ c).congr (by simp) (by rfl) (by rfl) fun _ => id

theorem State.suspend_attention (s : State) (c : ChanId) :
    (s.suspend c).attention = addReasonTo (.suspended c) s.attention := by
  simp [State.suspend, State.attend]

/-! ### The end of a pour, and its suspension, with the falls reported -/

theorem pourEnds_of {e : EndStatus} (hreturned : drawReturned s t c)
    (hchan : t.chan c = (s.chan c).pourEnded (drawGivenUp s c) e s.minute s.settleMs) : pourEnds s t c e :=
  ⟨hreturned, hchan⟩

theorem pourEnds.offers {e : EndStatus} (h : pourEnds s t c e) (ho : t.Offers u) : pourEnds s u c e := by
  obtain ⟨hreturned, hchan⟩ := h
  refine ⟨hreturned.congr rfl rfl rfl (ho.held _), ?_⟩
  rw [ho.chan_eq (by rw [hchan]; rfl), hchan]

theorem pourSuspends.offers (h : pourSuspends s t c) (ho : t.Offers u) (hattention : u.attention = t.attention) :
    pourSuspends s u c := by
  obtain ⟨hreturned, hreason, hchan⟩ := h
  refine ⟨hreturned.congr rfl rfl rfl (ho.held _), hattention ▸ hreason, ?_⟩
  rw [ho.chan_eq (by rw [hchan]; rfl), hchan]

theorem pourEnds_settlePour (h : runsPour s c) (e : EndStatus) : pourEnds s (State.settlePour e s c) c e :=
  ⟨drawReturned_settlePour h e, State.chan_settlePour h e⟩

/-- A pour that ends is settled and then leaves its place, which may be offered on (R98, R145). -/
theorem pourEnds_endPour (h : runsPour s c) (e : EndStatus) : pourEnds s (s.endPour c e) c e :=
  (pourEnds_settlePour h e).offers (.reportFalls _ _)

/-! ### Events at the channels -/

theorem channelEvent_of {changed : ChanId → Prop} (hchan : ∀ d, ¬ changed d → t.chan d = s.chan d)
    (hline : lineKept s t) (hkept : noticesKept isDrawPlace s t) (ho : t.Offers u)
    (hrest : u.lists = s.lists ∧ u.view = s.view ∧ u.log = s.log ∧ u.pending = s.pending ∧ u.unit = s.unit ∧
      u.released = s.released ∧ u.freeCount = s.freeCount) : channelEvent changed s u :=
  ⟨fun d hd => hchan d hd ▸ ho.chan d, hline.trans ho.line, hkept.trans ho.kept, hrest⟩

theorem State.OnlyDraw.channelEvent (h : State.OnlyDraw c s t) (ho : t.Offers u)
    (hrest : u.lists = s.lists ∧ u.view = s.view ∧ u.log = s.log ∧ u.pending = s.pending ∧ u.unit = s.unit ∧
      u.released = s.released ∧ u.freeCount = s.freeCount) : Machine.channelEvent (· = c) s u :=
  channelEvent_of h.chan h.line h.noticesDraw ho hrest

theorem channelEvent_endPour (s : State) (c : ChanId) (e : EndStatus) : channelEvent (· = c) s (s.endPour c e) :=
  ((State.OnlyDraw.refl c s).settlePour e).channelEvent (.reportFalls _ _) (by simp)

end Draws

end Sys2Proof.Machine

namespace Sys2Proof.Machine

/-! ## Causes, phases and the pour channels' events (chapter 4) -/

section Causes

variable {s t u : State} {c d : ChanId}

theorem State.causes_congr (hassigned : (t.chan c).assigned = (s.chan c).assigned) (hstops : t.lists.stops = s.lists.stops)
    (hunit : t.unit = s.unit) (hpins : t.pins = s.pins) (hholds : ∀ ℓ, (t.lane ℓ).holds = (s.lane ℓ).holds) :
    t.causes c = s.causes c := by
  have hground (ℓ : LaneId) : t.ground ℓ = s.ground ℓ := by cases ℓ <;> simp [State.ground, hpins]
  simp [State.causes, State.stopStands, State.joined, hassigned, hstops, hunit, hpins, hholds, hground]

/-- What a suspension reads beside the channel and its DRAW place is the same in both states. -/
structure State.SameCauses (s t : State) : Prop where
  stops : t.lists.stops = s.lists.stops
  unit : t.unit = s.unit
  pins : t.pins = s.pins
  holds : ∀ ℓ, (t.lane ℓ).holds = (s.lane ℓ).holds

theorem State.SameCauses.causes (h : s.SameCauses t) (hchan : t.chan c = s.chan c) : t.causes c = s.causes c :=
  State.causes_congr (by rw [hchan]) h.stops h.unit h.pins h.holds

theorem State.sameCauses_foldl (l : List ChanId) (s : State) : s.SameCauses (l.foldl State.suspendIfStanding s) where
  stops := foldl_keep (fun t => t.lists.stops) _ l s fun _ _ => by simp
  unit := foldl_keep (fun t => t.unit) _ l s fun _ _ => by simp
  pins := foldl_keep (fun t => t.pins) _ l s fun _ _ => by simp
  holds ℓ := foldl_keep (fun t => (t.lane ℓ).holds) _ l s fun _ _ => by simp [State.lane]

theorem pourSuspends_suspend (s : State) (c : ChanId) : pourSuspends s (s.suspend c) c :=
  ⟨drawReturned_suspend s c, by rw [State.suspend_attention]; exact mem_addReasonTo_self .., State.chan_suspend s c⟩

/-- A suspension seen from a state in which the channel and its DRAW place are the same, and into one that keeps both. -/
theorem pourSuspends.congr {s' t' : State} (h : pourSuspends s t c) (hchan : s'.chan c = s.chan c)
    (hnotice : s'.noticeAt (.draw c) = s.noticeAt (.draw c)) (hunit : s'.unit = s.unit)
    (hchan' : t'.chan c = t.chan c) (hnotice' : t'.noticeAt (.draw c) = t.noticeAt (.draw c))
    (hreason : (Reason.suspended c, false) ∈ t'.attention) : pourSuspends s' t' c := by
  obtain ⟨hreturned, -, heq⟩ := h
  refine ⟨hreturned.congr (by rw [hchan]) hnotice hunit fun e he => hnotice'.trans he, hreason, ?_⟩
  rw [hchan', heq, hchan, drawGivenUp_congr (by rw [hchan]) hnotice]

theorem mem_of_mem_addReasonTo {r : Reason} {p : Reason × Bool} {l : List (Reason × Bool)} (h : p ∈ addReasonTo r l) :
    p ∈ l ∨ p = (r, false) := by
  induction l with
  | nil => exact .inr (by simpa [addReasonTo] using h)
  | cons q l ih =>
    obtain ⟨q, m⟩ := q
    unfold addReasonTo at h
    split at h
    · rename_i hq
      rcases List.mem_cons.1 h with rfl | h
      · exact .inr (by rw [hq])
      · exact .inl (List.mem_cons_of_mem _ h)
    · rcases List.mem_cons.1 h with rfl | h
      · exact .inl List.mem_cons_self
      · exact (ih h).imp_left (List.mem_cons_of_mem _)

/-- The channels that the causes suspend. -/
def State.stands (s : State) (c : ChanId) : Prop := (s.chan c).state = .pouring ∧ (s.causes c).any = true

theorem State.suspendIfStanding_of_stands (h : s.stands c) : s.suspendIfStanding c = s.suspend c := if_pos h

theorem State.suspendIfStanding_of_not_stands (h : ¬ s.stands c) : s.suspendIfStanding c = s := if_neg h

theorem State.suspendIfStanding_attention (s : State) (c : ChanId) :
    (∀ q, (q, false) ∈ s.attention → (q, false) ∈ (s.suspendIfStanding c).attention) ∧
    (∀ p ∈ (s.suspendIfStanding c).attention, p ∈ s.attention ∨ (s.stands c ∧ p = (Reason.suspended c, false))) := by
  by_cases h : s.stands c
  · rw [State.suspendIfStanding_of_stands h, State.suspend_attention]
    exact ⟨fun q hq => clear_mem_addReasonTo _ hq, fun p hp => (mem_of_mem_addReasonTo hp).imp_right fun hp => ⟨h, hp⟩⟩
  · rw [State.suspendIfStanding_of_not_stands h]
    exact ⟨fun q => id, fun p hp => .inl hp⟩

theorem State.SameCauses.stands_iff (h : s.SameCauses t) (hchan : t.chan c = s.chan c) : t.stands c ↔ s.stands c := by
  rw [State.stands, State.stands, h.causes hchan, hchan]

theorem State.stands_suspendIfStanding (s : State) (hc : c ≠ d) : (s.suspendIfStanding d).stands c ↔ s.stands c :=
  State.SameCauses.stands_iff (s.sameCauses_foldl [d])
    (((State.OnlyDraw.refl d s).suspendIfStanding).chan c hc)

theorem State.foldl_suspend_attention {l : List ChanId} (hl : l.Nodup) (s : State) :
    (∀ q, (q, false) ∈ s.attention → (q, false) ∈ (l.foldl State.suspendIfStanding s).attention) ∧
    (∀ p ∈ (l.foldl State.suspendIfStanding s).attention,
      p ∈ s.attention ∨ ∃ c ∈ l, s.stands c ∧ p = (Reason.suspended c, false)) ∧
    (∀ c ∈ l, s.stands c → (Reason.suspended c, false) ∈ (l.foldl State.suspendIfStanding s).attention) := by
  induction l generalizing s with
  | nil => exact ⟨fun q => id, fun p hp => .inl hp, nofun⟩
  | cons d l ih =>
    obtain ⟨hnotMem, hl⟩ := List.nodup_cons.1 hl
    obtain ⟨hstays, hnew, hadded⟩ := ih hl (s.suspendIfStanding d)
    obtain ⟨hstays', hnew'⟩ := s.suspendIfStanding_attention d
    have hiff {c : ChanId} (hc : c ∈ l) := s.stands_suspendIfStanding (c := c) (d := d) fun h => hnotMem (h ▸ hc)
    refine ⟨fun q hq => hstays q (hstays' q hq), fun p hp => ?_, fun c hc hstands => ?_⟩
    · rcases hnew p hp with hp | ⟨c, hc, hstands, hp⟩
      · exact (hnew' p hp).imp_right fun ⟨hstands, hp⟩ => ⟨d, List.mem_cons_self, hstands, hp⟩
      · exact .inr ⟨c, List.mem_cons_of_mem _ hc, (hiff hc).1 hstands, hp⟩
    · rcases List.mem_cons.1 hc with rfl | hc
      · refine hstays _ ?_
        rw [State.suspendIfStanding_of_stands hstands, State.suspend_attention]
        exact mem_addReasonTo_self ..
      · exact hadded c hc ((hiff hc).2 hstands)

theorem ChanId.mem_all (c : ChanId) : c ∈ ChanId.all := by cases c <;> decide

theorem ChanId.nodup_all : ChanId.all.Nodup := by decide

/-- What the causes do to the channels (R93, R94): every POURING channel against which one stands is suspended, the others are
at most offered a draw, and only SUSPENDED joins the attention set. -/
structure State.CausesApplied (s t : State) : Prop where
  suspended : ∀ c, s.stands c → pourSuspends s t c
  others : othersAsk s.stands s t
  line : lineKept s t
  kept : noticesKept isDrawPlace s t
  attention : ∀ p ∈ t.attention, p ∈ s.attention ∨ ∃ c, s.stands c ∧ p = (Reason.suspended c, false)
  stays : ∀ q, (q, false) ∈ s.attention → (q, false) ∈ t.attention

theorem State.causesApplied (s : State) : s.CausesApplied s.applyCauses := by
  have hop (t : State) (c : ChanId) : State.OnlyDraw c t (t.suspendIfStanding c) := (State.OnlyDraw.refl c t).suspendIfStanding
  obtain ⟨hline, hkept⟩ := foldl_line hop ChanId.all s
  obtain ⟨hstays, hnew, hadded⟩ := s.foldl_suspend_attention ChanId.nodup_all
  obtain ⟨t, ht⟩ : ∃ t, t = ChanId.all.foldl State.suspendIfStanding s := ⟨_, rfl⟩
  have ho : t.Offers s.applyCauses := by rw [State.applyCauses, ← ht]; exact .reportFalls s t
  have hattention : s.applyCauses.attention = t.attention := by rw [State.applyCauses, ← ht]; simp
  rw [← ht] at hline hkept hstays hnew hadded
  refine ⟨fun c hc => ?_, fun c hc => ?_, hline.trans ho.line, hkept.trans ho.kept, fun p hp => ?_, fun q hq => ?_⟩
  · obtain ⟨before, hchan, hnotice, hchan', hnotice'⟩ := foldl_at hop c s
    rw [← ht] at hchan' hnotice'
    have hstands := ((s.sameCauses_foldl before).stands_iff hchan).2 hc
    rw [State.suspendIfStanding_of_stands hstands] at hchan' hnotice'
    exact ((pourSuspends_suspend _ c).congr hchan.symm hnotice.symm (s.sameCauses_foldl before).unit.symm hchan' hnotice'
      (hadded c (ChanId.mem_all c) hc)).offers ho hattention
  · obtain ⟨before, hchan, -, hchan', -⟩ := foldl_at hop c s
    rw [← ht] at hchan'
    have hstands := mt ((s.sameCauses_foldl before).stands_iff hchan).1 hc
    rw [State.suspendIfStanding_of_not_stands hstands, hchan] at hchan'
    exact hchan' ▸ ho.chan c
  · obtain h | ⟨c, -, h⟩ := hnew p (hattention ▸ hp)
    · exact .inl h
    · exact .inr ⟨c, h⟩
  · exact hattention ▸ hstays q hq

/-- A channel that is not POURING is as before when causes are applied. -/
theorem State.CausesApplied.chan_eq (h : s.CausesApplied t) (hc : (s.chan c).state ≠ .pouring) : t.chan c = s.chan c := by
  refine (h.others c fun hs => hc hs.1).resolve_right fun hw => ?_
  have := hw.1
  simp [Channel.wantsDraw, hc] at this

theorem State.CausesApplied.assigned_eq (h : s.CausesApplied t) (c : ChanId) :
    (t.chan c).assigned = (s.chan c).assigned := by
  by_cases hc : s.stands c
  · obtain ⟨-, -, heq⟩ := h.suspended c hc
    rw [heq]
  · rcases h.others c hc with heq | ⟨-, heq⟩ <;> rw [heq]

/-- The causes reach the channels of a state that reads as the one they are applied in (R93, R94). -/
theorem State.CausesApplied.causesReach (h : s.CausesApplied t) (hframe : s.SameCauses t) (hchannels : s.channels = u.channels)
    (hnotice : ∀ c, s.noticeAt (.draw c) = u.noticeAt (.draw c)) (hunit : s.unit = u.unit)
    (hattention : s.attention = u.attention) :
    Machine.causesReach u t ∧ othersAsk (meetsCause u t) u t ∧ ∀ c, meetsCause u t c ↔ s.stands c := by
  have hchan (c : ChanId) : u.chan c = s.chan c := by rw [State.chan, State.chan, hchannels]
  have hmeets (c : ChanId) : meetsCause u t c ↔ s.stands c := by
    rw [meetsCause, State.stands, hchan,
      State.causes_congr (h.assigned_eq c) hframe.stops hframe.unit hframe.pins hframe.holds]
  have hothers : othersAsk (meetsCause u t) u t := fun c hc => hchan c ▸ h.others c (mt (hmeets c).2 hc)
  refine ⟨⟨fun c hc => ?_, hothers, fun p hp => ?_⟩, hothers, hmeets⟩
  · have hs := h.suspended c ((hmeets c).1 hc)
    exact hs.congr (hchan c) (hnotice c).symm hunit.symm rfl rfl hs.2.1
  · rw [← hattention]
    exact (h.attention p hp).imp_right fun ⟨c, hc, hp⟩ => ⟨c, (hmeets c).2 hc, hp⟩

theorem State.sameCauses_applyCauses (s : State) : s.SameCauses s.applyCauses :=
  ⟨by simp, by simp, by simp, fun ℓ => by simp [State.lane]⟩

end Causes

end Sys2Proof.Machine

namespace Sys2Proof.Machine

/-! ## Proofs: the pour channels (chapter 4) -/

section Pours

variable {s t u : State} {c d : ChanId} {cfg : ChannelCfg} {ph : Phase}

/-! ### The phase -/

/-- What the phase is decided from, beside the draw, is the same in both states. -/
structure State.SameQuantities (c : ChanId) (s t : State) : Prop where
  assigned : (t.chan c).assigned = (s.chan c).assigned
  slow : (t.chan c).slow = (s.chan c).slow
  pulses : (t.chan c).pulses = (s.chan c).pulses
  unit : t.unit = s.unit
  lanes : t.lanes = s.lanes

namespace State.SameQuantities

theorem chanCfg (h : SameQuantities c s t) : t.chanCfg c = s.chanCfg c := by simp [State.chanCfg, h.unit]

theorem assignedComp (h : SameQuantities c s t) : t.assignedComp c = s.assignedComp c := by
  simp [State.assignedComp, State.lane, h.assigned, h.lanes]

theorem meteredAt (h : SameQuantities c s t) : t.meteredAt c = s.meteredAt c := by
  simp [State.meteredAt, h.assignedComp]

theorem switchLoaded (h : SameQuantities c s t) : t.switchLoaded c = s.switchLoaded c := by
  simp [State.switchLoaded, h.assignedComp]

theorem pourLitres (h : SameQuantities c s t) : t.pourLitres c = s.pourLitres c := by
  simp [State.pourLitres, h.chanCfg, h.pulses]

theorem headerLimit (h : SameQuantities c s t) (x : Nat) : t.headerLimit x = s.headerLimit x := by
  simp [State.headerLimit, h.unit]

end State.SameQuantities

theorem phaseFits_phaseOf (hcfg : s.chanCfg c = some cfg) : phaseFits s c cfg (s.phaseOf c) := by
  refine ⟨fun h => ?_, fun h hslow => ?_, fun h hslow => ?_⟩
  · simp [State.phaseOf, hcfg, h]
  · have hslow' : (decide ((s.chan c).slow.getD 0 ≤ (s.pourLitres c : Int)) || s.switchLoaded c ||
        s.headerLimit cfg.header == 0) = true := by simpa [or_assoc] using hslow
    simp only [State.phaseOf, hcfg, if_neg (Nat.not_lt.2 h), hslow', if_true]
  · have hslow' : ¬ (decide ((s.chan c).slow.getD 0 ≤ (s.pourLitres c : Int)) || s.switchLoaded c ||
        s.headerLimit cfg.header == 0) = true := by simpa [or_assoc] using hslow
    simp only [State.phaseOf, hcfg, if_neg (Nat.not_lt.2 h), hslow', Channel.grant, beq_iff_eq]
    rfl

/-- A phase that fits goes on fitting while the quantities, and in WAIT and FULL the grant, stay. -/
theorem phaseFits.congr (h : phaseFits s c cfg ph) (hsame : State.SameQuantities c s t)
    (hgrant : ph = .full ∨ ph = .wait → ((t.chan c).draw = .granted ↔ (s.chan c).draw = .granted)) :
    phaseFits t c cfg ph := by
  obtain ⟨hstart, hslow, hrest⟩ := h
  rw [phaseFits, hsame.meteredAt, hsame.slow, hsame.pourLitres, hsame.switchLoaded, hsame.headerLimit]
  refine ⟨hstart, hslow, fun hvol hfast => ?_⟩
  have hph := hrest hvol hfast
  have hph' : ph = .full ∨ ph = .wait := by
    rw [hph]
    split
    · exact .inl rfl
    · exact .inr rfl
  rw [hph]
  simp only [hgrant hph']

/-- Deciding the phase writes phase and permit; a draw is given up only where the channel leaves WAIT or FULL for START or
SLOW (R84, R86, R91). -/
theorem State.decidePhase_effect (s : State) (c : ChanId) : ∃ u draw, State.OnlyDraw c s u ∧ u.Offers (s.decidePhase c) ∧
    u.chan c = { s.chan c with phase := some (s.phaseOf c), permit := (s.phaseOf c).level, draw := draw } ∧
    (draw = (s.chan c).draw ∨
      (s.phaseOf c ≠ .wait ∧ s.phaseOf c ≠ .full ∧ ((s.chan c).phase = some .wait ∨ (s.chan c).phase = some .full))) := by
  obtain ⟨s1, hs1⟩ : ∃ s1, s1 = s.modChan c (fun ch => { ch with phase := some (s.phaseOf c), permit := (s.phaseOf c).level }) :=
    ⟨_, rfl⟩
  have hchan : s1.chan c =
      { s.chan c with phase := some (s.phaseOf c), permit := (s.phaseOf c).level, draw := (s.chan c).draw } := by
    rw [hs1, State.chan_modChan_same]
  have honly : State.OnlyDraw c s s1 := hs1 ▸ (State.OnlyDraw.refl c s).modChan _
  unfold State.decidePhase
  simp only [← hs1]
  split
  · exact ⟨s1, _, honly, .refl s1, hchan, .inl rfl⟩
  · split
    · exact ⟨s1, _, honly, .offerRound _ s1, hchan, .inl rfl⟩
    · rename_i hwait
      split
      · rename_i hleaves
        refine ⟨s1.giveUpDraw c, drawGivenUp s c, honly.giveUpDraw, .reportFalls _ _, ?_, .inr ⟨hwait, hleaves⟩⟩
        rw [hs1, State.chan_giveUpDraw_modChan _ _ _ (by rfl)]
      · exact ⟨s1, _, honly, .refl s1, hchan, .inl rfl⟩

theorem Phase.level_eq (ph : Phase) : ph.level = if ph = .full then .high else .low := by cases ph <;> rfl

/-- A channel without a phase that begins to pour goes on in the phase its quantities give (R80, R96). -/
theorem poursOn_startPouring (hcfg : s.chanCfg c = some cfg) (hphase : (s.chan c).phase = none) :
    poursOn s (s.startPouring c) c cfg (s.chan c) ∧ ∃ u, State.OnlyDraw c s u ∧ u.Offers (s.startPouring c) := by
  obtain ⟨s1, hs1⟩ : ∃ s1, s1 = s.modChan c (fun ch => { ch with state := .pouring, noFlow := some s.noFlowMs }) := ⟨_, rfl⟩
  have hchan1 : s1.chan c = { s.chan c with state := .pouring, noFlow := some s.noFlowMs } := by
    rw [hs1, State.chan_modChan_same]
  obtain ⟨u, draw, honly, ho, hchan, hdraw⟩ := s1.decidePhase_effect c
  have honly1 : State.OnlyDraw c s s1 := hs1 ▸ (State.OnlyDraw.refl c s).modChan _
  have hstart : s.startPouring c = s1.decidePhase c := by rw [State.startPouring, hs1]
  have hdraw' : draw = (s.chan c).draw := by
    rcases hdraw with h | ⟨-, -, h⟩
    · rw [h, hchan1]
    · simp [hchan1, hphase] at h
  rw [hstart]
  refine ⟨?_, u, honly1.trans honly, ho⟩
  have hfits : phaseFits s c cfg (s1.phaseOf c) :=
    (phaseFits_phaseOf (s := s1) (by rw [hs1]; exact hcfg)).congr
      ⟨by rw [hchan1], by rw [hchan1], by rw [hchan1], by rw [hs1]; rfl, by rw [hs1]; rfl⟩ fun _ => by rw [hchan1]
  rw [hchan1, Phase.level_eq] at hchan
  rcases ho.chan c with h | ⟨hwants, h⟩
  · exact ⟨_, draw, hfits, .inl hdraw', by rw [h, hchan]⟩
  · refine ⟨_, .asked, hfits, .inr ?_, by rw [h, hchan]⟩
    simp only [Channel.wantsDraw, hchan, Bool.and_eq_true, beq_iff_eq] at hwants
    obtain ⟨⟨-, hph⟩, hnone⟩ := hwants
    exact ⟨Option.some.inj hph, hdraw' ▸ hnone, rfl⟩

theorem State.chanCfg_of_chanOperand {s : State} {ops : List Byte} {off : Nat} (h : s.chanOperand ops off = some (c, cfg)) :
    s.chanCfg c = some cfg := by
  unfold State.chanOperand at h
  split at h
  · split at h
    · cases h
      assumption
    · cases h
  · cases h

/-- Settles O33: the channel's state decides between IDLE and the end of the pour. -/
theorem pourStopEndsThePour : Obligations.PourStopEndsThePour := by
  intro ops k s c cfg htakes hjoined hchan
  refine ⟨fun harmed => ?_, fun hruns => ?_⟩
  · refine exec_of_accepted (i := .pourStop ops k) rfl htakes hjoined ?_
    simp [askOwner, ownPourStop, hjoined, hchan, harmed, State.idleChannel, State.modChan]
  · have hown : ownPourStop ops s = okReply (s.endPour c .stopped) [] := by
      rcases hruns with h | h <;> simp [ownPourStop, hjoined, hchan, h]
    refine ⟨_, exec_of_accepted (i := .pourStop ops k) rfl htakes hjoined (congrArg atOnce hown),
      pourEnds_endPour hruns .stopped, channelEvent_endPour s c .stopped, ?_⟩
    simp

/-- Settles O34. -/
theorem pourResumeGoesOn : Obligations.PourResumeGoesOn := by
  intro ops k s c cfg htakes hjoined hchan hstate hphase hprobe hcauses hcoupled
  obtain ⟨hpours, u, honly, ho⟩ := poursOn_startPouring (State.chanCfg_of_chanOperand hchan) hphase
  have hpours' := hpours
  obtain ⟨ph, draw, -, -, heq⟩ := hpours'
  have hph : ((s.startPouring c).chan c).phase = some ph := by rw [heq]
  have hown : ownPourResume ops s = okReply (s.startPouring c) (be 1 ph.code) := by
    simp [ownPourResume, hjoined, hchan, hstate, hprobe, hcauses, hcoupled, hph]
  have hevent : channelEvent (· = c) s (s.startPouring c) := honly.channelEvent ho (by simp)
  refine ⟨_, ph, exec_of_accepted (i := .pourResume ops k) rfl htakes hjoined (congrArg atOnce hown), hpours, hph,
    hevent, ?_⟩
  simp

/-- A pour seen from a state with the same quantities, in which the channel is to begin from other values. -/
theorem poursOn.congr {before before' : Channel} (h : poursOn s t c cfg before) (hsame : State.SameQuantities c s u)
    (hdraw : (u.chan c).draw = (s.chan c).draw) (hbefore : before' = before) : poursOn u t c cfg before' := by
  obtain ⟨ph, draw, hfits, hd, heq⟩ := h
  refine ⟨ph, draw, hfits.congr hsame fun _ => by rw [hdraw], hbefore ▸ hd, ?_⟩
  rw [heq, hbefore, show u.noFlowMs = s.noFlowMs by simp [State.noFlowMs, hsame.unit]]

theorem State.sampled_of_present (hreset : s.inReset = false) (hcfg : s.chanCfg c = some cfg) : s.sampled c = true := by
  simp [State.sampled, hreset, hcfg]

/-- Settles O36: the press is an edge, and only a start that nothing stands against acts. -/
theorem pressStartsThePour : Obligations.PressStartsThePour := by
  refine ⟨fun c cfg s hreset hcfg hpressed harmed hphase hcoupled hground hprobe hcauses => ?_, fun c s hpressed hbar => ?_,
    fun c s hpressed => ?_, fun c s => rfl, fun c s => rfl⟩
  · obtain ⟨s1, hs1⟩ : ∃ s1, s1 = (s.setPressed c true).modChan c (fun ch => { ch with pourStart := some s.minute }) :=
      ⟨_, rfl⟩
    have hchan1 : s1.chan c = { s.chan c with pourStart := some s.minute } := by
      rw [hs1, State.chan_modChan_same]
      rfl
    obtain ⟨hpours, u, honly, ho⟩ := poursOn_startPouring (s := s1) (c := c) (cfg := cfg) (by rw [hs1]; exact hcfg)
      (by rw [hchan1]; exact hphase)
    have hexec : exec (.startPress c) s = .next (s1.startPouring c) := by
      have hsampled : (s.setPressed c true).sampled c = true := by
        rw [State.sampled_setPressed]
        exact State.sampled_of_present hreset hcfg
      have hmay : (s.setPressed c true).mayStart c = true := by
        have hmay' : s.mayStart c = true := by simp [State.mayStart, harmed, hcoupled, hground, hprobe, hcauses]
        exact hmay'
      show execStartPress c s = _
      simp only [execStartPress, hpressed, hsampled, hmay, State.startPour, hs1]
      rfl
    have hpress : State.OnlyDraw c s (s.setPressed c true) := ⟨fun _ _ => rfl, lineKept_of_eq rfl, noticesKept_of_line rfl⟩
    have honly1 : State.OnlyDraw c s s1 := hs1 ▸ hpress.modChan _
    refine ⟨_, hexec, hpours.congr ⟨by rw [hchan1], by rw [hchan1], by rw [hchan1], by rw [hs1]; rfl, by rw [hs1]; rfl⟩
      (by rw [hchan1]) hchan1.symm, (honly1.trans honly).channelEvent ho (by simp [hs1]), by simp [hs1], by simp [hs1],
      by simp [hs1], by simp [hs1, State.setPressed]⟩
  · have hstays : ((s.setPressed c true).sampled c && (s.setPressed c true).mayStart c) = false := by
      have hstays' : (s.sampled c && s.mayStart c) = false := by
        rcases hbar with h | h | h | h | h | h | h <;> simp [State.sampled, State.mayStart, h]
      exact hstays'
    show execStartPress c s = _
    simp only [execStartPress, hpressed, hstays]
    rfl
  · show execStartPress c s = _
    simp [execStartPress, hpressed]

/-- The end of a pour after an input's level has been written. -/
theorem pourEnds.setPins {e : EndStatus} {x : Pins} (h : pourEnds (s.setPins x) t c e) : pourEnds s t c e := h

theorem channelEvent.setPins {changed : ChanId → Prop} {x : Pins} (h : channelEvent changed (s.setPins x) t) :
    channelEvent changed s t := h

theorem State.wetChannel_of_runsPour {ℓ : LaneId} (hlane : (s.chan c).atLane ℓ = true) :
    State.wetChannel ℓ s c = State.settlePour .probe s c := if_pos hlane

theorem State.wetChannel_of_not {ℓ : LaneId} (h : ¬ ((s.chan c).atLane ℓ = true ∧ runsPour s c)) :
    State.wetChannel ℓ s c = s := by
  unfold State.wetChannel
  split
  · rename_i hlane
    exact State.settlePour_of_not_runsPour (fun hruns => h ⟨hlane, hruns⟩) _
  · rfl

/-- A probe that goes WET ends the pour of each channel of its lane that runs one (R97). -/
theorem pourEnds_wetChannels (ℓ : LaneId) (s : State) :
    (∀ c, (s.chan c).atLane ℓ = true → runsPour s c → pourEnds s (ChanId.all.foldl (State.wetChannel ℓ) s) c .probe) ∧
    (∀ c, ¬ ((s.chan c).atLane ℓ = true ∧ runsPour s c) →
      (ChanId.all.foldl (State.wetChannel ℓ) s).chan c = s.chan c) := by
  have hop (t : State) (c : ChanId) : State.OnlyDraw c t (State.wetChannel ℓ t c) := (State.OnlyDraw.refl c t).wetChannel ℓ
  refine ⟨fun c hlane hruns => ?_, fun c hc => ?_⟩
  · obtain ⟨before, hchan, hnotice, hchan', hnotice'⟩ := foldl_at hop c s
    obtain ⟨u, hu⟩ : ∃ u, u = before.foldl (State.wetChannel ℓ) s := ⟨_, rfl⟩
    have hunit : u.unit = s.unit := hu ▸ foldl_keep (fun t => t.unit) _ before s fun _ _ => by simp
    rw [← hu] at hchan hnotice hchan' hnotice'
    have hruns' : runsPour u c := by rw [runsPour, hchan]; exact hruns
    rw [State.wetChannel_of_runsPour (by rw [hchan]; exact hlane)] at hchan' hnotice'
    refine ⟨(drawReturned_settlePour hruns' .probe).congr (by rw [hchan]) hnotice.symm hunit.symm
      fun e he => hnotice'.trans he, ?_⟩
    rw [hchan', State.chan_settlePour hruns', hchan, drawGivenUp_congr (by rw [hchan]) hnotice,
      show u.minute = s.minute by simp [State.minute, hunit], show u.settleMs = s.settleMs by simp [State.settleMs, hunit]]
    rfl
  · obtain ⟨before, hchan, -, hchan', -⟩ := foldl_at hop c s
    rw [hchan', State.wetChannel_of_not, hchan]
    rw [runsPour, hchan]
    exact hc

/-- Settles O37. -/
theorem lostInputsEndPours : Obligations.LostInputsEndPours := by
  refine ⟨fun c cfg s hreset hcfg hcoupled => ?_, fun ℓ s hreset hdry => ?_, fun ℓ s => ?_⟩
  · have hsampled : (s.setCoupled c false).sampled c = true := by
      rw [State.sampled_setCoupled]
      exact State.sampled_of_present hreset hcfg
    refine ⟨fun hpouring => ?_, fun hnot => ?_⟩
    · have hexec : exec (.couplerLost c) s = .next ((s.setCoupled c false).endPour c .uncoupled) := by
        show execCouplerLost c s = _
        have hstate : ((s.setCoupled c false).chan c).state = .pouring := hpouring
        simp [execCouplerLost, hcoupled, hsampled, hstate]
      have hruns : runsPour (s.setCoupled c false) c := .inl hpouring
      refine ⟨_, hexec, (pourEnds_endPour hruns .uncoupled).setPins, (channelEvent_endPour _ c .uncoupled).setPins, ?_⟩
      simp [State.setCoupled]
    · have hstate : ((s.setCoupled c false).chan c).state ≠ .pouring := hnot
      show execCouplerLost c s = _
      simp only [execCouplerLost, beq_false_of_ne hstate, Bool.and_false]
      rfl
  · obtain ⟨s1, hs1⟩ : ∃ s1, s1 = s.setPins (s.pins.setProbe ℓ .wet) := ⟨_, rfl⟩
    obtain ⟨t, ht⟩ : ∃ t, t = ChanId.all.foldl (State.wetChannel ℓ) s1 := ⟨_, rfl⟩
    have hexec : exec (.probeChange ℓ .wet) s = .next (State.reportFalls s1 t) := by
      show execProbeChange ℓ .wet s = _
      have hacts : ¬ (s.probe ℓ = .wet ∨ s.inReset = true ∨ Probe.wet = Probe.dry) := by simp [hdry, hreset]
      simp only [execProbeChange, hacts, if_false, ht, hs1]
    have hframe {β : Type} (π : State → β) (hπ : ∀ u d, π (State.wetChannel ℓ u d) = π u) : π t = π s1 :=
      ht ▸ foldl_keep π _ _ s1 hπ
    obtain ⟨hends, hkept⟩ := pourEnds_wetChannels ℓ s1
    obtain ⟨hline, hnotices⟩ := foldl_line (op := State.wetChannel ℓ)
      (fun u c => (State.OnlyDraw.refl c u).wetChannel ℓ) ChanId.all s1
    have ho : t.Offers (State.reportFalls s1 t) := .reportFalls s1 t
    rw [← ht] at hends hkept hline hnotices
    have hevent : channelEvent (fun c => (s1.chan c).atLane ℓ = true ∧ runsPour s1 c) s1 (State.reportFalls s1 t) :=
      channelEvent_of hkept hline hnotices ho (by
        simp only [State.reportFalls_frame]
        exact ⟨hframe (·.lists) (by simp), hframe (·.view) (by simp), hframe (·.log) (by simp),
          hframe (·.pending) (by simp), hframe (·.unit) (by simp), hframe (·.released) (by simp),
          hframe (·.freeCount) (by simp)⟩)
    have hlanes : t.lanes = s1.lanes := hframe (·.lanes) (by simp)
    have hattention : t.attention = s1.attention := hframe (·.attention) (by simp)
    have hport : t.port = s1.port := hframe (·.port) (by simp)
    have hpins : t.pins = s1.pins := hframe (·.pins) (by simp)
    subst hs1
    refine ⟨_, hexec, fun c hlane hruns => ((hends c hlane hruns).offers ho).setPins, hevent, ?_⟩
    simp only [State.reportFalls_frame, hlanes, hattention, hport, hpins]
    exact ⟨rfl, rfl, rfl, rfl⟩
  · show execProbeChange ℓ .dry s = _
    simp [execProbeChange]

/-- Settles O46: each command acts where its timer runs. -/
theorem timersRunOut : Obligations.TimersRunOut := by
  refine ⟨fun ℓ s hreset hpulse => ?_, fun c s hreset hnoFlow hpouring => ?_, fun s hreset hjoining => ?_⟩
  · show execDispatchPulseEnd ℓ s = _
    simp [execDispatchPulseEnd, hreset, Option.isSome_iff_ne_none.2 hpulse, State.modLane]
  · have hexec : exec (.noFlowTimerExpiry c) s = .next (s.endPour c .noflow) := by
      show execNoFlowTimerExpiry c s = _
      simp [execNoFlowTimerExpiry, hreset, Option.isSome_iff_ne_none.2 hnoFlow, hpouring]
    refine ⟨_, hexec, pourEnds_endPour (.inl hpouring) .noflow, channelEvent_endPour s c .noflow, ?_⟩
    simp
  · show execJoiningTimerExpiry s = _
    simp [execJoiningTimerExpiry, hreset, hjoining]

end Pours

end Sys2Proof.Machine

namespace Sys2Proof.Machine

/-! ## Proofs: causes, pulses and the settle time (chapters 4 and 5) -/

section Pulses

variable {s t u : State} {c d : ChanId} {cfg : ChannelCfg} {ℓ : LaneId}

theorem Lists.stop_setStop (l : Lists) (h : Assoc.wf StopMember.absent l.stops = true) (a b : Nat) (m : StopMember) :
    (l.setStop a m).stop b = if b = a then m else l.stop b := by
  rw [Lists.stop, Lists.setStop, Assoc.get_put _ _ _ _ _ h, Lists.stop]

theorem State.noticeAt_setOwnStop (p : Place) : s.setOwnStop.noticeAt p = s.noticeAt p := rfl

theorem noticesKept_queueStop (s : State) : noticesKept (· = .stop) s s.queueStop := fun p hp => by
  rw [State.noticeAt_queueStop, if_neg fun h => hp h.2.1]

theorem lineKept_of_sendQueueOnly (h : sendQueueOnly s t) : lineKept s t := by
  rw [lineKept, show t.line = _ from h]

theorem State.noticeAt_ne_none_of_begunAt {p : Place} (h : s.begunAt p = true) : s.noticeAt p ≠ none := fun hnone => by
  simp [State.begunAt, hnone] at h

/-- Settles O38: the causes are applied in the state that the input's change has left. -/
theorem causesSuspendPours : Obligations.CausesSuspendPours := by
  refine ⟨fun ℓ g s hreset hchange => ?_, fun asserted s hon hchange hwf => ?_⟩
  · obtain ⟨w, hw⟩ : ∃ w, w = s.setPins (s.pins.setGround ℓ g) := ⟨_, rfl⟩
    have hexec : exec (.groundChange ℓ g) s = .next w.applyCauses := by
      show execGroundChange ℓ g s = _
      simp [execGroundChange, hchange, hreset, hw]
    have happlied := w.causesApplied
    obtain ⟨hreach, hothers, hmeets⟩ := happlied.causesReach w.sameCauses_applyCauses (u := s) (by rw [hw]; rfl)
      (fun _ => by rw [hw]; rfl) (by rw [hw]; rfl) (by rw [hw]; rfl)
    refine ⟨_, hexec, hreach, fun hlost c hlane hpouring => hreach.1 c ((hmeets c).2 ⟨by rw [hw]; exact hpouring, ?_⟩),
      ⟨hothers, ?_, ?_, ?_⟩, ?_⟩
    · have hground : (w.causes c).ground = true := by
        have hassigned : ∃ n, (w.chan c).assigned = some (ℓ, n) := by
          rw [hw]
          show ∃ n, (s.chan c).assigned = some (ℓ, n)
          unfold Channel.atLane at hlane
          split at hlane
          · rename_i heq
            exact ⟨_, heq.trans (by rw [beq_iff_eq.1 hlane])⟩
          · cases hlane
        obtain ⟨n, hn⟩ := hassigned
        have hlevel : w.ground ℓ = .lost := by rw [hw, hlost]; cases ℓ <;> rfl
        simp [State.causes, hn, hlevel]
      simp [Causes.any, hground]
    · exact (lineKept_of_eq (by rw [hw]; rfl)).trans happlied.line
    · exact (noticesKept_of_line (by rw [hw]; rfl)).trans happlied.kept
    · simp [hw]
    · simp [hw]
  · obtain ⟨s1, hs1⟩ : ∃ s1, s1 = s.setPins { s.pins with stopChain := asserted } := ⟨_, rfl⟩
    obtain ⟨v, hv⟩ : ∃ v, v = s1.setOwnStop.removeNotice .stop := ⟨_, rfl⟩
    obtain ⟨w, hw⟩ : ∃ w, w = v.queueStop := ⟨_, rfl⟩
    have hexec : exec (.stopInputChange asserted) s = .next w.applyCauses := by
      show execStopInputChange asserted s = _
      simp only [execStopInputChange, hchange, hon, Bool.true_eq_false, or_self, if_false, State.stopChanged, hw, hv, hs1]
    have hchain : v.pins.stopChain = asserted := by simp [hv, hs1, State.setOwnStop]
    have hlists : v.lists = s.lists.setStop s.unit.address (if asserted then .live else .absent) := by
      simp [hv, hs1, State.setOwnStop]
    have hwlists : w.lists = v.lists := by rw [hw, State.queueStop_lists]
    have hvnotice : noticesKept (· = .stop) s v := fun p hp => by
      rw [hv, State.noticeAt_removeNotice, if_neg fun h => hp h.1, hs1]
      rfl
    have hwnotice : noticesKept (· = .stop) s w := hvnotice.trans (hw ▸ noticesKept_queueStop v)
    have hbegun : s1.setOwnStop.begunAt .stop = s.begunAt .stop := by rw [hs1]; rfl
    have hvstop : v.noticeAt .stop = if s.begunAt .stop = false then none else s.noticeAt .stop := by
      rw [hv, State.noticeAt_removeNotice, hbegun, hs1]
      simp only [true_and]
      rfl
    have happlied := w.causesApplied
    have hwstop : w.applyCauses.noticeAt .stop = if asserted ≠ s.lists.announcedAssert ∧ v.noticeAt .stop = none then
        some ⟨.stop asserted, false⟩ else v.noticeAt .stop := by
      rw [happlied.kept .stop (by rintro ⟨c, hc⟩; cases hc), hw, State.noticeAt_queueStop, hchain, hlists]
      simp [Lists.setStop]
    have hline : lineKept s w := by
      refine (lineKept_of_eq (t := s1.setOwnStop) (by rw [hs1]; rfl)).trans ((lineKept_removeNotice .stop).trans ?_)
      rw [← hv, hw]
      exact lineKept_of_sendQueueOnly (sendQueueOnly_queueStop v)
    obtain ⟨hreach, hothers, hmeets⟩ := happlied.causesReach w.sameCauses_applyCauses (u := s) (by simp [hw, hv, hs1, State.setOwnStop])
      (fun _ => hwnotice _ nofun) (by simp [hw, hv, hs1, State.setOwnStop]) (by simp [hw, hv, hs1, State.setOwnStop])
    have hjoined : s.joined = true := by
      simp only [State.lineOn, Bool.and_eq_true] at hon
      exact hon.2
    refine ⟨_, hexec, hreach, fun hassert c hpouring => hreach.1 c ((hmeets c).2 ⟨?_, ?_⟩), fun a => ?_, ?_, fun hnot => ?_,
      fun hyes => ?_, hline.trans happlied.line,
      (hwnotice.mono fun _ => .inl).trans (happlied.kept.mono fun _ => .inr), ?_⟩
    · simpa [State.chan, hw, hv, hs1, State.setOwnStop] using hpouring
    · have hstands : w.stopStands = true := by
        have hwchain : w.pins.stopChain = true := by simp [hw, hchain, hassert]
        have hwjoined : w.joined = true := by
          rw [← hjoined, State.joined, State.joined, show w.unit = s.unit by simp [hw, hv, hs1, State.setOwnStop]]
        simp [State.stopStands, hwchain, hwjoined]
      simp [State.causes, Causes.any, hstands]
    · simp only [State.applyCauses_frame, hwlists, hlists]
      exact Lists.stop_setStop _ hwf ..
    · simp only [State.applyCauses_frame, hwlists, hlists]
      rfl
    · rw [hwstop, hvstop, if_pos hnot]
      by_cases h : asserted = s.lists.announcedAssert
      · rw [if_neg fun hh => hh.1 h, if_pos h]
      · rw [if_pos ⟨h, rfl⟩, if_neg h]
    · have hsame : v.noticeAt .stop = s.noticeAt .stop := by rw [hvstop, if_neg (by simp [hyes])]
      rw [hwstop, hsame, if_neg fun h => State.noticeAt_ne_none_of_begunAt hyes h.2]
    · simp [hw, hv, hs1, State.setOwnStop]

/-! ### Pulses -/

theorem LoadRecord.modComp_congr {r : LoadRecord} {n : Nat} {comp : Comp} (h : r.comp? n = some comp)
    {f g : Comp → Comp} (hfg : f comp = g comp) : r.modComp n f = r.modComp n g := by
  cases n with
  | zero => rfl
  | succ k =>
    have hk : r.comps[k]? = some comp := h
    have hmodify : r.comps.modify k f = r.comps.modify k g := by
      refine List.ext_getElem? fun i => ?_
      rw [List.getElem?_modify, List.getElem?_modify]
      by_cases hi : k = i
      · subst hi
        simp [hk, hfg]
      · simp [hi]
    simp [LoadRecord.modComp, hmodify]

/-- A pulse counted toward the pour of channel `c`, and what it changes: the count, and the litres of the compartment (R81,
R82). -/
structure State.Counted (c : ChanId) (ℓ : LaneId) (n : Nat) (r : LoadRecord) (litres : Nat) (ch : Channel) (s t : State) :
    Prop where
  chan : t.chan c = ch
  others : ∀ d, d ≠ c → t.chan d = s.chan d
  lane : t.lane ℓ = { s.lane ℓ with record := some (r.modComp n (fun x => { x with metered := litres })) }
  otherLane : t.lane (otherLane ℓ) = s.lane (Machine.otherLane ℓ)
  line : t.line = s.line
  rest : t.lists = s.lists ∧ t.view = s.view ∧ t.log = s.log ∧ t.pending = s.pending ∧ t.unit = s.unit ∧
    t.released = s.released ∧ t.freeCount = s.freeCount
  kept : t.attention = s.attention ∧ t.pins = s.pins ∧ t.port = s.port

theorem State.counted {n : Nat} {r : LoadRecord} {comp : Comp} (hcfg : s.chanCfg c = some cfg)
    (hassigned : (s.chan c).assigned = some (ℓ, n)) (hrecord : (s.lane ℓ).record = some r) (hcomp : r.comp? n = some comp)
    {count : Nat} (hcount : count = min ((s.chan c).pulses + 1) 16777215) :
    s.Counted c ℓ n r (comp.metered + (count / cfg.k - (s.chan c).pulses / cfg.k)) { s.chan c with pulses := count }
      (s.countPulse c) := by
  obtain ⟨s1, hs1⟩ : ∃ s1, s1 = s.modChan c (fun ch => { ch with pulses := min (ch.pulses + 1) Config.pulseMax }) := ⟨_, rfl⟩
  have hchan1 : s1.chan c = { s.chan c with pulses := count } := by
    rw [hs1, State.chan_modChan_same, hcount]
    rfl
  have hold : s.pourLitres c = (s.chan c).pulses / cfg.k := by simp [State.pourLitres, hcfg]
  have hnew : s1.pourLitres c = count / cfg.k := by
    have hcfg1 : s1.chanCfg c = some cfg := by rw [hs1]; exact hcfg
    simp [State.pourLitres, hcfg1, hchan1]
  have hlane1 (m : LaneId) : s1.lane m = s.lane m := by rw [hs1]; rfl
  have heq : s.countPulse c = s1.setLane ℓ { s.lane ℓ with record := some (r.modComp n (fun x =>
      { x with metered := comp.metered + (count / cfg.k - (s.chan c).pulses / cfg.k) })) } := by
    unfold State.countPulse
    dsimp only
    rw [← hs1, hold, hnew, State.addMetered, show (s1.chan c).assigned = some (ℓ, n) by rw [hchan1]; exact hassigned]
    dsimp only
    rw [State.modRecord_of_record (x := r) (by rw [hlane1]; exact hrecord), hlane1,
      LoadRecord.modComp_congr (g := fun x =>
        { x with metered := comp.metered + (count / cfg.k - (s.chan c).pulses / cfg.k) }) hcomp rfl]
  rw [heq]
  refine ⟨hchan1, fun d hd => ?_, State.lane_setLane_same .., ?_, ?_, ?_, ?_⟩
  · show s1.chan d = s.chan d
    rw [hs1, State.chan_modChan_ne _ _ hd]
  · rw [State.lane_setLane_ne _ _ (otherLane_ne ℓ), hlane1]
  · simp [hs1]
  · simp [hs1]
  · simp [hs1]

theorem State.strayPulse_eq (hcfg : s.chanCfg c = some cfg) : s.strayPulse c =
    if (s.chan c).stray < 65535 then
      (s.setChan c { s.chan c with stray := (s.chan c).stray + 1 }).setAttention
        (if ((s.chan c).stray + 1) % cfg.k = 0 then addReasonTo (.stray c) s.attention else s.attention)
    else s := by
  unfold State.strayPulse
  dsimp only
  by_cases hmax : (s.chan c).stray < 65535
  · rw [if_neg (show ¬ Config.strayMax ≤ _ from Nat.not_le.2 hmax), if_pos hmax, State.meterK, hcfg]
    dsimp only
    split
    · rfl
    · rfl
  · rw [if_pos (show Config.strayMax ≤ _ from Nat.not_lt.1 hmax), if_neg hmax]

namespace State.Counted

variable {n litres : Nat} {r : LoadRecord} {ch : Channel}

theorem of_modChan {f : Channel → Channel} (h : Counted c ℓ n r litres ch (s.modChan c f) t) :
    Counted c ℓ n r litres ch s t :=
  ⟨h.chan, fun d hd => (h.others d hd).trans (State.chan_modChan_ne _ _ hd), h.lane, h.otherLane, h.line, h.rest, h.kept⟩

theorem onlyDraw (h : Counted c ℓ n r litres ch s t) : State.OnlyDraw c s t :=
  ⟨h.others, lineKept_of_eq h.line, noticesKept_of_line h.line⟩

theorem noticeAt (h : Counted c ℓ n r litres ch s t) (p : Place) : t.noticeAt p = s.noticeAt p := by
  simp [State.noticeAt, h.line]

/-- What a pulse leaves alone, whatever the channel then does with its draw and its phase. -/
theorem event (h : Counted c ℓ n r litres ch s t) {v : State} (honly : State.OnlyDraw c t u) (ho : u.Offers v)
    (hframe : v.lanes = t.lanes ∧ v.attention = t.attention ∧ v.pins = t.pins ∧ v.port = t.port ∧ v.lists = t.lists ∧
      v.view = t.view ∧ v.log = t.log ∧ v.pending = t.pending ∧ v.unit = t.unit ∧ v.released = t.released ∧
      v.freeCount = t.freeCount) :
    v.lane ℓ = { s.lane ℓ with record := some (r.modComp n (fun x => { x with metered := litres })) } ∧
    v.lane (Machine.otherLane ℓ) = s.lane (Machine.otherLane ℓ) ∧ channelEvent (· = c) s v ∧ v.attention = s.attention ∧
    v.pins = s.pins ∧ v.port = s.port := by
  obtain ⟨hlanes, hattention, hpins, hport, hrest⟩ := hframe
  have hlane (m : LaneId) : v.lane m = t.lane m := by rw [State.lane, State.lane, hlanes]
  refine ⟨(hlane ℓ).trans h.lane, (hlane _).trans h.otherLane, (h.onlyDraw.trans honly).channelEvent ho ?_,
    hattention.trans h.kept.1, hpins.trans h.kept.2.1, hport.trans h.kept.2.2⟩
  obtain ⟨hlists, hview, hlog, hpending, hunit, hreleased, hfree⟩ := hrest
  obtain ⟨hlists', hview', hlog', hpending', hunit', hreleased', hfree'⟩ := h.rest
  exact ⟨hlists.trans hlists', hview.trans hview', hlog.trans hlog', hpending.trans hpending', hunit.trans hunit',
    hreleased.trans hreleased', hfree.trans hfree'⟩

theorem pourLitres (h : Counted c ℓ n r litres ch s t) (hcfg : s.chanCfg c = some cfg) :
    t.pourLitres c = ch.pulses / cfg.k := by
  have hcfg' : t.chanCfg c = some cfg := by
    rw [← hcfg, State.chanCfg, State.chanCfg, h.rest.2.2.2.2.1]
  simp [State.pourLitres, hcfg', h.chan]

/-- The counted channel closes: its pour ends COMPLETE (R87, R95). -/
theorem closes {count : Nat} {x : Option Nat}
    (h : Counted c ℓ n r litres { s.chan c with pulses := count, noFlow := x } s t) (hruns : runsPour s c) :
    drawReturned s (t.endPour c .complete) c ∧ (t.endPour c .complete).chan c = { s.chan c with
      state := .settling
      pulses := count
      phase := none
      permit := .off
      draw := drawGivenUp s c
      noFlow := none
      pourEnd := some .complete
      pourFinish := some s.minute
      settle := some s.settleMs } := by
  have hruns' : runsPour t c := by rw [runsPour, h.chan]; exact hruns
  have hunit : t.unit = s.unit := h.rest.2.2.2.2.1
  obtain ⟨hreturned, hchan⟩ := pourEnds_endPour hruns' .complete
  refine ⟨hreturned.congr (by rw [h.chan]) (h.noticeAt _).symm hunit.symm fun _ => id, ?_⟩
  rw [hchan, h.chan, drawGivenUp_congr (s := s) (by rw [h.chan]) (h.noticeAt _),
    show t.minute = s.minute by simp [State.minute, hunit], show t.settleMs = s.settleMs by simp [State.settleMs, hunit]]

end State.Counted

/-- A pulse that raises the pour litres of a POURING channel decides its phase again (R84). -/
theorem decidePhase_fits (hcfg : s.chanCfg c = some cfg) : ∃ ph, phaseFits (s.decidePhase c) c cfg ph ∧
    ∃ draw, (s.decidePhase c).chan c = { s.chan c with
      phase := some ph
      permit := if ph = .full then .high else .low
      draw := draw } := by
  obtain ⟨u, draw, -, ho, hchan, hdraw⟩ := s.decidePhase_effect c
  have hsame (x : DrawState) (h : (s.decidePhase c).chan c = { u.chan c with draw := x }) :
      State.SameQuantities c s (s.decidePhase c) :=
    ⟨by rw [h, hchan], by rw [h, hchan], by rw [h, hchan], by simp, by simp⟩
  have hgrants (h : s.phaseOf c = .full ∨ s.phaseOf c = .wait) : draw = (s.chan c).draw := by
    rcases hdraw with hd | ⟨hwait, hfull, -⟩
    · exact hd
    · exact (h.elim hfull hwait).elim
  rw [Phase.level_eq] at hchan
  refine ⟨s.phaseOf c, ?_⟩
  rcases ho.chan c with h | ⟨hwants, h⟩
  · refine ⟨(phaseFits_phaseOf hcfg).congr (hsame (u.chan c).draw h) fun hph => ?_, draw, by rw [h, hchan]⟩
    rw [h, hchan, hgrants hph]
  · refine ⟨(phaseFits_phaseOf hcfg).congr (hsame .asked h) fun hph => ?_, .asked, by rw [h, hchan]⟩
    simp only [Channel.wantsDraw, hchan, Bool.and_eq_true, beq_iff_eq] at hwants
    rw [h, ← hgrants hph, hwants.2]
    simp

/-- Settles O35: a pulse is counted first, and then closes the pour or decides its phase. -/
theorem pulsesAreCounted : Obligations.PulsesAreCounted := by
  refine ⟨fun c cfg s hreset hcfg hstate => ?_, fun c cfg s ℓ n r comp hreset hcfg hstate hassigned hrecord hcomp => ?_⟩
  · have hpulse : s.pulse c = s.strayPulse c := by
      rcases hstate with h | h | h <;> simp [State.pulse, h]
    show execMeterPulse c s = _
    rw [execMeterPulse, State.sampled_of_present hreset hcfg, if_pos rfl, hpulse, State.strayPulse_eq hcfg]
    split <;> rfl
  · obtain ⟨count, hcount⟩ : ∃ count, count = min ((s.chan c).pulses + 1) 16777215 := ⟨_, rfl⟩
    obtain ⟨old, hold⟩ : ∃ old, old = (s.chan c).pulses / cfg.k := ⟨_, rfl⟩
    obtain ⟨new, hnew⟩ : ∃ new, new = count / cfg.k := ⟨_, rfl⟩
    obtain ⟨closes, hcloses⟩ : ∃ closes, closes = (decide (old < new) && decide ((s.chan c).close.getD 0 ≤ new)) := ⟨_, rfl⟩
    have hexec : exec (.meterPulse c) s = .next (s.pulse c) := by
      show execMeterPulse c s = _
      rw [execMeterPulse, State.sampled_of_present hreset hcfg, if_pos rfl]
    have hlitres : s.pourLitres c = old := by simp [State.pourLitres, hcfg, hold]
    have hreaches {x : Option Nat} {litres : Nat} {t : State}
        (h : s.Counted c ℓ n r litres { s.chan c with pulses := count, noFlow := x } t) :
        State.reachesClose s t c = closes := by
      rw [State.reachesClose, hlitres, h.pourLitres hcfg, h.chan, hcloses, hnew]
    have hcounted := State.counted hcfg hassigned hrecord hcomp hcount
    rw [← hold, ← hnew] at hcounted
    refine ⟨s.pulse c, count, old, new, closes, hexec, hcount, hold, hnew, hcloses, ?_⟩
    rcases hstate with (hpouring | hsuspended) | hsettling
    · obtain ⟨s2, hs2⟩ : ∃ s2, s2 = (s.modChan c (fun ch => { ch with noFlow := some s.noFlowMs })).countPulse c := ⟨_, rfl⟩
      have hcounted2 := (State.counted (s := s.modChan c (fun ch => { ch with noFlow := some s.noFlowMs })) (c := c)
        (count := count) hcfg (by rw [State.chan_modChan_same]; exact hassigned) hrecord hcomp
        (by rw [State.chan_modChan_same]; exact hcount)).of_modChan
      rw [State.chan_modChan_same, ← hs2, ← hold, ← hnew] at hcounted2
      have hcfg2 : s2.chanCfg c = some cfg := by
        rw [State.chanCfg, hcounted2.rest.2.2.2.2.1]
        exact hcfg
      have hpulse : s.pulse c = if closes then s2.endPour c .complete else if old < new then s2.decidePhase c else s2 := by
        rw [State.pulse, hpouring]
        dsimp only
        unfold State.pouringPulse
        dsimp only
        rw [← hs2, hreaches hcounted2, hlitres, hcounted2.pourLitres hcfg, ← hnew]
      rw [hpulse]
      have hnotSettling : ¬ ((s.chan c).state = .settling ∨ ((s.chan c).state = .suspended ∧ closes = false)) := by
        simp [hpouring]
      by_cases hc : closes = true
      · obtain ⟨hreturned, hchan⟩ := hcounted2.closes (.inl hpouring)
        obtain ⟨hlane, hother, hevent, hrest⟩ := hcounted2.event ((State.OnlyDraw.refl c s2).settlePour .complete)
          (.reportFalls s2 _) (by simp)
        rw [if_pos hc]
        exact ⟨by rw [hchan], by rw [hchan], hlane, hother, hevent, hrest.1, hrest.2.1, hrest.2.2,
          fun _ _ => ⟨hreturned, hchan⟩, fun _ hn => by simp [hc] at hn, fun h => (hnotSettling h).elim⟩
      · rw [if_neg hc]
        by_cases hrise : old < new
        · rw [if_pos hrise]
          obtain ⟨ph, hfits, draw, hchan⟩ := decidePhase_fits hcfg2
          obtain ⟨u, -, honly, ho, -, -⟩ := s2.decidePhase_effect c
          obtain ⟨hlane, hother, hevent, hrest⟩ := hcounted2.event honly ho (by simp)
          rw [hcounted2.chan] at hchan
          exact ⟨by rw [hchan], by rw [hchan], hlane, hother, hevent, hrest.1, hrest.2.1, hrest.2.2,
            fun _ h => (hc h).elim, fun _ _ => ⟨by rw [hchan]; exact hpouring, by rw [hchan],
              fun _ => ⟨ph, hfits, by rw [hchan], by rw [hchan]⟩⟩, fun h => (hnotSettling h).elim⟩
        · rw [if_neg hrise]
          obtain ⟨hlane, hother, hevent, hrest⟩ := hcounted2.event (.refl c _) (.refl _)
            ⟨rfl, rfl, rfl, rfl, rfl, rfl, rfl, rfl, rfl, rfl, rfl⟩
          exact ⟨by rw [hcounted2.chan], by rw [hcounted2.chan], hlane, hother, hevent, hrest.1, hrest.2.1, hrest.2.2,
            fun _ h => (hc h).elim, fun _ _ => ⟨by rw [hcounted2.chan]; exact hpouring, by rw [hcounted2.chan],
              fun h => (hrise h).elim⟩, fun h => (hnotSettling h).elim⟩
    · have hpulse : s.pulse c = if closes then (s.countPulse c).endPour c .complete else s.countPulse c := by
        rw [State.pulse, hsuspended]
        dsimp only
        unfold State.suspendedPulse
        dsimp only
        rw [hreaches hcounted]
      have hnotPouring : (s.chan c).state ≠ .pouring := by rw [hsuspended]; decide
      rw [hpulse]
      by_cases hc : closes = true
      · obtain ⟨hreturned, hchan⟩ := hcounted.closes (.inr hsuspended)
        obtain ⟨hlane, hother, hevent, hrest⟩ := hcounted.event ((State.OnlyDraw.refl c _).settlePour .complete)
          (.reportFalls (s.countPulse c) _) (by simp)
        rw [if_pos hc]
        exact ⟨by rw [hchan], by rw [hchan], hlane, hother, hevent, hrest.1, hrest.2.1, hrest.2.2,
          fun _ _ => ⟨hreturned, hchan⟩, fun hp => (hnotPouring hp).elim, fun h => by simp [hsuspended, hc] at h⟩
      · obtain ⟨hlane, hother, hevent, hrest⟩ := hcounted.event (.refl c _) (.refl _)
          ⟨rfl, rfl, rfl, rfl, rfl, rfl, rfl, rfl, rfl, rfl, rfl⟩
        rw [if_neg hc]
        exact ⟨by rw [hcounted.chan], by rw [hcounted.chan], hlane, hother, hevent, hrest.1, hrest.2.1, hrest.2.2,
          fun _ h => (hc h).elim, fun hp => (hnotPouring hp).elim, fun _ => hcounted.chan⟩
    · have hpulse : s.pulse c = s.countPulse c := by simp [State.pulse, hsettling]
      obtain ⟨hlane, hother, hevent, hrest⟩ := hcounted.event (.refl c _) (.refl _) ⟨rfl, rfl, rfl, rfl, rfl, rfl, rfl, rfl, rfl, rfl, rfl⟩
      rw [hpulse]
      refine ⟨by rw [hcounted.chan], by rw [hcounted.chan], hlane, hother, hevent, hrest.1, hrest.2.1, hrest.2.2,
        fun hruns => ?_, fun hp => ?_, fun _ => hcounted.chan⟩
      · rw [runsPour, hsettling] at hruns
        simp at hruns
      · rw [hsettling] at hp
        cases hp

end Pulses

end Sys2Proof.Machine

namespace Sys2Proof.Machine

/-! ## The lanes' shared operations (chapters 1, 3, 5, 8): what an operation of one lane leaves alone -/

section LaneOps

variable {s t u : State} {ℓ : LaneId}

/-- The places of a lane's own notices (R129). -/
def lanePlace (ℓ : LaneId) (p : Place) : Prop := p = .release ℓ ∨ p = .claim ℓ ∨ p = .contest ℓ

theorem sameUnlessPouring.refl (s : State) : sameUnlessPouring s s := fun _ _ => rfl

theorem sameUnlessPouring.trans (h : sameUnlessPouring s t) (h' : sameUnlessPouring t u) : sameUnlessPouring s u :=
  fun c hc => (h' c (by rw [h c hc]; exact hc)).trans (h c hc)

theorem sameUnlessPouring_of_eq (h : t.channels = s.channels) : sameUnlessPouring s t := fun c _ => by
  rw [State.chan, State.chan, h]

/-- An operation of a lane: the other lane, the channels that do not pour, the places of other owners, the clear marks of the
attention set and the log memory stay. -/
structure State.LaneOp (ℓ : LaneId) (s t : State) : Prop where
  other : t.lane (otherLane ℓ) = s.lane (otherLane ℓ)
  chans : sameUnlessPouring s t
  line : lineKept s t
  stays : ∀ q, (q, false) ∈ s.attention → (q, false) ∈ t.attention
  notices : noticesKept (fun p => lanePlace ℓ p ∨ isDrawPlace p) s t
  memory : t.log.memory = s.log.memory

namespace State.LaneOp

theorem refl (ℓ : LaneId) (s : State) : LaneOp ℓ s s := ⟨rfl, .refl s, .refl s, fun _ => id, .refl _ s, rfl⟩

theorem trans (h : LaneOp ℓ s t) (h' : LaneOp ℓ t u) : LaneOp ℓ s u :=
  ⟨h'.other.trans h.other, h.chans.trans h'.chans, h.line.trans h'.line, fun q hq => h'.stays q (h.stays q hq),
    h.notices.trans h'.notices, h'.memory.trans h.memory⟩

theorem modLane (h : LaneOp ℓ s t) (f : Lane → Lane) : LaneOp ℓ s (t.modLane ℓ f) :=
  h.trans ⟨State.lane_modLane_ne _ _ (otherLane_ne ℓ), .refl t, .refl t, fun _ => id, .refl _ t, rfl⟩

theorem modRecord (h : LaneOp ℓ s t) (f : LoadRecord → LoadRecord) : LaneOp ℓ s (t.modRecord ℓ f) := h.modLane _

theorem attend (h : LaneOp ℓ s t) (r : Reason) : LaneOp ℓ s (t.attend r) :=
  h.trans ⟨rfl, .refl t, .refl t, fun _ hq => clear_mem_addReasonTo _ hq, .refl _ t, rfl⟩

theorem setResult (h : LaneOp ℓ s t) (e : ResultEvent) (o : ResultOutcome) : LaneOp ℓ s (t.setResult ℓ e o) :=
  (h.modLane _).attend _

theorem setLog (h : LaneOp ℓ s t) {x : DeliveryLog} (hx : x.memory = t.log.memory) : LaneOp ℓ s (t.setLog x) :=
  h.trans ⟨rfl, .refl t, .refl t, fun _ => id, .refl _ t, hx⟩

theorem setLists (h : LaneOp ℓ s t) (x : Lists) : LaneOp ℓ s (t.setLists x) :=
  h.trans ⟨rfl, .refl t, .refl t, fun _ => id, .refl _ t, rfl⟩

theorem queueNotice (h : LaneOp ℓ s t) {n : Notice} (hn : lanePlace ℓ n.place) : LaneOp ℓ s (t.queueNotice n) :=
  h.trans ⟨by simp [State.lane], sameUnlessPouring_of_eq (by simp), lineKept_queueNotice n, fun _ => by simp,
    (noticesKept_queueNotice t n).mono fun p hp => .inl (hp ▸ hn), by simp⟩

theorem removeNotice (h : LaneOp ℓ s t) {p : Place} (hp : lanePlace ℓ p) : LaneOp ℓ s (t.removeNotice p) :=
  h.trans ⟨by simp [State.lane], sameUnlessPouring_of_eq (by simp), lineKept_removeNotice p, fun _ => by simp,
    (noticesKept_removeNotice p).mono fun q hq => .inl (hq ▸ hp), by simp⟩

theorem applyCauses (h : LaneOp ℓ s t) : LaneOp ℓ s t.applyCauses :=
  h.trans ⟨by simp [State.lane], fun _ hc => t.causesApplied.chan_eq hc, t.causesApplied.line, t.causesApplied.stays,
    t.causesApplied.kept.mono fun _ => .inr, by simp⟩

theorem joinFindings (h : LaneOp ℓ s t) (fs : List Finding) : LaneOp ℓ s (t.joinFindings ℓ fs) := h.modRecord _

theorem setHold (h : LaneOp ℓ s t) (m : HoldMember) (f : Finding) : LaneOp ℓ s (t.setHold ℓ m f) := by
  unfold State.setHold
  split
  · have h1 := ((h.modLane fun l => { l with holds := l.holds.put m true }).joinFindings [f]).attend (.holdSet ℓ)
    dsimp only
    split
    · exact h1.applyCauses
    · exact h1
  · exact h

theorem clearHold (h : LaneOp ℓ s t) (m : HoldMember) : LaneOp ℓ s (t.clearHold ℓ m) := h.modLane _

theorem stopTimer (h : LaneOp ℓ s t) : LaneOp ℓ s (t.stopTimer ℓ) := h.modLane _

theorem armTimer (h : LaneOp ℓ s t) (d : DutyResult) : LaneOp ℓ s (t.armTimer ℓ d) := by
  unfold State.armTimer
  dsimp only
  split
  · split
    · exact (((h.modLane _).attend _).setHold ..).modLane _
    · exact ((h.modLane _).setHold ..).modLane _
  · split
    · exact (h.modLane _).attend _
    · exact h.modLane _

theorem handStage (h : LaneOp ℓ s t) (st : Stage) : LaneOp ℓ s (t.handStage ℓ st) := by
  unfold State.handStage
  split
  · exact h
  · split
    · exact h.modLane _
    · exact h.setLog rfl

theorem dropReservation (h : LaneOp ℓ s t) (p : Nat) : LaneOp ℓ s (t.dropReservation p) := h.setLog rfl

theorem openSlot (h : LaneOp ℓ s t) (p : Nat) : LaneOp ℓ s (t.openSlot p) := h.setLog rfl

theorem withdrawOutcome (h : LaneOp ℓ s t) : LaneOp ℓ s (t.withdrawOutcome ℓ) := h.setLog rfl

theorem passBacklog (h : LaneOp ℓ s t) : LaneOp ℓ s (t.passBacklog ℓ) := by
  unfold State.passBacklog
  split
  · exact h
  · exact (h.modLane _).setLog rfl

theorem leaveSlot (h : LaneOp ℓ s t) (p n : Nat) : LaneOp ℓ s (t.leaveSlot p n) := by
  unfold State.leaveSlot
  split
  · split
    · exact h.setLog rfl
    · exact h.setLog rfl
  · exact h

theorem placeContest (h : LaneOp ℓ s t) (d : Nat) : LaneOp ℓ s (t.placeContest ℓ d) := h.queueNotice (.inr (.inr rfl))

theorem queueContest (h : LaneOp ℓ s t) (d : Nat) : LaneOp ℓ s (t.queueContest ℓ d) := by
  unfold State.queueContest
  split
  · exact h.placeContest d
  · split
    · exact h
    · exact h.modLane _

theorem queueOwedContest (h : LaneOp ℓ s t) : LaneOp ℓ s (t.queueOwedContest ℓ) := by
  unfold State.queueOwedContest
  split
  · exact h
  · split
    · exact h
    · dsimp only
      split
      · exact (h.modLane _).placeContest _
      · exact h.modLane _

theorem dropContest (h : LaneOp ℓ s t) (d : Nat) : LaneOp ℓ s (t.dropContest ℓ d) := by
  unfold State.dropContest
  split
  · exact h
  · dsimp only
    split
    · exact ((h.removeNotice (.inr (.inr rfl))).modLane _).queueOwedContest
    · exact (h.modLane _).queueOwedContest

theorem testClaim (h : LaneOp ℓ s t) : LaneOp ℓ s (t.testClaim ℓ) := by
  unfold State.testClaim
  split
  · exact h
  · split
    · exact (h.queueNotice (.inr (.inl rfl))).modLane _
    · exact h

theorem removeClaim (h : LaneOp ℓ s t) (c : Claim) (pure : Bool) : LaneOp ℓ s (t.removeClaim ℓ c pure) := by
  unfold State.removeClaim
  split
  · split
    · exact h
    · exact h.modLane _
  · exact h.removeNotice (.inr (.inl rfl))

theorem queueWithdrawn (h : LaneOp ℓ s t) (d : Nat) : LaneOp ℓ s (t.queueWithdrawn ℓ d) := by
  unfold State.queueWithdrawn
  split
  · exact h.modLane _
  · exact h.queueNotice (.inl rfl)

theorem withdrawClaim (h : LaneOp ℓ s t) (o : ResultOutcome) : LaneOp ℓ s (t.withdrawClaim ℓ o) := by
  unfold State.withdrawClaim
  split
  · exact h
  · dsimp only
    split
    · exact (((((h.removeClaim _ _).queueWithdrawn _).dropReservation _).modLane _).setResult _ _).dropContest _
    · exact ((((h.removeClaim _ _).dropReservation _).modLane _).setResult _ _).dropContest _

theorem endReclaim (h : LaneOp ℓ s t) : LaneOp ℓ s (t.endReclaim ℓ) := by
  unfold State.endReclaim
  split
  · exact h
  · dsimp only
    split
    · exact (((h.removeClaim _ _).queueWithdrawn _).modLane _).dropContest _
    · exact ((h.removeClaim _ _).modLane _).dropContest _

theorem failReclaim (h : LaneOp ℓ s t) : LaneOp ℓ s (t.failReclaim ℓ) := h.endReclaim.setResult _ _

theorem handVoided (h : LaneOp ℓ s t) : LaneOp ℓ s (t.handVoided ℓ) := by
  unfold State.handVoided
  split
  · split
    · exact (h.modLane _).handStage _
    · exact h
  · exact h

theorem leaveClosing (h : LaneOp ℓ s t) (c : Closing) (r : LoadRecord) : LaneOp ℓ s (t.leaveClosing ℓ c r) := by
  unfold State.leaveClosing
  dsimp only
  split
  · exact (((((h.modLane _).queueNotice (.inl rfl)).leaveSlot _ _).modLane _).setResult _ _).dropContest _
  · exact ((((h.queueNotice (.inl rfl)).leaveSlot _ _).modLane _).setResult _ _).dropContest _

theorem testClosing (h : LaneOp ℓ s t) : LaneOp ℓ s (t.testClosing ℓ) := by
  unfold State.testClosing
  dsimp only
  split
  · split
    · exact h.handVoided.leaveClosing _ _
    · exact h.handVoided
  · exact h.handVoided

theorem returnToLoading (h : LaneOp ℓ s t) : LaneOp ℓ s (t.returnToLoading ℓ) := by
  unfold State.returnToLoading
  dsimp only
  split
  · split
    · exact (h.modLane _).armTimer _
    · exact h.modLane _
  · exact h.modLane _

theorem orderReachesClosing (h : LaneOp ℓ s t) : LaneOp ℓ s (t.orderReachesClosing ℓ) := by
  unfold State.orderReachesClosing
  split
  · exact ((h.withdrawOutcome.returnToLoading).setHold _ _).setResult _ _
  · exact h

theorem matchLane (h : LaneOp ℓ s t) : LaneOp ℓ s (t.matchLane ℓ) := by
  unfold State.matchLane
  split
  · exact h
  · dsimp only
    split
    · exact h
    · split
      · split
        · exact h.orderReachesClosing
        · exact h
      · exact h
    · split
      · exact h.setHold _ _
      · exact h.clearHold _

theorem matchWatch (h : LaneOp ℓ s t) (d : Nat) (v : Option Nat) (x : Latch) : LaneOp ℓ s (t.matchWatch d v x) := by
  unfold State.matchWatch
  split
  · exact h
  · split
    · exact (h.setLists _).attend _
    · exact h

theorem matchOwn (h : LaneOp ℓ s t) (d v : Nat) (e : WatchEvent) : LaneOp ℓ s (t.matchOwn ℓ d v e) := by
  unfold State.matchOwn
  dsimp only
  split
  · exact h.matchWatch ..
  · split
    · exact (h.matchWatch ..).setHold _ _
    · exact h.matchWatch ..

theorem recompute (h : LaneOp ℓ s t) : LaneOp ℓ s (t.recompute ℓ) := by
  unfold State.recompute
  split
  · split
    · exact (h.modRecord _).armTimer _
    · unfold State.failDuty
      dsimp only
      split
      · exact ((h.modRecord _).stopTimer).setHold _ _
      · exact (h.modRecord _).stopTimer
    · exact h
  · exact h

theorem changeDriver (h : LaneOp ℓ s t) (r : LoadRecord) (rc : Reclaim) : LaneOp ℓ s (t.changeDriver ℓ r rc) := by
  unfold State.changeDriver
  dsimp only
  have h4 := (((((h.queueNotice (n := .release ℓ .handover r.current.driver (t.onward ℓ noPlan)) (.inl rfl)).modRecord
    fun r => { r with second := some ⟨rc.claim.driver, rc.figures, rc.source⟩ }).handStage
    ⟨.driver, driverContent ⟨rc.claim.driver, rc.figures, rc.source⟩ t.minute (t.onward ℓ noPlan)⟩).clearHold
    .duty).clearHold .duplicate)
  split
  · exact (((h4.recompute.matchLane).modLane _).setResult _ _).dropContest _
  · exact ((h4.matchLane.modLane _).setResult _ _).dropContest _

end State.LaneOp

end LaneOps

end Sys2Proof.Machine

namespace Sys2Proof.Machine

/-! ## The lanes' shared operations: what an operation makes of its lane -/

section LaneEffects

variable {s t u : State} {ℓ : LaneId}

/-! ### The lane through operations that write no lane -/

@[simp] theorem State.lane_queueNotice (n : Notice) (m : LaneId) : (s.queueNotice n).lane m = s.lane m := by
  simp [State.lane]

@[simp] theorem State.lane_removeNotice (p : Place) (m : LaneId) : (s.removeNotice p).lane m = s.lane m := by
  simp [State.lane]

@[simp] theorem State.lane_applyCauses (m : LaneId) : s.applyCauses.lane m = s.lane m := by simp [State.lane]

@[simp] theorem State.lane_dropReservation (p : Nat) (m : LaneId) : (s.dropReservation p).lane m = s.lane m := rfl

@[simp] theorem State.lane_openSlot (p : Nat) (m : LaneId) : (s.openSlot p).lane m = s.lane m := rfl

@[simp] theorem State.lane_withdrawOutcome (m k : LaneId) : (s.withdrawOutcome m).lane k = s.lane k := rfl

@[simp] theorem State.lane_leaveSlot (p n : Nat) (m : LaneId) : (s.leaveSlot p n).lane m = s.lane m := by
  simp [State.lane]

@[simp] theorem State.lane_matchWatch (d : Nat) (v : Option Nat) (x : Latch) (m : LaneId) :
    (s.matchWatch d v x).lane m = s.lane m := by simp [State.lane]

@[simp] theorem State.lane_modLane_other (f : Lane → Lane) :
    (s.modLane ℓ f).lane (otherLane ℓ) = s.lane (otherLane ℓ) := State.lane_modLane_ne _ _ (otherLane_ne ℓ)

@[simp] theorem State.lane_setLane_other (x : Lane) : (s.setLane ℓ x).lane (otherLane ℓ) = s.lane (otherLane ℓ) :=
  State.lane_setLane_ne _ _ (otherLane_ne ℓ)

/-! ### Results, findings and hold members -/

@[simp] theorem State.lane_setResult (e : ResultEvent) (o : ResultOutcome) :
    (s.setResult ℓ e o).lane ℓ = { s.lane ℓ with result := some (e, o) } := by simp [State.setResult]

theorem State.setResult_attention (e : ResultEvent) (o : ResultOutcome) :
    (s.setResult ℓ e o).attention = addReasonTo (.laneDone ℓ) s.attention := by simp [State.setResult]

theorem State.laneDone_mem_setResult (e : ResultEvent) (o : ResultOutcome) :
    (Reason.laneDone ℓ, false) ∈ (s.setResult ℓ e o).attention := by
  rw [State.setResult_attention]
  exact mem_addReasonTo_self ..

@[simp] theorem State.lane_clearHold (m : HoldMember) :
    (s.clearHold ℓ m).lane ℓ = { s.lane ℓ with holds := (s.lane ℓ).holds.put m false } := by simp [State.clearHold]

/-- The lane with a member set and its finding joined (R15). -/
def Lane.held (l : Lane) (m : HoldMember) (f : Finding) : Lane :=
  { l with
    holds := l.holds.put m true
    record := l.record.map (fun r => { r with findings := joinFinding r.findings f }) }

/-- The lane takes a member that it does not hold yet, where its state admits it (R15). -/
def Lane.takesMember (l : Lane) (m : HoldMember) : Bool := l.state.admitsMember m && !l.holds.has m

/-- The state with a member set, before its causes reach the channels. -/
def State.withHold (s : State) (ℓ : LaneId) (m : HoldMember) (f : Finding) : State :=
  ((s.modLane ℓ (fun l => { l with holds := l.holds.put m true })).joinFindings ℓ [f]).attend (.holdSet ℓ)

theorem State.setHold_eq (m : HoldMember) (f : Finding) : s.setHold ℓ m f =
    if (s.lane ℓ).takesMember m then
      if m = .order ∨ m = .watch then (s.withHold ℓ m f).applyCauses else s.withHold ℓ m f
    else s := by
  unfold State.setHold State.withHold Lane.takesMember
  simp only [Bool.and_eq_true, Bool.not_eq_true', Bool.not_eq_true]

@[simp] theorem State.lane_withHold (m : HoldMember) (f : Finding) :
    (s.withHold ℓ m f).lane ℓ = (s.lane ℓ).held m f := by
  simp [State.withHold, State.joinFindings, State.modRecord, Lane.held]

theorem State.lane_setHold (m : HoldMember) (f : Finding) :
    (s.setHold ℓ m f).lane ℓ = if (s.lane ℓ).takesMember m then (s.lane ℓ).held m f else s.lane ℓ := by
  rw [State.setHold_eq]
  split
  · split <;> simp
  · rfl

/-- HOLD_SET joins the attention set with a member (R15). -/
theorem State.holdSet_mem_setHold {m : HoldMember} (f : Finding) (h : (s.lane ℓ).takesMember m = true) :
    (Reason.holdSet ℓ, false) ∈ (s.setHold ℓ m f).attention := by
  have hself : (Reason.holdSet ℓ, false) ∈ (s.withHold ℓ m f).attention := mem_addReasonTo_self ..
  rw [State.setHold_eq, if_pos h]
  split
  · exact (State.causesApplied _).stays _ hself
  · exact hself

theorem noticesKept_setHold (m : HoldMember) (f : Finding) : noticesKept isDrawPlace s (s.setHold ℓ m f) := by
  rw [State.setHold_eq]
  split
  · split
    · exact (noticesKept_of_line rfl).trans (State.causesApplied (s.withHold ℓ m f)).kept
    · exact noticesKept_of_line rfl
  · exact .refl _ s

theorem HoldSet.put_of_has {h : HoldSet} {m : HoldMember} {v : Bool} (hv : h.has m = v) : h.put m v = h := by
  subst hv
  cases m <;> rfl

/-- After the member is asked for in a state that admits it, the lane holds it, and the other members are as before (R15). -/
theorem State.setHold_holds {m : HoldMember} (f : Finding) (h : (s.lane ℓ).state.admitsMember m = true) :
    ((s.setHold ℓ m f).lane ℓ).holds = (s.lane ℓ).holds.put m true := by
  rw [State.lane_setHold]
  split
  · rfl
  · rename_i hn
    simp only [Lane.takesMember, h, Bool.true_and, Bool.not_eq_true', Bool.not_eq_false] at hn
    exact (HoldSet.put_of_has hn).symm

/-- A member joins the hold set and a finding the record; the rest of the lane is as before (R15). -/
theorem State.setHold_lane (m : HoldMember) (f : Finding) {r : LoadRecord} (hrecord : (s.lane ℓ).record = some r) :
    ∃ fs, (s.setHold ℓ m f).lane ℓ = { s.lane ℓ with
      holds := ((s.setHold ℓ m f).lane ℓ).holds
      record := some { r with findings := fs } } := by
  rw [State.lane_setHold]
  split
  · exact ⟨joinFinding r.findings f, by simp [Lane.held, hrecord]⟩
  · refine ⟨r.findings, ?_⟩
    rw [show some { r with findings := r.findings } = (s.lane ℓ).record from hrecord.symm]

/-! ### Contests -/

theorem State.queueOwedContest_lane (s : State) (ℓ : LaneId) :
    ∃ x, (s.queueOwedContest ℓ).lane ℓ = { s.lane ℓ with owedContest := x } := by
  unfold State.queueOwedContest
  split
  · exact ⟨(s.lane ℓ).owedContest, rfl⟩
  · split
    · exact ⟨(s.lane ℓ).owedContest, rfl⟩
    · dsimp only
      split
      · exact ⟨none, by simp [State.placeContest]⟩
      · exact ⟨none, by simp⟩

/-- Of its lane, giving up a contest changes what is owed alone (R155). -/
theorem State.dropContest_lane (s : State) (ℓ : LaneId) (d : Nat) :
    ∃ x, (s.dropContest ℓ d).lane ℓ = { s.lane ℓ with owedContest := x } := by
  unfold State.dropContest
  split
  · exact ⟨(s.lane ℓ).owedContest, rfl⟩
  · dsimp only
    split
    · obtain ⟨x, hx⟩ := State.queueOwedContest_lane ((s.removeNotice (.contest ℓ)).modLane ℓ fun l =>
        { l with owedContest := if l.owedContest = some d then none else l.owedContest }) ℓ
      exact ⟨x, by rw [hx]; simp⟩
    · obtain ⟨x, hx⟩ := State.queueOwedContest_lane (s.modLane ℓ fun l =>
        { l with owedContest := if l.owedContest = some d then none else l.owedContest }) ℓ
      exact ⟨x, by rw [hx]; simp⟩

theorem noticesKept_placeContest (s : State) (d : Nat) : noticesKept (· = .contest ℓ) s (s.placeContest ℓ d) :=
  noticesKept_queueNotice s (.contest ℓ d ((s.lane ℓ).holdingForm d))

theorem noticesKept_queueOwedContest (s : State) (ℓ : LaneId) : noticesKept (· = .contest ℓ) s (s.queueOwedContest ℓ) := by
  unfold State.queueOwedContest
  split
  · exact .refl _ s
  · split
    · exact .refl _ s
    · dsimp only
      split
      · exact noticesKept.trans (noticesKept_of_line rfl) (noticesKept_placeContest _ _)
      · exact noticesKept_of_line rfl

theorem noticesKept_dropContest (s : State) (ℓ : LaneId) (d : Nat) : noticesKept (· = .contest ℓ) s (s.dropContest ℓ d) := by
  unfold State.dropContest
  split
  · exact .refl _ s
  · dsimp only
    split
    · exact (noticesKept_removeNotice _).trans (.trans (noticesKept_of_line rfl) (noticesKept_queueOwedContest _ ℓ))
    · exact noticesKept.trans (noticesKept_of_line rfl) (noticesKept_queueOwedContest _ ℓ)

/-! ### Claims and reclaims that end -/

theorem State.removeClaim_lane (s : State) (ℓ : LaneId) (c : Claim) (pure : Bool) :
    ∃ x, (s.removeClaim ℓ c pure).lane ℓ = { s.lane ℓ with lostClaim := x } := by
  unfold State.removeClaim
  split
  · split
    · exact ⟨(s.lane ℓ).lostClaim, rfl⟩
    · exact ⟨some ⟨c.driver, pure⟩, by simp⟩
  · exact ⟨(s.lane ℓ).lostClaim, by simp⟩

theorem noticesKept_removeClaim (s : State) (ℓ : LaneId) (c : Claim) (pure : Bool) :
    noticesKept (· = .claim ℓ) s (s.removeClaim ℓ c pure) := by
  unfold State.removeClaim
  split
  · split
    · exact .refl _ s
    · exact noticesKept_of_line rfl
  · exact noticesKept_removeNotice _

theorem State.queueWithdrawn_lane (s : State) (ℓ : LaneId) (d : Nat) :
    ∃ x, (s.queueWithdrawn ℓ d).lane ℓ = { s.lane ℓ with owedRelease := x } := by
  unfold State.queueWithdrawn
  split
  · exact ⟨some d, by simp⟩
  · exact ⟨(s.lane ℓ).owedRelease, by simp⟩

theorem noticesKept_queueWithdrawn (s : State) (ℓ : LaneId) (d : Nat) :
    noticesKept (· = .release ℓ) s (s.queueWithdrawn ℓ d) := by
  unfold State.queueWithdrawn
  split
  · exact noticesKept_of_line rfl
  · exact noticesKept_queueNotice s (.release ℓ .withdrawn d none)

theorem State.noticeAt_queueWithdrawn {d : Nat} (h : s.noticeAt (.release ℓ) = none) :
    (s.queueWithdrawn ℓ d).noticeAt (.release ℓ) = some ⟨.release ℓ .withdrawn d none, false⟩ := by
  unfold State.queueWithdrawn
  rw [if_neg (by simp [h]), State.noticeAt_queueNotice, if_pos ⟨rfl, h⟩]

theorem State.endReclaim_of_none (h : (s.lane ℓ).reclaim = none) : s.endReclaim ℓ = s := by
  simp [State.endReclaim, h]

/-- Of its lane, the end of a reclaim changes the reclaim and what is owed for it (R21). -/
theorem State.endReclaim_lane (s : State) (ℓ : LaneId) : ∃ x y z, (s.endReclaim ℓ).lane ℓ =
    { s.lane ℓ with reclaim := none, lostClaim := x, owedRelease := y, owedContest := z } := by
  unfold State.endReclaim
  split
  · rename_i h
    exact ⟨(s.lane ℓ).lostClaim, (s.lane ℓ).owedRelease, (s.lane ℓ).owedContest, by rw [← h]⟩
  · rename_i rc h
    dsimp only
    obtain ⟨x, hx⟩ := s.removeClaim_lane ℓ rc.claim ((s.lane ℓ).driver? == some rc.claim.driver)
    split
    · obtain ⟨y, hy⟩ := (s.removeClaim ℓ rc.claim ((s.lane ℓ).driver? == some rc.claim.driver)).queueWithdrawn_lane ℓ
        rc.claim.driver
      obtain ⟨z, hz⟩ := State.dropContest_lane (((s.removeClaim ℓ rc.claim ((s.lane ℓ).driver? == some
        rc.claim.driver)).queueWithdrawn ℓ rc.claim.driver).modLane ℓ fun l => { l with reclaim := none }) ℓ rc.claim.driver
      exact ⟨x, y, z, by rw [hz, State.lane_modLane_same, hy, hx]⟩
    · obtain ⟨z, hz⟩ := State.dropContest_lane ((s.removeClaim ℓ rc.claim ((s.lane ℓ).driver? == some
        rc.claim.driver)).modLane ℓ fun l => { l with reclaim := none }) ℓ rc.claim.driver
      exact ⟨x, (s.lane ℓ).owedRelease, z, by rw [hz, State.lane_modLane_same, hx]⟩

end LaneEffects

end Sys2Proof.Machine

namespace Sys2Proof.Machine

/-! ## The way out of CLOSING (chapter 1), and the settle time, the void and the claim window -/

section Closing

variable {s t u : State} {ℓ : LaneId} {c : Closing} {r : LoadRecord}

/-! ### The slot of a load that ends under LOG_FAULT -/

theorem State.leaveSlot_log_eq (s : State) (p n : Nat) : (s.leaveSlot p n).log =
    { s.log with table := (s.leaveSlot p n).log.table } := by
  unfold State.leaveSlot
  split
  · split <;> rfl
  · rfl

theorem State.leaveSlot_log_congr (h : t.log = s.log) (p n : Nat) : (t.leaveSlot p n).log = (s.leaveSlot p n).log := by
  unfold State.leaveSlot
  rw [h]
  split
  · split <;> rfl
  · exact h

theorem State.leaveSlot_of_not_fault (h : s.log.state ≠ .logFault) (p n : Nat) : s.leaveSlot p n = s :=
  if_neg fun h' => h h'.1

/-- Under LOG_FAULT the slot leaves OPEN where it is the load's own (R173). -/
theorem State.leaveSlot_slot (h : Assoc.wf SlotEntry.free s.log.table = true) (hfault : s.log.state = .logFault)
    (p n q : Nat) : (s.leaveSlot p n).log.slot q = if q = p then slotAfterFault (s.log.slot q) n else s.log.slot q := by
  unfold State.leaveSlot slotAfterFault
  simp only [hfault, true_and]
  by_cases hown : (s.log.slot p).seq = some n ∧ (s.log.slot p).state = .opened
  · rw [if_pos hown]
    by_cases hnext : 1 < (s.log.slot p).next
    · rw [if_pos hnext]
      simp only [State.setLog_log]
      rw [DeliveryLog.slot_setSlot _ h]
      by_cases hq : q = p
      · subst hq
        rw [if_pos rfl, if_pos rfl, if_pos hown, if_pos hnext]
      · rw [if_neg hq, if_neg hq]
    · rw [if_neg hnext]
      simp only [State.setLog_log]
      rw [DeliveryLog.slot_setSlot _ h]
      by_cases hq : q = p
      · subst hq
        rw [if_pos rfl, if_pos rfl, if_pos hown, if_neg hnext]
      · rw [if_neg hq, if_neg hq]
  · rw [if_neg hown]
    by_cases hq : q = p
    · subst hq
      rw [if_pos rfl, if_neg hown]
    · rw [if_neg hq]

/-! ### Leaving CLOSING -/

/-- The state in which a lane that leaves CLOSING has its RELEASE queued and its slot left (R27). -/
theorem State.leaveClosing_log (s : State) (ℓ : LaneId) (c : Closing) (r : LoadRecord) :
    (s.leaveClosing ℓ c r).log = (s.leaveSlot r.slot r.seq).log := by
  unfold State.leaveClosing
  dsimp only
  simp only [State.dropContest_frame, State.setResult_frame, State.modLane_log]
  refine State.leaveSlot_log_congr ?_ _ _
  split <;> simp

theorem leftClosing_leaveClosing (hfree : s.noticeAt (.release ℓ) = none) (c : Closing) (r : LoadRecord) :
    leftClosing s (s.leaveClosing ℓ c r) ℓ r c := by
  obtain ⟨s1, hs1⟩ : ∃ s1, s1 = (if c.outcome = .released then
      s.modLane ℓ (fun l => { l with dispatch := true, pulse := some Config.pulseMs }) else s) := ⟨_, rfl⟩
  obtain ⟨s4, hs4⟩ : ∃ s4, s4 = ((s1.queueNotice (.release ℓ .endOfLoad r.current.driver c.figures)).leaveSlot r.slot
      r.seq).modLane ℓ (fun l =>
        { l with
          record := none
          holds := .empty
          state := .vacant
          closing := none
          reclaim := none
          dutyTimer := none
          backlog := [] }) := ⟨_, rfl⟩
  obtain ⟨s5, hs5⟩ : ∃ s5, s5 = s4.setResult ℓ .close (match c.outcome with | .released => .released | .voided => .voided) :=
    ⟨_, rfl⟩
  have heq : s.leaveClosing ℓ c r = s5.dropContest ℓ r.current.driver := by
    subst hs1 hs4 hs5
    rfl
  obtain ⟨x, hx⟩ := s5.dropContest_lane ℓ r.current.driver
  have hlane : (s.leaveClosing ℓ c r).lane ℓ = { s1.lane ℓ with
      record := none
      holds := .empty
      state := .vacant
      closing := none
      reclaim := none
      dutyTimer := none
      backlog := []
      result := some (.close, match c.outcome with | .released => .released | .voided => .voided)
      owedContest := x } := by
    rw [heq, hx, hs5, State.lane_setResult, hs4, State.lane_modLane_same, State.lane_leaveSlot, State.lane_queueNotice]
  have hfree1 : s1.noticeAt (.release ℓ) = none := by
    rw [hs1]
    split
    · exact hfree
    · exact hfree
  have hnotice : (s.leaveClosing ℓ c r).noticeAt (.release ℓ) =
      some ⟨.release ℓ .endOfLoad r.current.driver c.figures, false⟩ := by
    rw [heq, noticesKept_dropContest s5 ℓ _ _ (by simp), show s5.noticeAt (.release ℓ) = s4.noticeAt (.release ℓ) by
      rw [hs5]; exact noticesKept_of_line (touched := fun _ => False) (by simp) _ id,
      show s4.noticeAt (.release ℓ) = (s1.queueNotice (.release ℓ .endOfLoad r.current.driver c.figures)).noticeAt
        (.release ℓ) by rw [hs4]; exact noticesKept_of_line (touched := fun _ => False) (by simp) _ id,
      State.noticeAt_queueNotice, if_pos ⟨rfl, hfree1⟩]
  have hattention : (Reason.laneDone ℓ, false) ∈ (s.leaveClosing ℓ c r).attention := by
    simp only [heq, State.dropContest_frame, hs5]
    exact State.laneDone_mem_setResult ..
  refine ⟨by rw [hlane], by rw [hlane], by rw [hlane], by rw [hlane], by rw [hlane], by rw [hlane], by rw [hlane], ?_,
    hattention, fun hreleased => ?_, fun hnot => ?_, hnotice⟩
  · rw [hlane]
    cases c.outcome <;> rfl
  · rw [hlane, hs1, if_pos hreleased, State.lane_modLane_same]
    exact ⟨rfl, rfl⟩
  · rw [hlane, hs1, if_neg hnot]
    exact ⟨rfl, rfl⟩

/-! ### Handing over and leaving -/

theorem State.handVoided_eq (hclosing : (s.lane ℓ).closing = some c) (hrecord : (s.lane ℓ).record = some r) :
    s.handVoided ℓ = if c.outcome = .voided ∧ c.handed = false ∧ ¬ s.laneBusy ℓ ∧ s.log.state ≠ .logFault then
      (s.modLane ℓ (fun l => { l with closing := some { c with handed := true } })).handStage ℓ (outcomeStage r c) else s := by
  unfold State.handVoided
  rw [hclosing, hrecord]

theorem State.handVoided_of_fault (h : s.log.state = .logFault) : s.handVoided ℓ = s := by
  unfold State.handVoided
  split
  · rw [if_neg fun h' => h'.2.2.2 h]
  · rfl

/-- A lane that has nothing to hand over leaves CLOSING, or stays as it is (R27). -/
theorem State.testClosing_eq (hclosing : (s.lane ℓ).closing = some c) (hrecord : (s.lane ℓ).record = some r)
    (hhand : s.handVoided ℓ = s) : s.testClosing ℓ =
      if ¬ s.laneBusy ℓ ∧ s.outcomeDone c ∧ ¬ s.releaseWaiting ℓ then s.leaveClosing ℓ c r else s := by
  unfold State.testClosing
  dsimp only
  rw [hhand, hclosing, hrecord]

theorem State.testClosing_of_no_closing (h : (s.lane ℓ).closing = none) : s.testClosing ℓ = s := by
  have hhand : s.handVoided ℓ = s := by
    unfold State.handVoided
    rw [h]
  unfold State.testClosing
  dsimp only
  rw [hhand, h]

theorem State.testClosing_of_no_record (h : (s.lane ℓ).record = none) : s.testClosing ℓ = s := by
  have hhand : s.handVoided ℓ = s := by
    unfold State.handVoided
    rw [h]
    split
    · contradiction
    · rfl
  unfold State.testClosing
  dsimp only
  rw [hhand, h]
  split
  · contradiction
  · rfl

/-- Under LOG_FAULT the log keeps all but its table through a CLOSING lane's test (R173). -/
theorem State.testClosing_log_of_fault (h : s.log.state = .logFault) :
    (s.testClosing ℓ).log = { s.log with table := (s.testClosing ℓ).log.table } := by
  unfold State.testClosing
  rw [State.handVoided_of_fault h]
  dsimp only
  split
  · split
    · rw [State.leaveClosing_log]
      exact State.leaveSlot_log_eq ..
    · rfl
  · rfl

theorem State.handStage_lane (s : State) (ℓ : LaneId) (st : Stage) :
    ∃ x, (s.handStage ℓ st).lane ℓ = { s.lane ℓ with backlog := x } := by
  unfold State.handStage
  split
  · exact ⟨(s.lane ℓ).backlog, rfl⟩
  · split
    · exact ⟨(s.lane ℓ).backlog ++ [st], by simp⟩
    · exact ⟨(s.lane ℓ).backlog, rfl⟩

/-- A lane whose outcome is not on record stays once it has handed it over (R26, R27). -/
theorem State.testClosing_of_not_done {s1 : State} (hs1 : s1 = s.handVoided ℓ) (hclosing : (s1.lane ℓ).closing = some c)
    (hdone : s1.outcomeDone c = false) : s.testClosing ℓ = s1 := by
  unfold State.testClosing
  dsimp only
  rw [← hs1, hclosing]
  split
  · rename_i heq _
    cases heq
    rw [if_neg (by simp [hdone])]
  · rfl

/-! ### A claim withdrawn -/

/-- What a withdrawn claim leaves of its lane, of its slot and of its places (R14). -/
structure State.ClaimWithdrawn (ℓ : LaneId) (cl : Claim) (o : ResultOutcome) (s t : State) : Prop where
  lane : ∃ x y z, t.lane ℓ = { s.lane ℓ with
    record := none
    claim := none
    holds := .empty
    state := .vacant
    result := some (.claim, o)
    lostClaim := x
    owedRelease := y
    owedContest := z }
  log : t.log = s.log.setSlot (s.lane ℓ).slotOf.1 .free
  done : (Reason.laneDone ℓ, false) ∈ t.attention
  release : cl.announced = true → s.noticeAt (.release ℓ) = none →
    t.noticeAt (.release ℓ) = some ⟨.release ℓ .withdrawn cl.driver none, false⟩

theorem State.claimWithdrawn {cl : Claim} (hclaim : (s.lane ℓ).claim = some cl) (o : ResultOutcome) :
    State.ClaimWithdrawn ℓ cl o s (s.withdrawClaim ℓ o) := by
  obtain ⟨s1, hs1⟩ : ∃ s1, s1 = s.removeClaim ℓ cl false := ⟨_, rfl⟩
  obtain ⟨s2, hs2⟩ : ∃ s2, s2 = if cl.announced then s1.queueWithdrawn ℓ cl.driver else s1 := ⟨_, rfl⟩
  obtain ⟨s4, hs4⟩ : ∃ s4, s4 = (s2.dropReservation (s.lane ℓ).slotOf.1).modLane ℓ (fun l =>
      { l with record := none, claim := none, holds := .empty, state := .vacant }) := ⟨_, rfl⟩
  have heq : s.withdrawClaim ℓ o = (s4.setResult ℓ .claim o).dropContest ℓ cl.driver := by
    subst hs4 hs2 hs1
    unfold State.withdrawClaim
    rw [hclaim]
  obtain ⟨x, hx⟩ := s.removeClaim_lane ℓ cl false
  obtain ⟨y, hy⟩ : ∃ y, s2.lane ℓ = { s1.lane ℓ with owedRelease := y } := by
    rw [hs2]
    split
    · exact s1.queueWithdrawn_lane ℓ cl.driver
    · exact ⟨(s1.lane ℓ).owedRelease, rfl⟩
  obtain ⟨z, hz⟩ := (s4.setResult ℓ .claim o).dropContest_lane ℓ cl.driver
  rw [← hs1] at hx
  rw [heq]
  refine ⟨⟨x, y, z, ?_⟩, ?_, ?_, fun hannounced hfree => ?_⟩
  · rw [hz, State.lane_setResult, hs4, State.lane_modLane_same, State.lane_dropReservation, hy, hx]
  · have hlog2 : s2.log = s.log := by
      rw [hs2, hs1]
      split <;> simp
    simp only [State.dropContest_frame, State.setResult_frame, hs4, State.modLane_log]
    show s2.log.setSlot _ _ = _
    rw [hlog2]
  · simp only [State.dropContest_frame]
    exact State.laneDone_mem_setResult ..
  · have hfree1 : s1.noticeAt (.release ℓ) = none := by
      rw [hs1, noticesKept_removeClaim s ℓ cl false _ (by simp), hfree]
    rw [noticesKept_dropContest _ ℓ _ _ (by simp)]
    have hsame : (s4.setResult ℓ .claim o).noticeAt (.release ℓ) = s2.noticeAt (.release ℓ) := by
      rw [hs4]
      rfl
    rw [hsame, hs2, if_pos hannounced, State.noticeAt_queueWithdrawn hfree1]

/-! ### The channels of a voided lane -/

theorem State.voidChannel_of_armed {ch : ChanId} (hlane : (s.chan ch).atLane ℓ = true) (harmed : (s.chan ch).state = .armed) :
    State.voidChannel ℓ s ch = s.idleChannel ch := by
  rw [State.voidChannel, if_pos hlane, if_pos harmed]

theorem State.voidChannel_of_runsPour {ch : ChanId} (hlane : (s.chan ch).atLane ℓ = true) (hruns : runsPour s ch) :
    State.voidChannel ℓ s ch = State.settlePour .voided s ch := by
  rw [State.voidChannel, if_pos hlane, if_neg]
  rcases hruns with h | h <;> rw [h] <;> decide

theorem State.voidChannel_of_not {ch : ChanId}
    (h : ¬ ((s.chan ch).atLane ℓ = true ∧ ((s.chan ch).state = .armed ∨ runsPour s ch))) : State.voidChannel ℓ s ch = s := by
  unfold State.voidChannel
  split
  · rename_i hlane
    rw [if_neg fun harmed => h ⟨hlane, .inl harmed⟩]
    exact State.settlePour_of_not_runsPour (fun hruns => h ⟨hlane, .inr hruns⟩) _
  · rfl

/-- A channel of the lane after its void (R25, R79). -/
structure State.ChannelsVoided (ℓ : LaneId) (s t : State) : Prop where
  armed : ∀ c, (s.chan c).atLane ℓ = true → (s.chan c).state = .armed →
    (t.chan c).state = .idle ∧ (t.chan c).assigned = none
  runs : ∀ c, (s.chan c).atLane ℓ = true → runsPour s c →
    (t.chan c).state = .settling ∧ (t.chan c).pourEnd = some .voided ∧ (t.chan c).permit = .off ∧
      (t.chan c).assigned = (s.chan c).assigned
  others : ∀ c, ¬ ((s.chan c).atLane ℓ = true ∧ ((s.chan c).state = .armed ∨ runsPour s c)) →
    t.chan c = s.chan c ∨ ((s.chan c).wantsDraw = true ∧ t.chan c = { s.chan c with draw := .asked })

theorem State.channelsVoided (ℓ : LaneId) (s : State) :
    State.ChannelsVoided ℓ s (State.reportFalls s (ChanId.all.foldl (State.voidChannel ℓ) s)) := by
  have hop (t : State) (c : ChanId) : State.OnlyDraw c t (State.voidChannel ℓ t c) :=
    (State.OnlyDraw.refl c t).voidChannel ℓ
  obtain ⟨t, ht⟩ : ∃ t, t = ChanId.all.foldl (State.voidChannel ℓ) s := ⟨_, rfl⟩
  have ho : t.Offers (State.reportFalls s t) := .reportFalls s t
  rw [← ht]
  refine ⟨fun c hlane harmed => ?_, fun c hlane hruns => ?_, fun c hc => ?_⟩
  · obtain ⟨before, hchan, -, hchan', -⟩ := foldl_at hop c s
    rw [← ht, State.voidChannel_of_armed (by rw [hchan]; exact hlane) (by rw [hchan]; exact harmed)] at hchan'
    have heq : t.chan c = { s.chan c with state := .idle, assigned := none, preset := none, slow := none, close := none } := by
      rw [hchan', State.idleChannel, State.chan_modChan_same, hchan]
    rw [ho.chan_eq (by rw [heq]; rfl), heq]
    exact ⟨rfl, rfl⟩
  · obtain ⟨before, hchan, -, hchan', -⟩ := foldl_at hop c s
    have hruns' : runsPour (before.foldl (State.voidChannel ℓ) s) c := by rw [runsPour, hchan]; exact hruns
    rw [← ht, State.voidChannel_of_runsPour (by rw [hchan]; exact hlane) hruns', State.chan_settlePour hruns', hchan] at hchan'
    rw [ho.chan_eq (by rw [hchan']; rfl), hchan']
    exact ⟨rfl, rfl, rfl, rfl⟩
  · obtain ⟨before, hchan, -, hchan', -⟩ := foldl_at hop c s
    rw [← ht, State.voidChannel_of_not (by rw [runsPour, hchan]; exact hc), hchan] at hchan'
    exact hchan' ▸ ho.chan c

end Closing

end Sys2Proof.Machine

namespace Sys2Proof.Machine

/-! ## Proofs: the claim window, the settle time and the void (chapters 1 and 4) -/

section LaneEnds

variable {s t u : State} {ℓ : LaneId}

theorem State.stagesFull_congr (hbacklog : (t.lane ℓ).backlog = (s.lane ℓ).backlog) (hqueue : t.log.queue = s.log.queue) :
    t.stagesFull ℓ = s.stagesFull ℓ := by
  unfold State.stagesFull State.pendingStages
  rw [hbacklog, hqueue]

/-- An entry that is not FREE is listed in any table (R168). -/
theorem DeliveryLog.slot_setSlot_of_ne_free (l : DeliveryLog) (q p : Nat) {e : SlotEntry} (he : e ≠ SlotEntry.free) :
    (l.setSlot q e).slot p = if p = q then e else l.slot p := by
  unfold DeliveryLog.slot DeliveryLog.setSlot Assoc.put
  rw [if_neg he]
  exact Assoc.get_insert ..

/-- Settles O44. -/
theorem claimWindowOpensTheLoad : Obligations.ClaimWindowOpensTheLoad := by
  intro ℓ s r c hreset hrecord hclaim htimer hroom
  obtain ⟨s2, hs2⟩ : ∃ s2, s2 = (s.modLane ℓ (fun l => { l with state := .opened, claim := none })).openSlot r.slot := ⟨_, rfl⟩
  have hexec : exec (.claimTimerExpiry ℓ) s = .next ((s2.handStage ℓ ⟨.header, headerContent ℓ r⟩).setResult ℓ .claim .ok) := by
    show execClaimTimerExpiry ℓ s = _
    simp [execClaimTimerExpiry, hrecord, hreset, Lane.claimRuns, hclaim, Option.isSome_iff_ne_none.2 htimer,
      State.claimSucceeds, hs2]
  have hlane : s2.lane ℓ = { s.lane ℓ with state := .opened, claim := none } := by rw [hs2]; simp
  have hlog : s2.log = s.log.setSlot r.slot { s.log.slot r.slot with state := .opened } := by rw [hs2]; rfl
  have hroom2 : s2.stagesFull ℓ = false := by
    rw [State.stagesFull_congr (s := s) (by rw [hlane]) (by rw [hlog]; rfl), hroom]
  rw [State.handStage_of_room (x := r) (by rw [hlane]; exact hrecord) hroom2] at hexec
  refine ⟨_, hexec, ?_, ?_, fun p => ?_, ?_, ?_⟩
  · simp [hlane]
  · simp [State.setResult_attention, hs2, State.openSlot]
  · simp only [State.setResult_frame, State.setLog_log]
    show s2.log.slot p = _
    have hne : ({ s.log.slot r.slot with state := .opened } : SlotEntry) ≠ SlotEntry.free := by
      intro h
      cases congrArg SlotEntry.state h
    rw [hlog, DeliveryLog.slot_setSlot_of_ne_free _ _ _ hne]
    by_cases hp : p = r.slot <;> simp [hp]
  · simp only [State.setResult_frame, State.setLog_log, hlog]
    rfl
  · have hother := ((((State.LaneOp.refl ℓ s).modLane (fun l => { l with state := .opened, claim := none })).openSlot
      r.slot).setLog (x := { s2.log with queue := if s2.log.state = .logFault then s2.log.queue
        else s2.log.queue ++ [⟨r.slot, r.seq, ⟨.header, headerContent ℓ r⟩, .lane ℓ⟩] }) (by rw [hs2])).setResult .claim .ok
    rw [← hs2] at hother
    refine ⟨hother.other, ?_⟩
    simp [hs2, sameStation]

/-! ### The settle time -/

theorem State.assignedComp_of {c : ChanId} {n : Nat} {r : LoadRecord} {comp : Comp}
    (hassigned : (s.chan c).assigned = some (ℓ, n)) (hrecord : (s.lane ℓ).record = some r) (hcomp : r.comp? n = some comp) :
    ∃ mark, s.assignedComp c = some (comp, mark) := by
  simp [State.assignedComp, hassigned, hrecord, hcomp]

theorem State.chan_testClosing (c : ChanId) : (s.testClosing ℓ).chan c = s.chan c := by simp [State.chan]

theorem State.handPour_eq {c : ChanId} {n : Nat} {x : LoadRecord} (hrecord : (s.lane ℓ).record = some x) (comp : Comp) :
    s.handPour c ℓ n comp = s.setLog { s.log with
      queue := if s.log.state = .logFault then s.log.queue else s.log.queue ++ [⟨x.slot, x.seq,
        ⟨.pour n comp.pours, pourContent c n comp.pours (s.chan c) (s.pourLitres c) comp⟩, .channel c⟩] } := by
  unfold State.handPour
  split
  · rfl
  · simp [State.enqueueStage, Lane.slotOf, hrecord]

/-- Settles O39: the result is written and the stage handed over before the channel goes on. -/
theorem settleTimeEndsThePour : Obligations.SettleTimeEndsThePour := by
  intro c s ℓ n r comp after hreset hsettle hsettling hassigned hrecord hcomp hafter
  obtain ⟨s1, hs1⟩ : ∃ s1, s1 = s.modChan c (fun ch => { ch with state := .ended, settle := none }) := ⟨_, rfl⟩
  obtain ⟨s2, hs2⟩ : ∃ s2, s2 = s1.endAt c ℓ n comp := ⟨_, rfl⟩
  obtain ⟨s4, hs4⟩ : ∃ s4, s4 = (s2.modChan c (fun ch => { ch with stray := 0, lastEnd := ch.pourEnd })).attend (.channelEnd c) :=
    ⟨_, rfl⟩
  have hchan1 : s1.chan c = { s.chan c with state := .ended, settle := none } := by rw [hs1, State.chan_modChan_same]
  have hlane1 (m : LaneId) : s1.lane m = s.lane m := by rw [hs1]; rfl
  have hlog1 : s1.log = s.log := by rw [hs1]; rfl
  obtain ⟨mark, hmark⟩ := State.assignedComp_of (s := s1) (c := c) (by rw [hchan1]; exact hassigned)
    (by rw [hlane1]; exact hrecord) hcomp
  have hexec : exec (.settleTimerExpiry c) s = .next (if s.log.state = .logFault then s4.finishChannel c else s4) := by
    show execSettleTimerExpiry c s = _
    simp only [execSettleTimerExpiry, hreset, Option.isSome_iff_ne_none.2 hsettle, hsettling, Bool.not_false, beq_self_eq_true,
      Bool.and_self, if_true]
    unfold State.settled
    dsimp only
    rw [← hs1, hmark, show (s1.chan c).assigned = some (ℓ, n) by rw [hchan1]; exact hassigned]
    dsimp only
    rw [← hs2, ← hs4]
  have hafter' : comp.afterPour (s1.chan c).pourEnd = after := by rw [hchan1, hafter]; rfl
  have hmod : s1.modRecord ℓ (fun r => r.modComp n (fun _ => after)) =
      s1.setLane ℓ { s.lane ℓ with record := some (r.modComp n (fun _ => after)) } := by
    rw [State.modRecord_of_record (x := r) (by rw [hlane1]; exact hrecord), hlane1]
  have hslots : (r.modComp n (fun _ => after)).slot = r.slot ∧ (r.modComp n (fun _ => after)).seq = r.seq := by
    cases n <;> exact ⟨rfl, rfl⟩
  have heq2 : s2 = (s1.setLane ℓ { s.lane ℓ with record := some (r.modComp n (fun _ => after)) }).setLog
      { s.log with queue := if s.log.state = .logFault then s.log.queue else s.log.queue ++ [⟨r.slot, r.seq,
          ⟨.pour n after.pours, pourContent c n after.pours (s.chan c) (s.pourLitres c) after⟩, .channel c⟩] } := by
    have hcontent : pourContent c n after.pours (s1.chan c) (s1.pourLitres c) after =
        pourContent c n after.pours (s.chan c) (s.pourLitres c) after := by
      have hlitres : s1.pourLitres c = s.pourLitres c := by
        simp [State.pourLitres, hchan1, show s1.chanCfg c = s.chanCfg c by rw [hs1]; rfl]
      rw [hlitres, hchan1]
      rfl
    rw [hs2, State.endAt]
    dsimp only
    rw [hafter', hmod, State.handPour_eq (x := r.modComp n (fun _ => after)) (by rw [State.lane_setLane_same]), hslots.1,
      hslots.2, ← hcontent, ← hlog1]
    rfl
  have hchan4 : s4.chan c = { s.chan c with state := .ended, settle := none, stray := 0, lastEnd := (s.chan c).pourEnd } := by
    rw [hs4, State.chan_attend, State.chan_modChan_same, heq2]
    show { s1.chan c with stray := 0, lastEnd := (s1.chan c).pourEnd } = _
    rw [hchan1]
  have hothers4 (d : ChanId) (hd : d ≠ c) : s4.chan d = s.chan d := by
    rw [hs4, State.chan_attend, State.chan_modChan_ne _ _ hd, heq2]
    show s1.chan d = s.chan d
    rw [hs1, State.chan_modChan_ne _ _ hd]
  have hlane4 : s4.lane ℓ = { s.lane ℓ with record := some (r.modComp n (fun _ => after)) } := by
    rw [hs4, heq2]
    simp
  have hother4 : s4.lane (otherLane ℓ) = s.lane (otherLane ℓ) := by
    rw [hs4, heq2]
    simp [hlane1]
  have hattention4 : s4.attention = addReasonTo (.channelEnd c) s.attention := by
    rw [hs4, heq2, hs1]
    simp
  have hframe4 : s4.lists = s.lists ∧ s4.view = s.view ∧ s4.port = s.port ∧ sameStation s s4 ∧ s4.line = s.line := by
    rw [hs4, heq2, hs1]
    simp [sameStation]
  have hlog4 : s4.log = { s.log with queue := if s.log.state = .logFault then s.log.queue else s.log.queue ++ [⟨r.slot, r.seq,
      ⟨.pour n after.pours, pourContent c n after.pours (s.chan c) (s.pourLitres c) after⟩, .channel c⟩] } := by
    rw [hs4, heq2]
    rfl
  have hdone4 : (Reason.channelEnd c, false) ∈ s4.attention := hattention4 ▸ mem_addReasonTo_self ..
  obtain ⟨hlists4, hview4, hport4, hstation4, hline4⟩ := hframe4
  by_cases hfault : s.log.state = .logFault
  · rw [if_pos hfault] at hexec
    have hfinish : s4.finishChannel c = (s4.idleChannel c).testClosing ℓ := by
      rw [State.finishChannel, show (s4.chan c).assigned = some (ℓ, n) by rw [hchan4]; exact hassigned]
    rw [hfinish] at hexec
    obtain ⟨s5, hs5⟩ : ∃ s5, s5 = s4.idleChannel c := ⟨_, rfl⟩
    rw [← hs5] at hexec
    have hchan5 : s5.chan c = { s4.chan c with
        state := .idle, assigned := none, preset := none, slow := none, close := none } := by
      rw [hs5, State.idleChannel, State.chan_modChan_same]
    have hothers5 (d : ChanId) (hd : d ≠ c) : s5.chan d = s4.chan d := by
      rw [hs5, State.idleChannel, State.chan_modChan_ne _ _ hd]
    have hlog5 : s5.log = { s.log with queue := s.log.queue } := by
      rw [hs5, show (s4.idleChannel c).log = s4.log by simp, hlog4, if_pos hfault]
    obtain ⟨hother, -, -, hstays, -, hmemory⟩ := (State.LaneOp.refl ℓ s5).testClosing
    have hlog := State.testClosing_log_of_fault (s := s5) (ℓ := ℓ) (by rw [hlog5]; exact hfault)
    refine ⟨_, hexec, hstays _ ?_, ?_, ?_, ?_, fun h => (h hfault).elim, fun _ => ⟨?_, ?_, ?_, ?_, ?_⟩, fun d hd => ?_, ?_, ?_⟩
    · rw [hs5]
      simpa using hdone4
    · rw [State.chan_testClosing, hchan5, hchan4]
    · rw [State.chan_testClosing, hchan5, hchan4]
    · rw [State.chan_testClosing, hchan5, hchan4]
    · rw [State.chan_testClosing, hchan5]
    · rw [State.chan_testClosing, hchan5]
    · rw [State.chan_testClosing, hchan5]
    · rw [hlog, hlog5]
    · rw [hmemory, hlog5]
    · rw [State.chan_testClosing, hothers5 d hd, hothers4 d hd]
    · rw [hother, hs5, ← hother4]
      simp [State.lane]
    · simp only [State.testClosing_frame, sameStation]
      obtain ⟨hpending, hpins, hunit, hreleased, hfree⟩ := hstation4
      simp [hs5, hlists4, hview4, hport4, hpending, hpins, hunit, hreleased, hfree]
  · rw [if_neg hfault] at hexec
    refine ⟨_, hexec, hdone4, by rw [hchan4], by rw [hchan4], by rw [hchan4],
      fun _ => ⟨hchan4, hlane4, by rw [hlog4, if_neg hfault], hattention4, hline4⟩, fun h => (hfault h).elim,
      hothers4, hother4, hlists4, hview4, hport4, hstation4⟩

end LaneEnds

end Sys2Proof.Machine

namespace Sys2Proof.Machine

/-! ## Proofs: the void of a load (chapter 1) -/

section Void

variable {s t u : State} {ℓ : LaneId}

theorem leftClosing.congr {s' : State} {r : LoadRecord} {c : Closing} (h : leftClosing s t ℓ r c)
    (hdispatch : (s'.lane ℓ).dispatch = (s.lane ℓ).dispatch) (hpulse : (s'.lane ℓ).pulse = (s.lane ℓ).pulse) :
    leftClosing s' t ℓ r c := by
  unfold leftClosing at h ⊢
  rw [hdispatch, hpulse]
  exact h

/-- The state in which a voided load is told to its channels (R25). -/
def State.voiding (s : State) (ℓ : LaneId) (c : Closing) : State :=
  ((s.endReclaim ℓ).modLane ℓ (fun l => { l with state := .closing, dutyTimer := none })).modLane ℓ
    (fun l => { l with closing := some c })

/-- The state in which a voided lane is tested for its way out (R25, R26). -/
def State.voided (s : State) (ℓ : LaneId) (c : Closing) : State :=
  State.reportFalls (s.voiding ℓ c) (ChanId.all.foldl (State.voidChannel ℓ) (s.voiding ℓ c))

theorem State.acceptVoid_eq (s : State) (ℓ : LaneId) :
    s.acceptVoid ℓ = (s.voided ℓ ⟨.voided, s.minute, s.onward ℓ noPlan, false, false⟩).testClosing ℓ := rfl

theorem State.voiding_lane (s : State) (ℓ : LaneId) (c : Closing) : ∃ x y z, (s.voiding ℓ c).lane ℓ = { s.lane ℓ with
    state := .closing
    reclaim := none
    dutyTimer := none
    closing := some c
    lostClaim := x
    owedRelease := y
    owedContest := z } := by
  obtain ⟨x, y, z, h⟩ := s.endReclaim_lane ℓ
  exact ⟨x, y, z, by simp [State.voiding, h]⟩

theorem State.voiding_laneOp (s : State) (ℓ : LaneId) (c : Closing) : s.LaneOp ℓ (s.voiding ℓ c) :=
  ((State.LaneOp.refl ℓ s).endReclaim.modLane _).modLane _

theorem State.voiding_frame (s : State) (ℓ : LaneId) (c : Closing) : (s.voiding ℓ c).channels = s.channels ∧
    (s.voiding ℓ c).log = s.log ∧ (s.voiding ℓ c).unit = s.unit := by simp [State.voiding]

theorem State.voided_frame (s : State) (ℓ : LaneId) (c : Closing) : (s.voided ℓ c).lanes = (s.voiding ℓ c).lanes ∧
    (s.voided ℓ c).log = s.log := by
  have hframe {β : Type} (π : State → β) (h : ∀ u d, π (State.voidChannel ℓ u d) = π u) :
      π (ChanId.all.foldl (State.voidChannel ℓ) (s.voiding ℓ c)) = π (s.voiding ℓ c) := foldl_keep π _ _ _ h
  simp only [State.voided, State.reportFalls_frame]
  exact ⟨hframe (·.lanes) (by simp), (hframe (·.log) (by simp)).trans (s.voiding_frame ℓ c).2.1⟩

theorem State.voided_lane (s : State) (ℓ : LaneId) (c : Closing) (m : LaneId) :
    (s.voided ℓ c).lane m = (s.voiding ℓ c).lane m := by
  rw [State.lane, State.lane, (s.voided_frame ℓ c).1]

/-- The RELEASE place is as the end of the reclaim has left it. -/
theorem State.voided_release (s : State) (ℓ : LaneId) (c : Closing) :
    (s.voided ℓ c).noticeAt (.release ℓ) = (s.voiding ℓ c).noticeAt (.release ℓ) := by
  have hop (u : State) (d : ChanId) : State.OnlyDraw d u (State.voidChannel ℓ u d) :=
    (State.OnlyDraw.refl d u).voidChannel ℓ
  obtain ⟨-, hkept⟩ := foldl_line hop ChanId.all (s.voiding ℓ c)
  have ho := State.Offers.reportFalls (s.voiding ℓ c) (ChanId.all.foldl (State.voidChannel ℓ) (s.voiding ℓ c))
  have hnot : ¬ isDrawPlace (.release ℓ) := fun ⟨_, h⟩ => by cases h
  exact (ho.kept _ hnot).trans (hkept _ hnot)

theorem State.voided_channels (s : State) (ℓ : LaneId) (c : Closing) : State.ChannelsVoided ℓ s (s.voided ℓ c) := by
  have h := State.channelsVoided ℓ (s.voiding ℓ c)
  have hchan (ch : ChanId) : (s.voiding ℓ c).chan ch = s.chan ch := by
    rw [State.chan, State.chan, (s.voiding_frame ℓ c).1]
  refine ⟨fun ch hlane harmed => h.armed ch (by rw [hchan]; exact hlane) (by rw [hchan]; exact harmed),
    fun ch hlane hruns => ?_, fun ch hc => ?_⟩
  · have := h.runs ch (by rw [hchan]; exact hlane) (by rw [runsPour, hchan]; exact hruns)
    rwa [hchan] at this
  · have := h.others ch (by rw [runsPour, hchan]; exact hc)
    rwa [hchan] at this

theorem State.laneBusy_iff : s.laneBusy ℓ = true ↔ ∃ ch, (s.chan ch).atLane ℓ = true := by
  simp [State.laneBusy, ChanId.mem_all]

theorem State.laneBusy_congr (h : t.channels = s.channels) : t.laneBusy ℓ = s.laneBusy ℓ := by
  simp [State.laneBusy, State.chan, h]

theorem State.ChannelsVoided.atLane (h : State.ChannelsVoided ℓ s t) {ch : ChanId} (hc : (t.chan ch).atLane ℓ = true) :
    (s.chan ch).atLane ℓ = true ∧ (s.chan ch).state ≠ .armed := by
  by_cases hacts : (s.chan ch).atLane ℓ = true ∧ ((s.chan ch).state = .armed ∨ runsPour s ch)
  · obtain ⟨hlane, hstate⟩ := hacts
    refine ⟨hlane, fun harmed => ?_⟩
    obtain ⟨-, hnone⟩ := h.armed ch hlane harmed
    simp [Channel.atLane, hnone] at hc
  · have heq : (t.chan ch).assigned = (s.chan ch).assigned := by
      rcases h.others ch hacts with heq | ⟨-, heq⟩ <;> rw [heq]
    have hlane : (s.chan ch).atLane ℓ = true := by
      rw [Channel.atLane, ← heq]
      exact hc
    exact ⟨hlane, fun harmed => hacts ⟨hlane, .inl harmed⟩⟩

theorem State.ChannelsVoided.atLane_of_not_armed (h : State.ChannelsVoided ℓ s t) {ch : ChanId}
    (hlane : (s.chan ch).atLane ℓ = true) (hstate : (s.chan ch).state ≠ .armed) : (t.chan ch).atLane ℓ = true := by
  have heq : (t.chan ch).assigned = (s.chan ch).assigned := by
    by_cases hruns : runsPour s ch
    · exact (h.runs ch hlane hruns).2.2.2
    · rcases h.others ch (fun hc => hc.2.elim hstate hruns) with heq | ⟨-, heq⟩ <;> rw [heq]
  rw [Channel.atLane, heq]
  exact hlane

theorem State.handStage_log_state (s : State) (ℓ : LaneId) (st : Stage) : (s.handStage ℓ st).log.state = s.log.state := by
  unfold State.handStage
  split
  · rfl
  · split <;> rfl

/-- Away from LOG_FAULT a voided lane stays in CLOSING, its outcome handed over once no channel is assigned to it (R26). -/
theorem State.testClosing_voided {c : Closing} {r : LoadRecord} (hclosing : (s.lane ℓ).closing = some c)
    (hrecord : (s.lane ℓ).record = some r) (hvoided : c.outcome = .voided) (hhanded : c.handed = false)
    (hwritten : c.written = false) (hlog : s.log.state ≠ .logFault) :
    ∃ x, (s.testClosing ℓ).lane ℓ = { s.lane ℓ with closing := some { c with handed := !s.laneBusy ℓ }, backlog := x } := by
  cases hbusy : s.laneBusy ℓ with
  | true =>
    have hhand : s.handVoided ℓ = s := by
      rw [State.handVoided_eq hclosing hrecord, if_neg]
      simp [hbusy]
    rw [State.testClosing_of_not_done hhand.symm hclosing (by simp [State.outcomeDone, hwritten, hlog])]
    refine ⟨(s.lane ℓ).backlog, ?_⟩
    have hsame : ({ c with handed := !true } : Closing) = c := by rw [Bool.not_true, ← hhanded]
    rw [hsame, ← hclosing]
  | false =>
    obtain ⟨s1, hs1⟩ : ∃ s1, s1 = (s.modLane ℓ (fun l => { l with closing := some { c with handed := true } })).handStage ℓ
      (outcomeStage r c) := ⟨_, rfl⟩
    have hhand : s.handVoided ℓ = s1 := by
      rw [State.handVoided_eq hclosing hrecord, if_pos, hs1]
      simp [hvoided, hhanded, hbusy, hlog]
    obtain ⟨x, hx⟩ := State.handStage_lane (s.modLane ℓ (fun l => { l with closing := some { c with handed := true } })) ℓ
      (outcomeStage r c)
    rw [← hs1, State.lane_modLane_same] at hx
    have hstate : s1.log.state = s.log.state := by rw [hs1, State.handStage_log_state]; rfl
    rw [State.testClosing_of_not_done (s1 := s1) hhand.symm (by rw [hx]) (by simp [State.outcomeDone, hwritten, hstate, hlog])]
    exact ⟨x, hx⟩

/-- Settles O29. -/
theorem voidAbandonsTheLoad : Obligations.VoidAbandonsTheLoad := by
  refine ⟨?_, ?_, ?_⟩
  · intro ops k s ℓ r c htakes hjoined hlane hstate hrecord hclaim hwf
    have hown : ownVoid ops s = okReply (s.withdrawClaim ℓ .voided) [] := by simp [ownVoid, hjoined, hlane, hstate]
    obtain ⟨⟨x, y, z, hafter⟩, hlog, hdone, hrelease⟩ := State.claimWithdrawn hclaim .voided
    have hslot : (s.lane ℓ).slotOf.1 = r.slot := by simp [Lane.slotOf, hrecord]
    rw [hslot] at hlog
    have hat (p : Nat) : (s.withdrawClaim ℓ .voided).log.slot p = if p = r.slot then SlotEntry.free else s.log.slot p := by
      rw [hlog, DeliveryLog.slot_setSlot _ hwf]
    refine ⟨_, exec_of_accepted (i := .void ops k) rfl htakes hjoined (congrArg atOnce hown), ?_⟩
    have hqueue : (s.withdrawClaim ℓ .voided).log.queue = s.log.queue := by rw [hlog]; rfl
    have hmemory : (s.withdrawClaim ℓ .voided).log.memory = s.log.memory := by rw [hlog]; rfl
    exact ⟨congrArg Lane.state hafter, congrArg Lane.record hafter, congrArg Lane.claim hafter, congrArg Lane.holds hafter,
      congrArg Lane.result hafter, hdone, (hat r.slot).trans (if_pos rfl), fun p hp => (hat p).trans (if_neg hp),
      hqueue, hmemory, hrelease, rfl,
      ((State.LaneOp.refl ℓ s).withdrawClaim .voided).other, by simp, by simp [sameStation], by simp, by simp⟩
  · intro ops k s ℓ r cfg htakes hjoined hlane hcfg hstate hrecord hsettling hlog
    have hown : ownVoid ops s = okReply (s.acceptVoid ℓ) [] := by
      rcases hstate with h | h <;> simp [ownVoid, hjoined, hlane, h, hsettling]
    obtain ⟨c, hc⟩ : ∃ c : Closing, c = ⟨.voided, s.minute, s.onward ℓ noPlan, false, false⟩ := ⟨_, rfl⟩
    obtain ⟨u, hu⟩ : ∃ u, u = s.voided ℓ c := ⟨_, rfl⟩
    have heq : s.acceptVoid ℓ = u.testClosing ℓ := by rw [State.acceptVoid_eq, hu, hc]
    obtain ⟨x, y, z, hlane3⟩ := s.voiding_lane ℓ c
    have hlaneU : u.lane ℓ = _ := hu ▸ (s.voided_lane ℓ c ℓ).trans hlane3
    have hvoided := s.voided_channels ℓ c
    rw [← hu] at hvoided
    obtain ⟨b, hafter⟩ := State.testClosing_voided (s := u) (ℓ := ℓ) (c := c) (r := r) (by rw [hlaneU]) (by rw [hlaneU]; exact hrecord)
      (by rw [hc]) (by rw [hc]) (by rw [hc]) (by rw [hu, (s.voided_frame ℓ c).2]; exact hlog)
    have hother : (s.acceptVoid ℓ).lane (otherLane ℓ) = s.lane (otherLane ℓ) := by
      rw [heq, (State.LaneOp.refl ℓ u).testClosing.other, hu, s.voided_lane, (s.voiding_laneOp ℓ c).other]
    have hmemory : (s.acceptVoid ℓ).log.memory = s.log.memory := by
      rw [heq, (State.LaneOp.refl ℓ u).testClosing.memory, hu, (s.voided_frame ℓ c).2]
    have hchan (ch : ChanId) : (s.acceptVoid ℓ).chan ch = u.chan ch := by rw [heq, State.chan_testClosing]
    have hbusy : (s.acceptVoid ℓ).laneBusy ℓ = u.laneBusy ℓ := by rw [heq]; exact State.laneBusy_congr (by simp)
    rw [← heq, hlaneU] at hafter
    have hholds : ((s.acceptVoid ℓ).lane ℓ).holds = (s.lane ℓ).holds := by rw [hafter]
    refine ⟨_, { c with handed := !u.laneBusy ℓ }, exec_of_accepted (i := .void ops k) rfl htakes hjoined
      (congrArg atOnce hown), ?_⟩
    refine ⟨congrArg Lane.state hafter, (congrArg Lane.record hafter).trans hrecord, congrArg Lane.closing hafter,
      by rw [hc], by rw [hc], by rw [hc]; exact State.onward_of_config hcfg hrecord noPlan, congrArg not hbusy.symm,
      congrArg Lane.reclaim hafter, congrArg Lane.dutyTimer hafter, hholds,
      fun ch hat harmed => (congrArg Channel.state (hchan ch)).trans (hvoided.armed ch hat harmed).1,
      fun ch hat hruns => ?_, fun ch hat hnot => (hchan ch).trans ?_, rfl, hother, by simp [sameStation], by simp, by simp,
      hmemory⟩
    · obtain ⟨hsettled, hend, hpermit, -⟩ := hvoided.runs ch hat hruns
      exact ⟨(congrArg Channel.state (hchan ch)).trans hsettled, (congrArg Channel.pourEnd (hchan ch)).trans hend,
        (congrArg Channel.permit (hchan ch)).trans hpermit⟩
    · refine (hvoided.others ch fun h => by simp [hat] at h).resolve_right fun ⟨hwants, _⟩ => ?_
      simp [Channel.wantsDraw, hnot] at hwants
  · intro ops k s ℓ r cfg c htakes hjoined hlane hcfg hstate hrecord hsettling hfault hwf hc
    have hown : ownVoid ops s = okReply (s.acceptVoid ℓ) [] := by
      rcases hstate with h | h <;> simp [ownVoid, hjoined, hlane, h, hsettling]
    obtain ⟨u, hu⟩ : ∃ u, u = s.voided ℓ c := ⟨_, rfl⟩
    have heq : s.acceptVoid ℓ = u.testClosing ℓ := by
      rw [State.acceptVoid_eq, hu, hc, State.onward_of_config hcfg hrecord]
      rfl
    obtain ⟨x, y, z, hlane3⟩ := s.voiding_lane ℓ c
    have hlaneU : u.lane ℓ = _ := hu ▸ (s.voided_lane ℓ c ℓ).trans hlane3
    have hlogU : u.log = s.log := hu ▸ (s.voided_frame ℓ c).2
    have hfaultU : u.log.state = .logFault := by rw [hlogU]; exact hfault
    have hvoided := s.voided_channels ℓ c
    rw [← hu] at hvoided
    have htest := State.testClosing_eq (s := u) (ℓ := ℓ) (c := c) (r := r) (by rw [hlaneU]) (by rw [hlaneU]; exact hrecord)
      (State.handVoided_of_fault hfaultU)
    have hother : (s.acceptVoid ℓ).lane (otherLane ℓ) = s.lane (otherLane ℓ) := by
      rw [heq, (State.LaneOp.refl ℓ u).testClosing.other, hu, s.voided_lane, (s.voiding_laneOp ℓ c).other]
    have htable : (s.acceptVoid ℓ).log = { s.log with table := (s.acceptVoid ℓ).log.table } := by
      rw [heq, ← hlogU]
      exact State.testClosing_log_of_fault hfaultU
    have hdone : u.outcomeDone c = true := by simp [State.outcomeDone, hc, hfaultU]
    refine ⟨_, exec_of_accepted (i := .void ops k) rfl htakes hjoined (congrArg atOnce hown), rfl,
      fun hall hreclaim hwaits => ?_, fun ⟨ch, hat, hnot⟩ => ?_, htable, hother, by simp [sameStation], by simp, by simp⟩
    · have hidle : ¬ u.laneBusy ℓ = true := fun hbusy => by
        obtain ⟨ch, hch⟩ := State.laneBusy_iff.1 hbusy
        obtain ⟨hat, hnot⟩ := hvoided.atLane hch
        exact hnot (hall ch hat)
      have hend : s.voiding ℓ c = (s.modLane ℓ (fun l => { l with state := .closing, dutyTimer := none })).modLane ℓ
          (fun l => { l with closing := some c }) := by rw [State.voiding, State.endReclaim_of_none hreclaim]
      have hnotice : u.noticeAt (.release ℓ) = s.noticeAt (.release ℓ) := by
        rw [hu, s.voided_release, hend]
        rfl
      have howed : (u.lane ℓ).owedRelease = (s.lane ℓ).owedRelease := by
        rw [hu, s.voided_lane, hend]
        simp
      have hwaitsU : ¬ u.releaseWaiting ℓ = true := by
        rw [State.releaseWaiting, hnotice, howed, ← State.releaseWaiting, hwaits]
        exact nofun
      rw [if_pos ⟨hidle, hdone, hwaitsU⟩] at htest
      have hfree : u.noticeAt (.release ℓ) = none := by
        rw [hnotice]
        simp only [State.releaseWaiting, Bool.or_eq_false_iff] at hwaits
        exact Option.isSome_eq_false_iff.1 hwaits.1 |> Option.isNone_iff_eq_none.1
      have hleft := leftClosing_leaveClosing hfree c r
      rw [← htest, ← heq] at hleft
      refine ⟨hleft.congr (s' := s) (by rw [hlaneU]) (by rw [hlaneU]), fun p => ?_⟩
      show (s.acceptVoid ℓ).log.slot p = _
      rw [heq, htest, State.leaveClosing_log, State.leaveSlot_slot (by rw [hlogU]; exact hwf) hfaultU, hlogU]
    · have hbusy : u.laneBusy ℓ = true := State.laneBusy_iff.2 ⟨ch, hvoided.atLane_of_not_armed hat hnot⟩
      rw [if_neg fun h => h.1 hbusy] at htest
      have hafter := hlaneU
      rw [← htest, ← heq] at hafter
      exact ⟨congrArg Lane.state hafter, (congrArg Lane.record hafter).trans hrecord, congrArg Lane.closing hafter,
        congrArg Lane.reclaim hafter, congrArg Lane.dutyTimer hafter, by
          show (s.acceptVoid ℓ).log = s.log
          rw [heq, htest, hlogU]⟩

end Void

end Sys2Proof.Machine

namespace Sys2Proof.Machine

/-! ## Matching the Hold List (chapter 5): what a re-match makes of the lanes and of the Log Write Queue -/

section Rematch

variable {s t u : State} {ℓ : LaneId} {r : LoadRecord}

/-! ### Arming the duty timer -/

theorem HoldSet.put_duty (h : HoldSet) (v : Bool) : h.put .duty v = { h with duty := v } := rfl

/-- A timer armed in LOADING: its warning and its hold are tested at once (R68). -/
structure State.TimerArmed (ℓ : LaneId) (r : LoadRecord) (d : DutyResult) (s t : State) : Prop where
  lane : ∃ f, t.lane ℓ = { s.lane ℓ with
    record := some { r with findings := f }
    holds := { (s.lane ℓ).holds with duty := (t.lane ℓ).holds.duty }
    dutyTimer := (t.lane ℓ).dutyTimer }
  ahead : s.minute ≤ d.latest →
    (t.lane ℓ).dutyTimer = some ⟨d.latest, d.setBy, decide (d.latest ≤ s.minute + s.warn)⟩ ∧
    (t.lane ℓ).holds.duty = (s.lane ℓ).holds.duty
  past : d.latest < s.minute → (t.lane ℓ).dutyTimer = none ∧ (t.lane ℓ).holds.duty = true
  near : d.latest ≤ s.minute + s.warn → (Reason.dutyNear ℓ, false) ∈ t.attention
  channels : t.channels = s.channels
  line : t.line = s.line

theorem State.timerArmed (hrecord : (s.lane ℓ).record = some r) (hstate : (s.lane ℓ).state = .loading) (d : DutyResult) :
    State.TimerArmed ℓ r d s (s.armTimer ℓ d) := by
  obtain ⟨s1, hs1⟩ : ∃ s1, s1 = s.modLane ℓ (fun l =>
    { l with dutyTimer := some ⟨d.latest, d.setBy, decide (d.latest ≤ s.minute + s.warn)⟩ }) := ⟨_, rfl⟩
  obtain ⟨s2, hs2⟩ : ∃ s2, s2 = if d.latest ≤ s.minute + s.warn then s1.attend (.dutyNear ℓ) else s1 := ⟨_, rfl⟩
  have heq : s.armTimer ℓ d = if d.latest < s.minute then
      (s2.setHold ℓ .duty (dutyFinding d.setBy)).modLane ℓ (fun l => { l with dutyTimer := none }) else s2 := by
    unfold State.armTimer State.dutyNearAt
    simp only [decide_eq_true_eq, ← hs1, ← hs2]
  have hlane2 : s2.lane ℓ = { s.lane ℓ with
      dutyTimer := some ⟨d.latest, d.setBy, decide (d.latest ≤ s.minute + s.warn)⟩ } := by
    rw [hs2]
    split <;> simp [hs1]
  have hchannels2 : s2.channels = s.channels ∧ s2.line = s.line := by
    rw [hs2]
    split <;> simp [hs1]
  have hnear2 (h : d.latest ≤ s.minute + s.warn) : (Reason.dutyNear ℓ, false) ∈ s2.attention := by
    rw [hs2, if_pos h]
    exact mem_addReasonTo_self ..
  rw [heq]
  by_cases hpast : d.latest < s.minute
  · rw [if_pos hpast]
    have hadmits : (s2.lane ℓ).state.admitsMember .duty = true := by rw [hlane2, hstate]; rfl
    have hholds := State.setHold_holds (dutyFinding d.setBy) hadmits
    obtain ⟨f, hf⟩ := State.setHold_lane (s := s2) (ℓ := ℓ) .duty (dutyFinding d.setBy) (r := r) (by rw [hlane2]; exact hrecord)
    rw [hholds, hlane2, HoldSet.put_duty] at hf
    have hop := (State.LaneOp.refl ℓ s2).setHold .duty (dutyFinding d.setBy)
    refine ⟨⟨f, ?_⟩, fun h => (Nat.not_lt.2 h hpast).elim, fun _ => ?_, fun h => ?_, ?_, ?_⟩
    · rw [State.lane_modLane_same, hf]
    · rw [State.lane_modLane_same, hf]
      exact ⟨rfl, rfl⟩
    · exact hop.stays _ (hnear2 h)
    · simp [hchannels2]
    · simp [hchannels2]
  · rw [if_neg hpast]
    refine ⟨⟨r.findings, ?_⟩, fun _ => ?_, fun h => (hpast h).elim, hnear2, hchannels2.1, hchannels2.2⟩
    · rw [hlane2, show some { r with findings := r.findings } = (s.lane ℓ).record from hrecord.symm]
    · rw [hlane2]
      exact ⟨rfl, rfl⟩

/-! ### Back to LOADING -/

/-- What a lane that has gone back to LOADING keeps, and its timer (R29, R30). -/
structure State.ReturnedToLoading (ℓ : LaneId) (r : LoadRecord) (s t : State) : Prop where
  lane : ∃ f, t.lane ℓ = { s.lane ℓ with
    state := .loading
    closing := none
    record := some { r with findings := f }
    holds := { (s.lane ℓ).holds with duty := (t.lane ℓ).holds.duty }
    dutyTimer := (t.lane ℓ).dutyTimer }
  rearmed : rearmed s t ℓ r
  channels : t.channels = s.channels
  line : t.line = s.line

theorem State.returnedToLoading (hrecord : (s.lane ℓ).record = some r) :
    State.ReturnedToLoading ℓ r s (s.returnToLoading ℓ) := by
  obtain ⟨s1, hs1⟩ : ∃ s1, s1 = s.modLane ℓ (fun l => { l with state := .loading, closing := none }) := ⟨_, rfl⟩
  have hlane1 : s1.lane ℓ = { s.lane ℓ with state := .loading, closing := none } := by rw [hs1, State.lane_modLane_same]
  have hrecord1 : (s1.lane ℓ).record = some r := by rw [hlane1]; exact hrecord
  cases hduty : r.duty with
  | none =>
    have heq : s.returnToLoading ℓ = s1 := by
      unfold State.returnToLoading
      simp only [← hs1, hrecord1, hduty]
    rw [heq]
    refine ⟨⟨r.findings, ?_⟩, ⟨fun d hd => ?_, fun d hd => ?_, fun d hd => ?_⟩, by simp [hs1], by simp [hs1]⟩
    · show s1.lane ℓ = { s.lane ℓ with
        state := .loading
        closing := none
        record := some r
        holds := { (s.lane ℓ).holds with duty := (s1.lane ℓ).holds.duty }
        dutyTimer := (s1.lane ℓ).dutyTimer }
      rw [hlane1, ← hrecord]
    · simp [hduty] at hd
    · simp [hduty] at hd
    · simp [hduty] at hd
  | some d =>
    have heq : s.returnToLoading ℓ = s1.armTimer ℓ d := by
      unfold State.returnToLoading
      simp only [← hs1, hrecord1, hduty]
    rw [heq]
    obtain ⟨⟨f, hf⟩, hahead, hpast, hnear, hchannels, hline⟩ := State.timerArmed hrecord1 (by rw [hlane1]) d
    have hminute : s1.minute = s.minute := by rw [hs1]; rfl
    have hwarn : s1.warn = s.warn := by rw [hs1]; rfl
    rw [hminute, hwarn, hlane1] at hahead
    rw [hminute] at hpast
    rw [hminute, hwarn] at hnear
    refine ⟨⟨f, ?_⟩, ⟨fun d' hd' h => ?_, fun d' hd' h => ?_, fun d' hd' h => ?_⟩, by rw [hchannels, hs1]; rfl,
      by rw [hline, hs1]; rfl⟩
    · dsimp only
      rw [hlane1] at hf
      exact hf
    · obtain rfl : d = d' := Option.some.inj (hduty.symm.trans hd')
      exact hahead h
    · obtain rfl : d = d' := Option.some.inj (hduty.symm.trans hd')
      exact hpast h
    · obtain rfl : d = d' := Option.some.inj (hduty.symm.trans hd')
      exact hnear h

/-- A re-armed timer seen in a state with the same lane, unit and warnings. -/
theorem rearmed.congr {s' t' : State} (h : rearmed s t ℓ r) (hduty : (s'.lane ℓ).holds.duty = (s.lane ℓ).holds.duty)
    (hunit : s'.unit = s.unit) (hduty' : (t'.lane ℓ).holds.duty = (t.lane ℓ).holds.duty)
    (htimer : (t'.lane ℓ).dutyTimer = (t.lane ℓ).dutyTimer)
    (hstays : ∀ q, (q, false) ∈ t.attention → (q, false) ∈ t'.attention) : rearmed s' t' ℓ r := by
  obtain ⟨hahead, hpast, hnear⟩ := h
  have hminute : s'.minute = s.minute := by simp [State.minute, hunit]
  have hwarn : s'.warn = s.warn := by simp [State.warn, hunit]
  unfold rearmed
  rw [hminute, hwarn, hduty, hduty', htimer]
  exact ⟨hahead, hpast, fun d hd h => hstays _ (hnear d hd h)⟩

/-! ### The Log Write Queue without some of its waiting stages -/

/-- The log without the unbegun stages that a test rejects (R181). -/
def DeliveryLog.without (l : DeliveryLog) (keep : StageWrite → Bool) : DeliveryLog :=
  { l with queue := (if l.writingStage then l.queue.take 1 else []) ++ l.unbegun.filter keep }

theorem DeliveryLog.without_of_all {l : DeliveryLog} {keep : StageWrite → Bool} (h : ∀ w, keep w = true) :
    l.without keep = l := by
  have hqueue : (if l.writingStage then l.queue.take 1 else []) ++ l.unbegun.filter keep = l.queue := by
    rw [List.filter_eq_self.2 fun w _ => h w]
    unfold DeliveryLog.unbegun
    split
    · exact List.take_append_drop 1 l.queue
    · rfl
  rw [DeliveryLog.without, hqueue]

theorem DeliveryLog.unbegun_without (l : DeliveryLog) (keep : StageWrite → Bool) :
    (l.without keep).unbegun = l.unbegun.filter keep := by
  show (if l.writingStage then ((if l.writingStage then l.queue.take 1 else []) ++ l.unbegun.filter keep).drop 1
    else (if l.writingStage then l.queue.take 1 else []) ++ l.unbegun.filter keep) = _
  split
  · rename_i h
    rw [DeliveryLog.unbegun, if_pos h]
    cases l.queue with
    | nil => rfl
    | cons w rest => rfl
  · rfl

theorem DeliveryLog.without_without (l : DeliveryLog) (keep keep' : StageWrite → Bool) :
    (l.without keep).without keep' = l.without fun w => keep w && keep' w := by
  have hqueue : (if l.writingStage then (l.without keep).queue.take 1 else []) ++ (l.without keep).unbegun.filter keep' =
      (if l.writingStage then l.queue.take 1 else []) ++ l.unbegun.filter (fun w => keep w && keep' w) := by
    rw [DeliveryLog.unbegun_without, List.filter_filter]
    congr 1
    · by_cases h : l.writingStage = true
      · rw [if_pos h, if_pos h]
        show ((if l.writingStage then l.queue.take 1 else []) ++ l.unbegun.filter keep).take 1 = _
        rw [if_pos h, DeliveryLog.unbegun, if_pos h]
        cases l.queue with
        | nil => rfl
        | cons w rest => rfl
      · rw [if_neg h, if_neg h]
    · congr 1
      funext w
      exact Bool.and_comm ..
  show { l with queue := _ } = { l with queue := _ }
  rw [← hqueue]
  rfl

theorem State.withdrawOutcome_log (s : State) (ℓ : LaneId) :
    (s.withdrawOutcome ℓ).log = s.log.without fun w => !w.isOutcomeOf ℓ := rfl

end Rematch

end Sys2Proof.Machine

namespace Sys2Proof.Machine

/-! ## Matching the Hold List: the lanes after a re-match (R120) -/

section Rematched

variable {s t u : State} {ℓ : LaneId} {r : LoadRecord}

/-- What a re-match makes of its lane and of the Log Write Queue (R29, R120, R181). -/
structure State.LaneMatched (ℓ : LaneId) (s t : State) : Prop where
  follows : ∀ r, (s.lane ℓ).record = some r →
    ((s.lane ℓ).state = .claiming ∨ (s.lane ℓ).state = .opened ∨ (s.lane ℓ).state = .loading) →
    ∃ f, t.lane ℓ = { s.lane ℓ with
      holds := { (s.lane ℓ).holds with order := s.lists.holds.any (fun e => e.matchesRecord r) }
      record := some { r with findings := f } }
  taken : ∀ r, (s.lane ℓ).record = some r → orderTakesBack s s ℓ = true →
    backToLoading s t ℓ r .held ∧ (t.lane ℓ).holds.order = true ∧ (t.lane ℓ).backlog = (s.lane ℓ).backlog
  closing : (s.lane ℓ).state = .closing → orderTakesBack s s ℓ = false → t.lane ℓ = s.lane ℓ
  empty : (s.lane ℓ).record = none → t.lane ℓ = s.lane ℓ
  log : t.log = s.log.without fun w => !(orderTakesBack s s ℓ && w.isOutcomeOf ℓ)
  notices : noticesKept isDrawPlace s t

theorem orderTakesBack_of_not_closing (h : (s.lane ℓ).state ≠ .closing) : orderTakesBack s t ℓ = false := by
  unfold orderTakesBack
  split
  · rename_i hstate _ _
    exact (h hstate).elim
  · rfl

theorem orderTakesBack_of_closing {c : Closing} (hstate : (s.lane ℓ).state = .closing) (hrecord : (s.lane ℓ).record = some r)
    (hclosing : (s.lane ℓ).closing = some c) : orderTakesBack s t ℓ =
      (t.lists.holds.any (fun e => e.matchesRecord r) && c.outcome == .released && s.log.canWithdraw ℓ) := by
  unfold orderTakesBack
  rw [hstate, hrecord, hclosing]
  rfl

theorem orderTakesBack_of_no_closing (h : (s.lane ℓ).closing = none) : orderTakesBack s t ℓ = false := by
  unfold orderTakesBack
  rw [h]
  split
  · contradiction
  · rfl

theorem orderTakesBack_of_no_record (h : (s.lane ℓ).record = none) : orderTakesBack s t ℓ = false := by
  unfold orderTakesBack
  rw [h]
  split
  · contradiction
  · rfl

theorem orderTakesBack_congr {s' t' : State} (hlane : s'.lane ℓ = s.lane ℓ) (hlists : t'.lists = t.lists)
    (hlog : s'.log.canWithdraw ℓ = s.log.canWithdraw ℓ) : orderTakesBack s' t' ℓ = orderTakesBack s t ℓ := by
  by_cases hstate : (s.lane ℓ).state = .closing
  · cases hrecord : (s.lane ℓ).record with
    | none => rw [orderTakesBack_of_no_record hrecord, orderTakesBack_of_no_record (by rw [hlane]; exact hrecord)]
    | some r =>
      cases hclosing : (s.lane ℓ).closing with
      | none => rw [orderTakesBack_of_no_closing hclosing, orderTakesBack_of_no_closing (by rw [hlane]; exact hclosing)]
      | some c =>
        rw [orderTakesBack_of_closing hstate hrecord hclosing, orderTakesBack_of_closing (by rw [hlane]; exact hstate)
          (by rw [hlane]; exact hrecord) (by rw [hlane]; exact hclosing), hlists, hlog]
  · rw [orderTakesBack_of_not_closing hstate, orderTakesBack_of_not_closing (by rw [hlane]; exact hstate)]

theorem State.LaneMatched.of_untouched (h : orderTakesBack s s ℓ = false)
    (hstate : (s.lane ℓ).record = none ∨ (s.lane ℓ).state = .vacant ∨ (s.lane ℓ).state = .closing) :
    State.LaneMatched ℓ s s where
  follows r hr hst := by
    rcases hstate with h1 | h1 | h1
    · simp [h1] at hr
    · simp [h1] at hst
    · simp [h1] at hst
  taken := by simp [h]
  closing _ _ := rfl
  empty _ := rfl
  log := (DeliveryLog.without_of_all (by simp [h])).symm
  notices := .refl _ s

/-- An ORDER takes a lane back from CLOSING (R29). -/
theorem State.laneMatched_orderReachesClosing (hrecord : (s.lane ℓ).record = some r) (h : orderTakesBack s s ℓ = true)
    (hwithdraw : s.log.canWithdraw ℓ = true) : State.LaneMatched ℓ s (s.orderReachesClosing ℓ) := by
  have hclosing : (s.lane ℓ).state = .closing :=
    Decidable.byContradiction fun hn => by simp [orderTakesBack_of_not_closing hn] at h
  obtain ⟨v, hv⟩ : ∃ v, v = (s.withdrawOutcome ℓ).returnToLoading ℓ := ⟨_, rfl⟩
  have heq : s.orderReachesClosing ℓ = (v.setHold ℓ .order holdFinding).setResult ℓ .close .held := by
    rw [State.orderReachesClosing, if_pos hwithdraw, hv]
  have hback : State.ReturnedToLoading ℓ r (s.withdrawOutcome ℓ) v := hv ▸ State.returnedToLoading hrecord
  obtain ⟨f, hf⟩ := hback.lane
  have hadmits : (v.lane ℓ).state.admitsMember .order = true := by rw [hf]; rfl
  have hholds := State.setHold_holds (s := v) (ℓ := ℓ) holdFinding hadmits
  obtain ⟨g, hg⟩ := State.setHold_lane (s := v) (ℓ := ℓ) .order holdFinding (r := { r with findings := f })
    (congrArg Lane.record hf)
  have hlane : (s.orderReachesClosing ℓ).lane ℓ = { s.lane ℓ with
      state := .loading
      closing := none
      record := some { r with findings := g }
      holds := { (s.lane ℓ).holds with order := true, duty := (v.lane ℓ).holds.duty }
      dutyTimer := (v.lane ℓ).dutyTimer
      result := some (.close, .held) } := by
    rw [heq, State.lane_setResult, hg, hholds, hf]
    rfl
  have hstays (q : Reason) (hq : (q, false) ∈ v.attention) : (q, false) ∈ (s.orderReachesClosing ℓ).attention := by
    rw [heq]
    exact (((State.LaneOp.refl ℓ v).setHold .order holdFinding).setResult .close .held).stays q hq
  have hlog : (s.orderReachesClosing ℓ).log = (s.withdrawOutcome ℓ).log := by
    rw [heq]
    simp [hv]
  have hdone : (Reason.laneDone ℓ, false) ∈ (s.orderReachesClosing ℓ).attention := by
    rw [heq]
    exact State.laneDone_mem_setResult ..
  refine ⟨fun _ _ hst => by simp [hclosing] at hst, fun r' hr' _ => ?_, fun _ hn => by simp [h] at hn,
    fun hn => by simp [hn] at hrecord, ?_, ?_⟩
  · obtain rfl : r = r' := Option.some.inj (hrecord.symm.trans hr')
    refine ⟨⟨⟨g, ?_⟩, ?_, hdone⟩, congrArg (·.holds.order) hlane, congrArg (·.backlog) hlane⟩
    · rw [hlane]
    · exact hback.rearmed.congr rfl rfl (by rw [hlane]) (by rw [hlane]) hstays
  · rw [hlog, State.withdrawOutcome_log]
    simp [h]
  · rw [heq]
    have hline : noticesKept isDrawPlace s v := noticesKept_of_line hback.line
    have hresult : noticesKept isDrawPlace (v.setHold ℓ .order holdFinding)
        ((v.setHold ℓ .order holdFinding).setResult ℓ .close .held) := noticesKept_of_line (by simp)
    exact (hline.trans (noticesKept_setHold .order holdFinding)).trans hresult

theorem State.laneMatched (s : State) (ℓ : LaneId) : State.LaneMatched ℓ s (s.matchLane ℓ) := by
  cases hrecord : (s.lane ℓ).record with
  | none =>
    have heq : s.matchLane ℓ = s := by simp [State.matchLane, hrecord]
    rw [heq]
    exact .of_untouched (orderTakesBack_of_no_record hrecord) (.inl hrecord)
  | some r =>
    obtain ⟨hit, hhit⟩ : ∃ hit, hit = s.lists.holds.any (fun e => e.matchesRecord r) := ⟨_, rfl⟩
    have hopen (hst : (s.lane ℓ).state = .claiming ∨ (s.lane ℓ).state = .opened ∨ (s.lane ℓ).state = .loading) :
        State.LaneMatched ℓ s (s.matchLane ℓ) := by
      have heq : s.matchLane ℓ = if hit then s.setHold ℓ .order holdFinding else s.clearHold ℓ .order := by
        rcases hst with h | h | h <;> simp only [State.matchLane, hrecord, h, ← hhit]
      rw [heq]
      have hnot : (s.lane ℓ).state ≠ .closing := by rcases hst with h | h | h <;> simp [h]
      have hback := orderTakesBack_of_not_closing (t := s) hnot
      refine ⟨fun r' hr' _ => ?_, fun _ _ hn => by simp [hback] at hn, fun hn => (hnot hn).elim,
        fun hn => by simp [hn] at hrecord, ?_, ?_⟩
      · obtain rfl : r = r' := Option.some.inj (hrecord.symm.trans hr')
        rw [← hhit]
        cases hit with
        | true =>
          have hadmits : (s.lane ℓ).state.admitsMember .order = true := by rcases hst with h | h | h <;> rw [h] <;> rfl
          obtain ⟨f, hf⟩ := State.setHold_lane (s := s) (ℓ := ℓ) .order holdFinding hrecord
          exact ⟨f, by rw [if_pos rfl, hf, State.setHold_holds holdFinding hadmits]; rfl⟩
        | false =>
          refine ⟨r.findings, ?_⟩
          rw [if_neg (by simp), State.lane_clearHold, show some { r with findings := r.findings } = (s.lane ℓ).record from
            hrecord.symm]
          rfl
      · rw [DeliveryLog.without_of_all (by simp [hback])]
        split <;> simp
      · split
        · exact noticesKept_setHold .order holdFinding
        · exact noticesKept_of_line rfl
    cases hst : (s.lane ℓ).state with
    | vacant =>
      have heq : s.matchLane ℓ = s := by simp [State.matchLane, hrecord, hst]
      rw [heq]
      exact .of_untouched (orderTakesBack_of_not_closing (by simp [hst])) (.inr (.inl hst))
    | claiming => exact hopen (.inl hst)
    | opened => exact hopen (.inr (.inl hst))
    | loading => exact hopen (.inr (.inr hst))
    | closing =>
      cases hclosing : (s.lane ℓ).closing with
      | none =>
        have heq : s.matchLane ℓ = s := by simp [State.matchLane, hrecord, hst, hclosing]
        rw [heq]
        exact .of_untouched (orderTakesBack_of_no_closing hclosing) (.inr (.inr hst))
      | some c =>
        have hback := orderTakesBack_of_closing (t := s) hst hrecord hclosing
        rw [← hhit] at hback
        have heq : s.matchLane ℓ = if hit = true ∧ c.outcome = .released then s.orderReachesClosing ℓ else s := by
          simp only [State.matchLane, hrecord, hst, hclosing, ← hhit]
        by_cases htest : hit = true ∧ c.outcome = .released
        · rw [heq, if_pos htest]
          obtain ⟨h1, h2⟩ := htest
          rw [h1, h2, Bool.true_and, show (LoadOutcome.released == LoadOutcome.released) = true from rfl, Bool.true_and] at hback
          cases hwithdraw : s.log.canWithdraw ℓ with
          | true => exact State.laneMatched_orderReachesClosing hrecord (hback.trans hwithdraw) hwithdraw
          | false =>
            rw [State.orderReachesClosing, if_neg (by simp [hwithdraw])]
            exact .of_untouched (hback.trans hwithdraw) (.inr (.inr hst))
        · rw [heq, if_neg htest]
          refine .of_untouched (hback.trans ?_) (.inr (.inr hst))
          rw [Bool.and_eq_false_iff]
          left
          rw [Bool.and_eq_false_iff, beq_eq_false_iff_ne]
          by_cases h1 : hit = true
          · exact .inr fun h2 => htest ⟨h1, h2⟩
          · exact .inl (by simpa using h1)

theorem backToLoading.congr {s' t' : State} {o : ResultOutcome} (h : backToLoading s t ℓ r o) (hlane : s'.lane ℓ = s.lane ℓ)
    (hunit : s'.unit = s.unit) (hlane' : t'.lane ℓ = t.lane ℓ)
    (hstays : ∀ q, (q, false) ∈ t.attention → (q, false) ∈ t'.attention) : backToLoading s' t' ℓ r o := by
  obtain ⟨hafter, hrearmed, hdone⟩ := h
  refine ⟨?_, hrearmed.congr (by rw [hlane]) hunit (by rw [hlane']) (by rw [hlane']) hstays, hstays _ hdone⟩
  rw [hlane, hlane']
  exact hafter

/-- A re-matched lane stays as it is through what another lane's re-match does. -/
theorem State.LaneMatched.rematches {t' : State} (h : State.LaneMatched ℓ s t) (hlane : t'.lane ℓ = t.lane ℓ)
    (hlists : t'.lists = s.lists) (hstays : ∀ q, (q, false) ∈ t.attention → (q, false) ∈ t'.attention) :
    (∀ r, (s.lane ℓ).record = some r →
      ((s.lane ℓ).state = .claiming ∨ (s.lane ℓ).state = .opened ∨ (s.lane ℓ).state = .loading) →
      ∃ f, t'.lane ℓ = { s.lane ℓ with
        holds := { (s.lane ℓ).holds with order := t'.lists.holds.any (fun e => e.matchesRecord r) }
        record := some { r with findings := f } }) ∧
    (∀ r, (s.lane ℓ).record = some r → orderTakesBack s t' ℓ = true →
      backToLoading s t' ℓ r .held ∧ (t'.lane ℓ).holds.order = true ∧ (t'.lane ℓ).backlog = (s.lane ℓ).backlog) ∧
    ((s.lane ℓ).state = .closing → orderTakesBack s t' ℓ = false → t'.lane ℓ = s.lane ℓ) ∧
    ((s.lane ℓ).record = none → t'.lane ℓ = s.lane ℓ) := by
  have hback : orderTakesBack s t' ℓ = orderTakesBack s s ℓ := orderTakesBack_congr rfl hlists rfl
  rw [hback, hlists, hlane]
  refine ⟨h.follows, fun r hr ht => ?_, h.closing, h.empty⟩
  obtain ⟨hload, horder, hbacklog⟩ := h.taken r hr ht
  exact ⟨hload.congr rfl rfl hlane hstays, horder, hbacklog⟩

theorem StageWrite.not_isOutcomeOf_b {w : StageWrite} (h : w.isOutcomeOf .b = true) : w.isOutcomeOf .a = false := by
  simp only [StageWrite.isOutcomeOf, Bool.and_eq_true, beq_iff_eq] at h
  simp [StageWrite.isOutcomeOf, h.1]

/-- Lane a's re-match leaves lane b's outcome stage where it waits. -/
theorem State.LaneMatched.canWithdraw_b (h : State.LaneMatched .a s t) : t.log.canWithdraw .b = s.log.canWithdraw .b := by
  rw [h.log, DeliveryLog.canWithdraw, DeliveryLog.unbegun_without, List.any_filter, DeliveryLog.canWithdraw]
  congr 1
  funext w
  cases hw : w.isOutcomeOf .b with
  | false => rw [Bool.and_false]
  | true => rw [StageWrite.not_isOutcomeOf_b hw, Bool.and_false, Bool.not_false, Bool.true_and]

theorem rematched_matchLanes (s : State) : rematched s s.matchLanes := by
  obtain ⟨v, hv⟩ : ∃ v, v = s.matchLane .a := ⟨_, rfl⟩
  have heq : s.matchLanes = v.matchLane .b := by rw [State.matchLanes, hv]
  have hopA : State.LaneOp .a s v := hv ▸ (State.LaneOp.refl .a s).matchLane
  have hopB : State.LaneOp .b v s.matchLanes := heq ▸ (State.LaneOp.refl .b v).matchLane
  have hA : State.LaneMatched .a s v := hv ▸ s.laneMatched .a
  have hB : State.LaneMatched .b v s.matchLanes := heq ▸ v.laneMatched .b
  have hlists : v.lists = s.lists := by simp [hv]
  have hlists' : s.matchLanes.lists = s.lists := by simp
  have hbackA : orderTakesBack s s.matchLanes .a = orderTakesBack s s .a := orderTakesBack_congr rfl hlists' rfl
  have hbackB : orderTakesBack s s.matchLanes .b = orderTakesBack v v .b :=
    (orderTakesBack_congr hopA.other (hlists.trans hlists'.symm) hA.canWithdraw_b).symm
  obtain ⟨hfollowsA, htakenA, hclosingA, hemptyA⟩ := hA.rematches (t' := s.matchLanes) hopB.other hlists' hopB.stays
  obtain ⟨hfollowsB, htakenB, hclosingB, hemptyB⟩ := hB.rematches rfl (hlists'.trans hlists.symm) fun _ => id
  have hlaneB : v.lane .b = s.lane .b := hopA.other
  have hvback : orderTakesBack v s.matchLanes .b = orderTakesBack s s.matchLanes .b :=
    (orderTakesBack_congr rfl (hlists'.trans hlists.symm) rfl).trans hbackB.symm
  rw [hvback] at htakenB hclosingB
  rw [hlaneB] at hfollowsB htakenB hclosingB hemptyB
  refine ⟨fun ℓ => ?_, fun ℓ => ?_, fun ℓ => ?_, fun ℓ => ?_, hopA.chans.trans hopB.chans, ?_, by simp, by simp, by simp, by simp⟩
  · cases ℓ with
    | a => exact hfollowsA
    | b => exact hfollowsB
  · cases ℓ with
    | a => exact htakenA
    | b =>
      intro r hr ht
      obtain ⟨hload, horder, hbacklog⟩ := htakenB r hr ht
      exact ⟨hload.congr hlaneB.symm (by simp [hv]) rfl fun _ => id, horder, hbacklog⟩
  · cases ℓ with
    | a => exact hclosingA
    | b => exact hclosingB
  · cases ℓ with
    | a => exact hemptyA
    | b => exact hemptyB
  · show _ = s.log.without fun w => !(orderTakesBack s s.matchLanes .a && w.isOutcomeOf .a) &&
      !(orderTakesBack s s.matchLanes .b && w.isOutcomeOf .b)
    rw [hB.log, hA.log, DeliveryLog.without_without, hbackA, hbackB]

theorem noticesKept_matchLanes (s : State) : noticesKept isDrawPlace s s.matchLanes :=
  (s.laneMatched .a).notices.trans ((s.matchLane .a).laneMatched .b).notices

theorem lineKept_matchLanes (s : State) : lineKept s s.matchLanes :=
  ((State.LaneOp.refl .a s).matchLane.line).trans ((State.LaneOp.refl .b (s.matchLane .a)).matchLane.line)

/-- The lanes' part of a state: what a re-match reads and writes. -/
structure State.SameLoads (s t : State) : Prop where
  lanes : t.lanes = s.lanes
  channels : t.channels = s.channels
  log : t.log = s.log
  unit : t.unit = s.unit
  released : t.released = s.released
  pins : t.pins = s.pins
  pending : t.pending = s.pending

theorem rematched.congr {s' t' : State} (h : rematched s t) (hs : State.SameLoads s s') (ht : State.SameLoads t t')
    (hlists : t'.lists.holds = t.lists.holds) (hattention : t'.attention = t.attention) : rematched s' t' := by
  obtain ⟨hfollows, htaken, hclosing, hempty, hchans, hlog, hreleased, hpins, hunit, hpending⟩ := h
  have hlane (ℓ : LaneId) : s'.lane ℓ = s.lane ℓ := by rw [State.lane, State.lane, hs.lanes]
  have hlane' (ℓ : LaneId) : t'.lane ℓ = t.lane ℓ := by rw [State.lane, State.lane, ht.lanes]
  have hback (ℓ : LaneId) : orderTakesBack s' t' ℓ = orderTakesBack s t ℓ := by
    unfold orderTakesBack
    rw [hlane, hlists, hs.log]
  refine ⟨fun ℓ => ?_, fun ℓ r hr hb => ?_, fun ℓ => ?_, fun ℓ => ?_, fun c hc => ?_, ?_, ?_, ?_, ?_, ?_⟩
  · rw [hlane, hlane', hlists]
    exact hfollows ℓ
  · rw [hlane] at hr
    rw [hback] at hb
    obtain ⟨hload, horder, hbacklog⟩ := htaken ℓ r hr hb
    rw [hlane', hlane]
    exact ⟨hload.congr (hlane ℓ) hs.unit (hlane' ℓ) fun q => hattention ▸ id, horder, hbacklog⟩
  · rw [hlane, hlane', hback]
    exact hclosing ℓ
  · rw [hlane, hlane']
    exact hempty ℓ
  · have hchan : s'.chan c = s.chan c := by rw [State.chan, State.chan, hs.channels]
    rw [hchan] at hc ⊢
    rw [State.chan, ht.channels]
    exact hchans c hc
  · rw [ht.log, hs.log, hback, hback]
    exact hlog
  · rw [ht.released, hreleased, hs.released]
  · rw [ht.pins, hpins, hs.pins]
  · rw [ht.unit, hunit, hs.unit]
  · rw [ht.pending, hpending, hs.pending]

end Rematched

end Sys2Proof.Machine

namespace Sys2Proof.Machine

/-! ## Proofs: the Hold List and the notices that change it (chapter 5), with the taking of a heard notice (chapter 7) -/

section Heard

variable {s t u : State} {kind a : Nat} {body : List Byte}

/-! ### Taking the oldest notice (R136, R146) -/

/-- The state in which the rule of a heard notice is applied: the notice has left the queue and its sender's row is valid
(R146 steps 3 and 4). -/
def State.heardFrom (s : State) (a : Nat) : State := s.dropFront.validate a

theorem State.front?_of_hears (h : hears s kind a body) : s.front? kind = some ⟨kind, a, body⟩ := by
  obtain ⟨hon, hhead⟩ := h
  obtain ⟨rest, hqueue⟩ := List.head?_eq_some_iff.1 hhead
  simp [State.front?, hqueue, hon]

theorem State.hear_of_hears {α : Type} {form : List Byte → Option α} {x : α} (act : Nat → α → State → State)
    (h : hears s kind a body) (hform : form body = some x) (ha : a ≠ s.unit.address) :
    s.hear kind form act = act a x (s.heardFrom a) := by
  simp [State.hear, State.front?_of_hears h, hform, State.isEcho, ha, State.heardFrom]

theorem State.hear_of_echo {α : Type} {form : List Byte → Option α} {x : α} (act : Nat → α → State → State)
    (h : hears s kind s.unit.address body) (hform : form body = some x) : s.hear kind form act = s.dropFront := by
  simp [State.hear, State.front?_of_hears h, hform, State.isEcho]

theorem State.hearOther_of_hears {α : Type} {form : List Byte → Option α} {x : α} (act : Nat → α → State → State)
    (h : hears s kind a body) (hform : form body = some x) (ha : a ≠ s.unit.address) :
    s.hearOther kind form act = act a x (s.heardFrom a) := by
  simp [State.hearOther, State.front?_of_hears h, hform, State.isEcho, ha, State.heardFrom]

theorem State.hearEcho_of_hears {α : Type} {form : List Byte → Option α} {x : α} (act : α → State → State)
    (h : hears s kind s.unit.address body) (hform : form body = some x) : s.hearEcho kind form act = act x s.dropFront := by
  simp [State.hearEcho, State.front?_of_hears h, hform, State.isEcho]

theorem State.frontIs_of_hears (h : hears s kind a body) (p : List Byte → Bool) : s.frontIs kind p = p body := by
  simp [State.frontIs, State.front?_of_hears h]

@[simp] theorem State.heardFrom_frame (a : Nat) :
    (s.heardFrom a).pending = s.pending ∧ (s.heardFrom a).pins = s.pins ∧ (s.heardFrom a).unit = s.unit ∧
    (s.heardFrom a).lanes = s.lanes ∧ (s.heardFrom a).channels = s.channels ∧ (s.heardFrom a).released = s.released ∧
    (s.heardFrom a).log = s.log ∧ (s.heardFrom a).port = s.port ∧ (s.heardFrom a).attention = s.attention ∧
    (s.heardFrom a).freeCount = s.freeCount := by simp [State.heardFrom]

@[simp] theorem State.lane_heardFrom (a : Nat) (ℓ : LaneId) : (s.heardFrom a).lane ℓ = s.lane ℓ := by simp [State.lane]
@[simp] theorem State.chan_heardFrom (a : Nat) (c : ChanId) : (s.heardFrom a).chan c = s.chan c := by simp [State.chan]

theorem State.heardFrom_line (s : State) (a : Nat) :
    (s.heardFrom a).line = { s.line with receiveQueue := s.line.receiveQueue.drop 1 } := by
  simp [State.heardFrom, State.dropFront]

@[simp] theorem State.noticeAt_heardFrom (a : Nat) (p : Place) : (s.heardFrom a).noticeAt p = s.noticeAt p := by
  rw [State.noticeAt, s.heardFrom_line]
  rfl

theorem State.heardFrom_lists (s : State) (a : Nat) : (s.heardFrom a).lists = listsHeard s a := by
  show (State.validate _ a).lists = _
  unfold State.validate listsHeard
  dsimp only
  show (if (s.view.row a).valid then s.dropFront else _).lists = _
  split <;> rfl

/-- A row that is not the row after reset is listed in any view (R142). -/
theorem PeerView.row_setRow (v : PeerView) (a b : Nat) {r : PeerRow} (hr : r.valid = true) :
    (v.setRow a r).row b = if b = a then r else v.row b := by
  have hne : r ≠ PeerRow.reset := fun h => by simp [h, PeerRow.reset] at hr
  unfold PeerView.row PeerView.setRow Assoc.put
  rw [if_neg hne]
  exact Assoc.get_insert ..

theorem State.heardFrom_view (s : State) (a : Nat) : (s.heardFrom a).view = s.view.setRow a (rowHeard s a) := by
  show (State.validate _ a).view = _
  unfold State.validate rowHeard
  show (State.view (if (s.view.row a).valid then s.dropFront else _)).setRow a
    { (if (s.view.row a).valid then s.view.row a else _) with missed := 0, lastHeard := s.unit.clock } = _
  cases h : (s.view.row a).valid with
  | true =>
    rw [if_pos rfl, if_pos rfl, if_pos rfl]
    show s.view.setRow a { s.view.row a with missed := 0, lastHeard := s.unit.clock } =
      s.view.setRow a { s.view.row a with valid := true, missed := 0, lastHeard := s.unit.clock }
    rw [← h]
  | false => rfl

theorem rowHeard_valid (s : State) (a : Nat) : (rowHeard s a).valid = true := rfl

theorem State.heardFrom_row (s : State) (a b : Nat) :
    (s.heardFrom a).view.row b = if b = a then rowHeard s a else s.view.row b := by
  rw [s.heardFrom_view, PeerView.row_setRow _ _ _ (rowHeard_valid s a)]

theorem rowsKept_heardFrom (s : State) (a : Nat) : rowsKept s (s.heardFrom a) a :=
  ⟨fun b hb => by rw [s.heardFrom_row, if_neg hb], by rw [s.heardFrom_view]; rfl, by rw [s.heardFrom_view]; rfl,
    by rw [s.heardFrom_view]; rfl⟩

/-- The row of the sender after a further change that keeps it valid, the view being otherwise the same. -/
theorem State.heardFrom_modRow (s : State) (a : Nat) {f : PeerRow → PeerRow} (hf : (f (rowHeard s a)).valid = true) :
    ((s.heardFrom a).modRow a f).view.row a = f (rowHeard s a) ∧ rowsKept s ((s.heardFrom a).modRow a f) a := by
  have hself : (s.heardFrom a).view.row a = rowHeard s a := by rw [s.heardFrom_row, if_pos rfl]
  have hview : ((s.heardFrom a).modRow a f).view = (s.heardFrom a).view.setRow a (f (rowHeard s a)) := by
    rw [State.modRow, hself]
    rfl
  obtain ⟨hrows, hresync, hjoining, hrefresh⟩ := rowsKept_heardFrom s a
  refine ⟨by rw [hview, PeerView.row_setRow _ _ _ hf, if_pos rfl], fun b hb => ?_, ?_, ?_, ?_⟩
  · rw [hview, PeerView.row_setRow _ _ _ hf, if_neg hb, hrows b hb]
  · rw [hview]
    exact hresync
  · rw [hview]
    exact hjoining
  · rw [hview]
    exact hrefresh

theorem lineHeard_of_lineKept (h : lineKept (s.heardFrom a) t) : lineHeard s t := by
  rw [lineKept, s.heardFrom_line] at h
  exact h

theorem lineHeard_dropFront (s : State) : lineHeard s s.dropFront := rfl

theorem rowsKept.congr (h : rowsKept s t a) (hview : u.view = t.view) : rowsKept s u a := by
  rw [rowsKept, hview]
  exact h

end Heard

section HoldList

variable {s t u : State}

theorem Lists.freeOrders_of_lowest {l : Lists} {n : Nat} (hn : n < 8) (hfree : l.order n = .free)
    (hlow : ∀ m, m < n → l.order m ≠ .free) : ∃ rest, l.freeOrders = n :: rest := by
  apply List.head?_eq_some_iff.1
  rw [Lists.freeOrders, List.head?_filter, List.find?_range_eq_some]
  exact ⟨by simp [hfree], by simpa using hn, fun m hm => by simpa using hlow m hm⟩

theorem Lists.order_setOrder (l : Lists) (n m : Nat) {o : OrderSlot} (ho : o ≠ .free) :
    (l.setOrder n o).order m = if m = n then o else l.order m := by
  unfold Lists.order Lists.setOrder Assoc.put
  rw [if_neg ho]
  exact Assoc.get_insert ..

@[simp] theorem State.lists_answersOk {r : Request} (body : List Byte) : (s.answersOk r body).lists = s.lists := rfl

/-- A re-match after a change of the lists and the Send Queue alone, its own changes kept. -/
theorem rematched_of_sameLoads (hs : State.SameLoads s u) (ht : State.SameLoads u.matchLanes t)
    (hlists : t.lists.holds = u.lists.holds) (hattention : t.attention = u.matchLanes.attention) : rematched s t :=
  (rematched_matchLanes u).congr ⟨hs.lanes.symm, hs.channels.symm, hs.log.symm, hs.unit.symm, hs.released.symm, hs.pins.symm,
    hs.pending.symm⟩ ht (by rw [hlists]; simp) hattention

/-- Settles O40. -/
theorem holdIssueTakesTheLowestSlot : Obligations.HoldIssueTakesTheLowestSlot := by
  intro ops k s n kind key htakes hjoined hkey hn hfree hlow hroom
  obtain ⟨rest, hrest⟩ := Lists.freeOrders_of_lowest hn hfree hlow
  obtain ⟨reason, hreason⟩ : ∃ x, x = field ops 5 1 := ⟨_, rfl⟩
  have hown : ownHoldIssue ops s = okReply (s.acceptHoldIssue n kind key reason) (be 1 n) := by
    simp [ownHoldIssue, hjoined, hkey, hrest, Nat.not_le.2 (show s.lists.holds.length < Config.holdMax from hroom), hreason]
  obtain ⟨l, hl⟩ : ∃ l : Lists, l = { s.lists.setOrder n (.active kind key reason) with
      holds := s.lists.holds ++ [⟨s.unit.address, n, kind, key, reason, false, 0⟩] } := ⟨_, rfl⟩
  obtain ⟨v, hv⟩ : ∃ v, v = (s.setLists l).queueNotice (.hold true n kind key reason) := ⟨_, rfl⟩
  have heq : s.acceptHoldIssue n kind key reason = v.matchLanes := by rw [hv, hl]; rfl
  have hlists : v.matchLanes.lists = l := by simp [hv]
  have hkept := noticesKept_matchLanes v
  have hnotice : v.matchLanes.noticeAt (.hold n) = v.noticeAt (.hold n) := hkept _ fun ⟨_, h⟩ => by cases h
  rw [← hreason]
  refine ⟨_, exec_of_accepted (i := .holdIssue ops k) rfl htakes hjoined (congrArg atOnce hown), rfl, ?_, fun m => ?_,
    fun hnone => ?_, ?_, ?_, ?_, ?_⟩
  · rw [heq]
    rw [State.lists_answersOk, hlists, hl]
    rfl
  · rw [heq]
    show v.matchLanes.lists.order m = _
    rw [hlists, hl]
    exact Lists.order_setOrder _ _ _ (o := .active kind key reason) nofun
  · rw [heq, State.noticeAt_answersOk, hnotice, hv, State.noticeAt_queueNotice, if_pos ⟨rfl, hnone⟩]
  · rw [heq]
    exact rematched_of_sameLoads (u := v) (by constructor <;> simp [hv]) (by constructor <;> simp) (by simp) (by simp)
  · rw [heq]
    exact ((lineKept_of_eq rfl).trans (by rw [hv]; exact lineKept_queueNotice _)).trans (lineKept_matchLanes v)
  · rw [heq]
    have hqueue : noticesKept (· = Place.hold n) s v := by
      rw [hv]
      exact noticesKept_queueNotice (s.setLists l) (.hold true n kind key reason)
    exact (hqueue.mono fun _ => .inl).trans (hkept.mono fun _ => .inr)
  · simp [heq, hv]

/-- Settles O41. -/
theorem holdCancelWithdrawsTheOrder : Obligations.HoldCancelWithdrawsTheOrder := by
  intro ops k s n kind key reason htakes hjoined hn hle horder
  have hown : ownHoldCancel ops s = okReply (s.acceptHoldCancel n kind key reason) [] := by
    simp [ownHoldCancel, hjoined, ← hn, Nat.not_lt.2 hle, horder]
  obtain ⟨v, hv⟩ : ∃ v, v = s.setLists (s.lists.dropHold s.unit.address n) := ⟨_, rfl⟩
  obtain ⟨w, hw⟩ : ∃ w, w = v.matchLanes.setLists (v.matchLanes.lists.setOrder n (.cancelling kind key reason)) := ⟨_, rfl⟩
  have heq : s.acceptHoldCancel n kind key reason =
      (w.removeNotice (.hold n)).queueNotice (.hold false n kind key reason) := by rw [hw, hv]; rfl
  have hwnotice : w.noticeAt (.hold n) = s.noticeAt (.hold n) := by
    rw [hw]
    exact (noticesKept_matchLanes v (.hold n) fun ⟨_, h⟩ => by cases h).trans (by rw [hv]; rfl)
  have hafter : ((w.removeNotice (.hold n)).queueNotice (.hold false n kind key reason)).lists =
      (s.lists.dropHold s.unit.address n).setOrder n (.cancelling kind key reason) := by
    simp [hw, hv]
  rw [heq] at hown
  refine ⟨_, exec_of_accepted (i := .holdCancel ops k) rfl htakes hjoined (congrArg atOnce hown), rfl, ?_, fun m => ?_,
    fun hbegun => ?_, fun hbegun => ?_, ?_, ?_, ?_, ?_⟩
  · rw [State.lists_answersOk, hafter]
    rfl
  · show (State.lists (State.queueNotice _ _)).order m = _
    rw [hafter]
    exact Lists.order_setOrder _ _ _ (o := .cancelling kind key reason) nofun
  · have hnone : (w.removeNotice (.hold n)).noticeAt (.hold n) = none := by
      rw [State.noticeAt_removeNotice, if_pos ⟨rfl, by rw [State.begunAt_congr hwnotice, hbegun]⟩]
    rw [State.noticeAt_answersOk, State.noticeAt_queueNotice, if_pos ⟨rfl, hnone⟩]
  · have hkept : (w.removeNotice (.hold n)).noticeAt (.hold n) = s.noticeAt (.hold n) := by
      rw [State.noticeAt_removeNotice, if_neg (by simp [State.begunAt_congr hwnotice, hbegun]), hwnotice]
    rw [State.noticeAt_answersOk, State.noticeAt_queueNotice, if_neg, hkept]
    rw [hkept]
    exact fun h => State.noticeAt_ne_none_of_begunAt hbegun h.2
  · exact rematched_of_sameLoads (u := v) (by constructor <;> simp [hv]) (by constructor <;> simp [hw])
      (by simp [hw, Lists.setOrder]) (by simp [hw])
  · have hwline : lineKept s w :=
      (lineKept_of_eq (by rw [hv]; rfl)).trans ((lineKept_matchLanes v).trans (lineKept_of_eq (by rw [hw]; rfl)))
    exact (hwline.trans (lineKept_removeNotice _)).trans (lineKept_queueNotice _)
  · have hwkept : noticesKept isDrawPlace s w :=
      noticesKept.trans (noticesKept_of_line (by rw [hv]; rfl))
        ((noticesKept_matchLanes v).trans (noticesKept_of_line (by rw [hw]; rfl)))
    have hremove : noticesKept (· = Place.hold n) w (w.removeNotice (.hold n)) := noticesKept_removeNotice _
    have hqueue := noticesKept_queueNotice (w.removeNotice (.hold n)) (.hold false n kind key reason)
    exact ((hwkept.mono fun _ => .inr).trans (hremove.mono fun _ => .inl)).trans (hqueue.mono fun _ => .inl)
  · simp [hw, hv]

/-- Settles O42. -/
theorem listRequestsAct : Obligations.ListRequestsAct := by
  refine ⟨?_, ?_, ?_, ?_, ?_⟩
  · intro ops k s e htakes hjoined haddress hown' hnumber hhold horphan
    obtain ⟨v, hv⟩ : ∃ v, v = s.setLists (s.lists.dropHold (field ops 0 1) (field ops 1 1)) := ⟨_, rfl⟩
    have hown : ownHoldDrop ops s = okReply v.matchLanes
        (be 1 (s.lists.dropHold (field ops 0 1) (field ops 1 1)).holds.length) := by
      have hn : ¬ (31 < field ops 0 1 ∨ field ops 0 1 = s.unit.address ∨ 7 < field ops 1 1) := by omega
      simp only [ownHoldDrop, hjoined, if_neg hn, hhold, horphan, hv]
      simp
    refine ⟨_, _, exec_of_accepted (i := .holdDrop ops k) rfl htakes hjoined (congrArg atOnce hown), rfl, ?_, rfl, ?_, ?_, ?_,
      ?_⟩
    · show v.matchLanes.lists = _
      simp only [State.matchLanes_frame, hv]
      rfl
    · exact rematched_of_sameLoads (u := v) (by constructor <;> simp [hv]) (by constructor <;> simp) (by simp) (by simp)
    · rw [hv]
      exact (lineKept_of_eq rfl).trans (lineKept_matchLanes _)
    · rw [hv]
      exact noticesKept.trans (noticesKept_of_line rfl) (noticesKept_matchLanes _)
    · simp [hv]
  · intro ops k s htakes hjoined haddress hown' hstop hwf
    refine ⟨(s.lists.setStop (field ops 0 1) .absent).stops, fun a => Lists.stop_setStop _ hwf .., ?_⟩
    have hn : ¬ (31 < field ops 0 1 ∨ field ops 0 1 = s.unit.address) := by omega
    refine exec_of_accepted (i := .stopDrop ops k) rfl htakes hjoined (congrArg atOnce ?_)
    simp only [ownStopDrop, hjoined, if_neg hn, hstop]
    rfl
  · intro ops k s kind key htakes hjoined hkey hmode
    refine exec_of_accepted (i := .watchSet ops k) rfl htakes hjoined (congrArg atOnce ?_)
    have hwatch : watchMode (field ops 5 1) = some (field ops 5 1 == 1) := by
      obtain h | h : field ops 5 1 = 0 ∨ field ops 5 1 = 1 := by omega
      · rw [h]; rfl
      · rw [h]; rfl
    simp [ownWatchSet, hjoined, hkey, hwatch]
  · intro k s htakes hjoined
    refine exec_of_accepted (i := .watchClear [] k) rfl htakes hjoined (congrArg atOnce ?_)
    simp [ownWatchClear, hjoined]
  · intro ops k s ℓ htakes hjoined hlane hwatch
    refine exec_of_accepted (i := .unholdWatch ops k) rfl htakes hjoined (congrArg atOnce ?_)
    simp [ownUnholdWatch, hjoined, hlane, hwatch]
    rfl

/-! ### Heard HOLD notices (R111 to R113) -/

theorem HoldEntry.isFor_iff {e : HoldEntry} {a n : Nat} : e.isFor a n = true ↔ e.origin = a ∧ e.order = n := by
  simp [HoldEntry.isFor]

theorem Lists.map_reissue (holds : List HoldEntry) (a n : Nat) (kind : KeyKind) (key reason : Nat) :
    holds.map (fun x => if x.isFor a n then x.reissue kind key reason else x) =
      holds.map (fun x => if x.origin = a ∧ x.order = n then ⟨a, n, kind, key, reason, false, 0⟩ else x) := by
  apply List.map_congr_left
  intro x _
  by_cases h : x.origin = a ∧ x.order = n
  · rw [if_pos (HoldEntry.isFor_iff.2 h), if_pos h, HoldEntry.reissue, ← h.1, ← h.2]
  · rw [if_neg fun h' => h (HoldEntry.isFor_iff.1 h'), if_neg h]

theorem isHold_of_parse {body : List Byte} {issue : Bool} {x : Nat × KeyKind × Nat × Nat}
    (h : parseHold body = some (issue, x)) (b : Bool) : isHold b body = (issue == b) := by
  simp [isHold, h]

theorem sameLoads_heardFrom (s : State) (a : Nat) : State.SameLoads s (s.heardFrom a) := by constructor <;> simp

/-- What a re-match of the lists of a heard notice's state makes of the state in which the notice was taken. -/
theorem State.rematched_heardFrom (s : State) (a : Nat) (l : Lists) : rematched s ((s.heardFrom a).setLists l).matchLanes :=
  rematched_of_sameLoads (u := (s.heardFrom a).setLists l) (by constructor <;> simp) (by constructor <;> rfl) (by simp) rfl

theorem State.lineHeard_matchLanes (s : State) (a : Nat) (l : Lists) :
    lineHeard s ((s.heardFrom a).setLists l).matchLanes :=
  lineHeard_of_lineKept (a := a) ((lineKept_of_eq rfl).trans (lineKept_matchLanes _))

/-- Settles O43. -/
theorem holdNoticesChangeTheHoldList : Obligations.HoldNoticesChangeTheHoldList := by
  refine ⟨?_, ?_, ?_, ?_⟩
  · intro s a n body kind key reason hhears hparse ha
    have hexec : exec .holdIssueHeard s = .next ((s.heardFrom a).hearIssue a n kind key reason) := by
      show Host.Outcome.next _ = _
      rw [State.frontIs_of_hears hhears, isHold_of_parse hparse, if_neg (by simp), State.hear_of_hears actHold hhears hparse ha]
      rfl
    have hrow : (s.heardFrom a).view.row a = rowHeard s a := by rw [s.heardFrom_row, if_pos rfl]
    have hrows := rowsKept_heardFrom s a
    have hlists := s.heardFrom_lists a
    obtain ⟨l, hl⟩ : ∃ l, l = listsHeard s a := ⟨_, rfl⟩
    rw [← hl] at hlists
    refine ⟨_, l, hexec, hl, by simpa using hrow, hrows.congr (by simp), ?_, by simp, fun e he => ?_, fun hnone hroom => ?_,
      fun hnone hfull => ?_⟩
    · unfold State.hearIssue
      split
      · dsimp only
        split
        · exact lineHeard_of_lineKept (a := a) (lineKept_of_eq rfl)
        · exact s.lineHeard_matchLanes a _
      · split
        · exact s.lineHeard_matchLanes a _
        · exact lineHeard_of_lineKept (a := a) (lineKept_of_eq rfl)
    · obtain ⟨l', hl'⟩ : ∃ l' : Lists, l' = { l with holds := l.holds.map (fun x =>
          if x.origin = a ∧ x.order = n then ⟨a, n, kind, key, reason, false, 0⟩ else x) } := ⟨_, rfl⟩
      have heq : (s.heardFrom a).hearIssue a n kind key reason =
          if e.kind = kind ∧ e.key = key then (s.heardFrom a).setLists l' else ((s.heardFrom a).setLists l').matchLanes := by
        unfold State.hearIssue
        simp only [hlists, he, Lists.map_reissue, ← hl']
      rw [heq, ← hl']
      refine ⟨?_, fun hkind hkey => ?_, fun hne => ?_⟩
      · split <;> simp
      · rw [if_pos ⟨hkind, hkey⟩]
        simp
      · rw [if_neg fun h => hne.elim (fun hk => hk h.1) fun hk => hk h.2]
        exact s.rematched_heardFrom a l'
    · have heq : (s.heardFrom a).hearIssue a n kind key reason = ((s.heardFrom a).setLists
          { l with holds := l.holds ++ [⟨a, n, kind, key, reason, false, 0⟩] }).matchLanes := by
        unfold State.hearIssue
        simp only [hlists, hnone, if_pos (show l.holds.length < Config.holdMax from hroom)]
      rw [heq]
      exact ⟨by simp, s.rematched_heardFrom a _⟩
    · have heq : (s.heardFrom a).hearIssue a n kind key reason = (s.heardFrom a).attend .holdListFull := by
        unfold State.hearIssue
        simp only [hlists, hnone, if_neg (Nat.not_lt.2 (show Config.holdMax ≤ l.holds.length from hfull))]
      rw [heq]
      exact ⟨by simpa using hlists, by simp, by simp, by simp [State.attend]⟩
  · intro s a n body kind key reason hhears hparse ha
    have hexec : exec .holdCancelHeard s = .next ((s.heardFrom a).hearCancel a n) := by
      show Host.Outcome.next _ = _
      rw [State.frontIs_of_hears hhears, isHold_of_parse hparse, if_neg (by simp), State.hear_of_hears actHold hhears hparse ha]
      rfl
    have hrow : (s.heardFrom a).view.row a = rowHeard s a := by rw [s.heardFrom_row, if_pos rfl]
    have hrows := rowsKept_heardFrom s a
    have hlists := s.heardFrom_lists a
    obtain ⟨l, hl⟩ : ∃ l, l = listsHeard s a := ⟨_, rfl⟩
    rw [← hl] at hlists
    refine ⟨_, l, hexec, hl, by simpa using hrow, hrows.congr (by simp), ?_, by simp, fun hsome => ?_, fun hnone => ?_⟩
    · unfold State.hearCancel
      split
      · exact s.lineHeard_matchLanes a _
      · exact lineHeard_of_lineKept (a := a) (lineKept_of_eq rfl)
    · obtain ⟨e, he⟩ := Option.ne_none_iff_exists'.1 hsome
      have heq : (s.heardFrom a).hearCancel a n = ((s.heardFrom a).setLists (l.dropHold a n)).matchLanes := by
        unfold State.hearCancel
        simp only [hlists, he]
      rw [heq]
      exact ⟨by simp [Lists.dropHold, HoldEntry.isFor], s.rematched_heardFrom a _⟩
    · have heq : (s.heardFrom a).hearCancel a n = s.heardFrom a := by
        unfold State.hearCancel
        simp only [hlists, hnone]
      rw [heq]
      exact ⟨hlists, by simp, by simp, by simp⟩
  · intro s body issue x hhears hparse
    cases issue with
    | true =>
      show Host.Outcome.next _ = _
      rw [State.frontIs_of_hears hhears, isHold_of_parse hparse, if_neg (by simp), State.hear_of_echo actHold hhears hparse]
      rfl
    | false =>
      show Host.Outcome.next _ = _
      rw [State.frontIs_of_hears hhears, isHold_of_parse hparse, if_neg (by simp), State.hear_of_echo actHold hhears hparse]
      rfl
  · intro s a n e hreset hhold horphan hmissed ha
    obtain ⟨v, hv⟩ : ∃ v, v = s.setLists (s.lists.dropHold a n) := ⟨_, rfl⟩
    have hfor : e.isFor a n = true := by
      unfold Lists.hold? at hhold
      simpa using List.find?_some hhold
    have horigin : e.origin = a := (HoldEntry.isFor_iff.1 hfor).1
    have hlapsed : s.holdLapsed e = true := by simp [State.holdLapsed, hreset, horphan, hmissed, horigin, ha]
    have hexec : exec (.holdEntryLapse a n) s = .next v.matchLanes := by
      show execHoldEntryLapse a n s = _
      simp only [execHoldEntryLapse, hhold, hlapsed, if_pos, hv]
    refine ⟨_, hexec, by simp [hv, Lists.dropHold, HoldEntry.isFor], ?_, ?_, ?_, by simp [hv], by simp [hv]⟩
    · exact rematched_of_sameLoads (u := v) (by constructor <;> simp [hv]) (by constructor <;> rfl) (by simp) rfl
    · exact (lineKept_of_eq (by rw [hv]; rfl)).trans (lineKept_matchLanes v)
    · exact noticesKept.trans (noticesKept_of_line (by rw [hv]; rfl)) (noticesKept_matchLanes v)

end HoldList

end Sys2Proof.Machine

namespace Sys2Proof.Machine

/-! ## Proofs: the reclaim window (chapter 1) -/

section Reclaim

variable {s t u : State} {ℓ : LaneId} {r : LoadRecord} {cfg : Configuration}

@[simp] theorem State.lane_setDuty (d : Option DutyResult) :
    (s.setDuty ℓ d).lane ℓ = { s.lane ℓ with record := (s.lane ℓ).record.map fun r => { r with duty := d } } := by
  simp [State.setDuty, State.modRecord]

@[simp] theorem State.lane_stopTimer : (s.stopTimer ℓ).lane ℓ = { s.lane ℓ with dutyTimer := none } := by
  simp [State.stopTimer]

/-- What the recomputation for a new driver makes of a LOADING lane (R71). -/
structure State.Recomputed (ℓ : LaneId) (r : LoadRecord) (cfg : Configuration) (s t : State) : Prop where
  passes : ∀ d, recordDuty cfg r s.minute = some (.pass d) → s.minute ≤ d.latest →
    ∃ f, t.lane ℓ = { s.lane ℓ with
      record := some { r with findings := f, duty := some d }
      dutyTimer := some ⟨d.latest, d.setBy, decide (d.latest ≤ s.minute + s.warn)⟩ }
  fails : ∀ o, recordDuty cfg r s.minute = some o → (∀ d, o ≠ .pass d) →
    ∃ f, t.lane ℓ = { s.lane ℓ with
      record := some { r with findings := f, duty := none }
      dutyTimer := none
      holds := { (s.lane ℓ).holds with duty := true } }
  absent : recordDuty cfg r s.minute = none → t.lane ℓ = s.lane ℓ
  notices : noticesKept isDrawPlace s t

theorem DutyOutcome.findings_of_not_pass {o : DutyOutcome} (h : ∀ d, o ≠ .pass d) : ∃ f, o.findings = [f] := by
  cases o with
  | stale => exact ⟨_, rfl⟩
  | short fig => exact ⟨_, rfl⟩
  | pass d => exact (h d rfl).elim

theorem State.recompute_of_pass {d : DutyResult} (hcfg : s.unit.config = some cfg) (hrecord : (s.lane ℓ).record = some r)
    (h : recordDuty cfg r s.minute = some (.pass d)) : s.recompute ℓ = (s.setDuty ℓ (some d)).armTimer ℓ d := by
  simp [State.recompute, hcfg, hrecord, h]

theorem State.recompute_of_not_pass {o : DutyOutcome} {f : Finding} (hcfg : s.unit.config = some cfg)
    (hrecord : (s.lane ℓ).record = some r) (h : recordDuty cfg r s.minute = some o) (hf : o.findings = [f]) :
    s.recompute ℓ = ((s.setDuty ℓ none).stopTimer ℓ).setHold ℓ .duty f := by
  cases o with
  | pass d => simp [DutyOutcome.findings] at hf
  | stale => simp [State.recompute, hcfg, hrecord, h, State.failDuty, hf]
  | short fig => simp [State.recompute, hcfg, hrecord, h, State.failDuty, hf]

theorem State.recompute_of_absent (hcfg : s.unit.config = some cfg) (hrecord : (s.lane ℓ).record = some r)
    (h : recordDuty cfg r s.minute = none) : s.recompute ℓ = s := by
  simp [State.recompute, hcfg, hrecord, h]

theorem State.recomputed (hcfg : s.unit.config = some cfg) (hrecord : (s.lane ℓ).record = some r)
    (hstate : (s.lane ℓ).state = .loading) : State.Recomputed ℓ r cfg s (s.recompute ℓ) := by
  have hduty (d : Option DutyResult) : (s.setDuty ℓ d).lane ℓ = { s.lane ℓ with record := some { r with duty := d } } := by
    simp [hrecord]
  have htimer (d : DutyResult) := State.timerArmed (s := s.setDuty ℓ (some d)) (ℓ := ℓ) (r := { r with duty := some d })
    (by rw [hduty]) (by rw [hduty]; exact hstate) d
  have hnone : ((s.setDuty ℓ none).stopTimer ℓ).lane ℓ = { s.lane ℓ with
      record := some { r with duty := none }, dutyTimer := none } := by
    rw [State.lane_stopTimer, hduty]
  refine ⟨fun d hd hahead => ?_, fun o ho hnot => ?_, fun hn => ?_, ?_⟩
  · rw [State.recompute_of_pass hcfg hrecord hd]
    obtain ⟨⟨f, hf⟩, harmed, -, -, -, -⟩ := htimer d
    obtain ⟨htimer', hholds⟩ := harmed hahead
    refine ⟨f, ?_⟩
    rw [hf, htimer', hholds, hduty]
    rfl
  · obtain ⟨f, hf⟩ := DutyOutcome.findings_of_not_pass hnot
    rw [State.recompute_of_not_pass hcfg hrecord ho hf]
    obtain ⟨v, hv⟩ : ∃ v, v = (s.setDuty ℓ none).stopTimer ℓ := ⟨_, rfl⟩
    rw [← hv] at hnone ⊢
    obtain ⟨fs, hfs⟩ := State.setHold_lane (s := v) (ℓ := ℓ) .duty f (r := { r with duty := none }) (by rw [hnone])
    have hholds := State.setHold_holds (s := v) (ℓ := ℓ) (m := .duty) f (by rw [hnone, hstate]; rfl)
    refine ⟨fs, ?_⟩
    rw [hfs, hholds, hnone]
    rfl
  · rw [State.recompute_of_absent hcfg hrecord hn]
  · cases ho : recordDuty cfg r s.minute with
    | none =>
      rw [State.recompute_of_absent hcfg hrecord ho]
      exact .refl _ s
    | some o =>
      by_cases hpass : ∃ d, o = .pass d
      · obtain ⟨d, rfl⟩ := hpass
        rw [State.recompute_of_pass hcfg hrecord ho]
        exact noticesKept_of_line (htimer d).line
      · obtain ⟨f, hf⟩ := DutyOutcome.findings_of_not_pass (o := o) fun d hd => hpass ⟨d, hd⟩
        rw [State.recompute_of_not_pass hcfg hrecord ho hf]
        have hkept : noticesKept isDrawPlace s ((s.setDuty ℓ none).stopTimer ℓ) := noticesKept_of_line rfl
        exact hkept.trans (noticesKept_setHold .duty f)

theorem HoldEntry.matchesRecord_findings (e : HoldEntry) (r : LoadRecord) (f : List Finding) (d : Option DutyResult) :
    e.matchesRecord { r with findings := f, duty := d } = e.matchesRecord r := rfl

theorem State.LaneMatched.log_of_not_closing (h : State.LaneMatched ℓ s t) (hstate : (s.lane ℓ).state ≠ .closing) :
    t.log = s.log := by
  rw [h.log, DeliveryLog.without_of_all]
  intro w
  rw [orderTakesBack_of_not_closing hstate]
  rfl

/-- The state in which a new driver has become current: the handover RELEASE is queued, his stage is handed over, and DUTY and
DUPLICATE are out of the hold set (R22). -/
def State.handedOver (s : State) (ℓ : LaneId) (r : LoadRecord) (rc : Reclaim) : State :=
  (((((s.queueNotice (.release ℓ .handover r.current.driver (s.onward ℓ noPlan))).modRecord ℓ
    fun r => { r with second := some ⟨rc.claim.driver, rc.figures, rc.source⟩ }).handStage ℓ
    ⟨.driver, driverContent ⟨rc.claim.driver, rc.figures, rc.source⟩ s.minute (s.onward ℓ noPlan)⟩).clearHold ℓ
    .duty).clearHold ℓ .duplicate)

theorem State.changeDriver_eq (s : State) (ℓ : LaneId) (r : LoadRecord) (rc : Reclaim) : s.changeDriver ℓ r rc =
    (((((if (s.lane ℓ).state = .loading then (s.handedOver ℓ r rc).recompute ℓ else s.handedOver ℓ r rc).matchLane ℓ).modLane
      ℓ (fun l => { l with reclaim := none })).setResult ℓ .reclaim .ok).dropContest ℓ r.current.driver) := rfl

/-- The new driver's record. -/
def LoadRecord.withSecond (r : LoadRecord) (rc : Reclaim) : LoadRecord :=
  { r with second := some ⟨rc.claim.driver, rc.figures, rc.source⟩ }

/-- What the change of driver leaves of its lane, of the log and of the RELEASE place before the recomputation (R22). -/
structure State.HandedOver (ℓ : LaneId) (r : LoadRecord) (rc : Reclaim) (s t : State) : Prop where
  lane : t.lane ℓ = { s.lane ℓ with
    record := some (r.withSecond rc)
    holds := { (s.lane ℓ).holds with duty := false, duplicate := false } }
  log : t.log = { s.log with queue := if s.log.state = .logFault then s.log.queue else s.log.queue ++ [⟨r.slot, r.seq,
    ⟨.driver, driverContent ⟨rc.claim.driver, rc.figures, rc.source⟩ s.minute (s.onward ℓ noPlan)⟩, .lane ℓ⟩] }
  release : s.noticeAt (.release ℓ) = none →
    t.noticeAt (.release ℓ) = some ⟨.release ℓ .handover r.current.driver (s.onward ℓ noPlan), false⟩
  unit : t.unit = s.unit
  lists : t.lists = s.lists

theorem State.handedOver_effect (hrecord : (s.lane ℓ).record = some r) (hroom : s.stagesFull ℓ = false) (rc : Reclaim) :
    State.HandedOver ℓ r rc s (s.handedOver ℓ r rc) := by
  obtain ⟨q, hq⟩ : ∃ q, q = s.queueNotice (.release ℓ .handover r.current.driver (s.onward ℓ noPlan)) := ⟨_, rfl⟩
  obtain ⟨st, hst⟩ : ∃ st : Stage, st =
      ⟨.driver, driverContent ⟨rc.claim.driver, rc.figures, rc.source⟩ s.minute (s.onward ℓ noPlan)⟩ := ⟨_, rfl⟩
  obtain ⟨v, hv⟩ : ∃ v, v = q.modRecord ℓ fun r => { r with second := some ⟨rc.claim.driver, rc.figures, rc.source⟩ } :=
    ⟨_, rfl⟩
  have hlaneq : q.lane ℓ = s.lane ℓ := by rw [hq]; simp
  have hlane : v.lane ℓ = { s.lane ℓ with record := some (r.withSecond rc) } := by
    rw [hv, State.modRecord, State.lane_modLane_same, hlaneq, hrecord]
    rfl
  have hlog : v.log = s.log := by rw [hv, hq]; simp
  have hhand := State.handStage_of_room (s := v) (ℓ := ℓ) (x := r.withSecond rc) (by rw [hlane])
    ((State.stagesFull_congr (by rw [hlane]) (by rw [hlog])).trans hroom) st
  have heq : s.handedOver ℓ r rc = ((v.handStage ℓ st).clearHold ℓ .duty).clearHold ℓ .duplicate := by
    rw [hv, hq, hst]
    rfl
  rw [heq, hhand]
  refine ⟨?_, ?_, fun hnone => ?_, by simp [hv, hq], by simp [hv, hq]⟩
  · rw [State.lane_clearHold, State.lane_clearHold, State.lane_setLog, hlane]
    rfl
  · simp only [State.clearHold_frame, State.setLog_log]
    rw [hlog, hst]
    rfl
  · show v.noticeAt (.release ℓ) = _
    rw [show v.noticeAt (.release ℓ) = q.noticeAt (.release ℓ) by rw [hv]; rfl, hq, State.noticeAt_queueNotice,
      if_pos ⟨rfl, hnone⟩]

/-- The lane's duty result, timer and DUTY hold after a change of driver: as they were in OPEN, his own in LOADING (R22, R71). -/
def State.dutyOfNewDriver (s : State) (cfg : Configuration) (ℓ : LaneId) (r : LoadRecord) (rc : Reclaim) (duty : Option DutyResult)
    (held : Bool) (timer : Option DutyTimer) : Prop :=
  ((s.lane ℓ).state = .opened → duty = r.duty ∧ held = false) ∧
  ((s.lane ℓ).state = .loading → ∀ plan o, r.plan = some plan → o = dutyCompute cfg.limits rc.figures plan s.minute →
    (∀ d, o = .pass d → duty = some d ∧ held = false ∧
      timer = some ⟨d.latest, d.setBy, decide (d.latest ≤ s.minute + cfg.limits.warn)⟩) ∧
    ((∀ d, o ≠ .pass d) → duty = none ∧ timer = none ∧ held = true))

/-- The lane as the Hold List is matched for a new driver (R22, R71). -/
theorem State.recompute_handedOver (hcfg : s.unit.config = some cfg)
    (hstate : (s.lane ℓ).state = .opened ∨ (s.lane ℓ).state = .loading) (hminute : s.minute ≤ Config.clockMax) {rc : Reclaim}
    (h : State.HandedOver ℓ r rc s t) :
    ∃ f duty held timer, ((if (s.lane ℓ).state = .loading then t.recompute ℓ else t).lane ℓ) = { s.lane ℓ with
        record := some { r.withSecond rc with findings := f, duty := duty }
        holds := { (s.lane ℓ).holds with duty := held, duplicate := false }
        dutyTimer := timer } ∧
      s.dutyOfNewDriver cfg ℓ r rc duty held timer := by
  have hlane := h.lane
  have hminute' : t.minute = s.minute := by simp [State.minute, h.unit]
  have hwarn : t.warn = cfg.limits.warn := by simp [State.warn, h.unit, hcfg]
  rcases hstate with hopen | hload
  · refine ⟨r.findings, r.duty, false, (s.lane ℓ).dutyTimer, ?_, fun _ => ⟨rfl, rfl⟩, fun hl => by simp [hopen] at hl⟩
    rw [if_neg (by simp [hopen]), hlane]
    rfl
  · rw [if_pos hload]
    have hnot (hl : (s.lane ℓ).state = .opened) : False := by simp [hload] at hl
    obtain ⟨hpasses, hfails, habsent, -⟩ := State.recomputed (s := t) (ℓ := ℓ) (r := r.withSecond rc) (cfg := cfg)
      (by rw [h.unit]; exact hcfg) (by rw [hlane]) (by rw [hlane]; exact hload)
    rw [hminute', hwarn, hlane] at hpasses
    rw [hminute', hlane] at hfails
    rw [hminute', hlane] at habsent
    have hduty (plan : Plan) (hplan : r.plan = some plan) : recordDuty cfg (r.withSecond rc) s.minute =
        some (dutyCompute cfg.limits rc.figures plan s.minute) := by
      simp [recordDuty, LoadRecord.withSecond, hplan, LoadRecord.current]
    cases hplan : r.plan with
    | none =>
      have hnone := habsent (by simp [recordDuty, LoadRecord.withSecond, hplan])
      refine ⟨r.findings, r.duty, false, (s.lane ℓ).dutyTimer, ?_, fun hl => (hnot hl).elim, fun _ plan o hp => by
        simp [hplan] at hp⟩
      rw [hnone]
      rfl
    | some plan =>
      obtain ⟨o, ho⟩ : ∃ o, o = dutyCompute cfg.limits rc.figures plan s.minute := ⟨_, rfl⟩
      have hrec := (hduty plan hplan).trans (congrArg some ho.symm)
      by_cases hpass : ∃ d, o = .pass d
      · obtain ⟨d, rfl⟩ := hpass
        obtain ⟨f, hf⟩ := hpasses d hrec (le_latest_of_pass hrec hminute)
        refine ⟨f, some d, false, _, hf, fun hl => (hnot hl).elim, fun _ plan' o' hp ho' => ?_⟩
        obtain rfl : plan = plan' := Option.some.inj (hplan.symm.trans hp)
        obtain rfl := ho'.trans ho.symm
        refine ⟨fun d' hd' => ?_, fun hn => (hn d rfl).elim⟩
        obtain rfl : d = d' := DutyOutcome.pass.inj hd'
        exact ⟨rfl, rfl, rfl⟩
      · obtain ⟨f, hf⟩ := hfails o hrec fun d hd => hpass ⟨d, hd⟩
        refine ⟨f, none, true, none, hf, fun hl => (hnot hl).elim, fun _ plan' o' hp ho' => ?_⟩
        obtain rfl : plan = plan' := Option.some.inj (hplan.symm.trans hp)
        obtain rfl := ho'.trans ho.symm
        exact ⟨fun d hd => (hpass ⟨d, hd⟩).elim, fun _ => ⟨rfl, rfl, rfl⟩⟩

/-- Settles O45. -/
theorem reclaimWindowEnds : Obligations.ReclaimWindowEnds := by
  refine ⟨?_, ?_⟩
  · intro ℓ s r rc hreset hrecord hreclaim htimer hdriver
    show execReclaimTimerExpiry ℓ s = _
    simp only [execReclaimTimerExpiry, hrecord, hreclaim, hreset, Option.isSome_iff_ne_none.2 htimer, if_pos hdriver]
    simp [State.pureReclaim, State.setResult, State.clearHold, State.attend, State.modLane]
    rw [hrecord]
    rfl
  · intro ℓ s r rc cfg hreset hcfg hrecord hreclaim htimer hdriver hstate hroom hminute
    have hexec : exec (.reclaimTimerExpiry ℓ) s = .next (s.changeDriver ℓ r rc) := by
      show execReclaimTimerExpiry ℓ s = _
      simp only [execReclaimTimerExpiry, hrecord, hreclaim, hreset, Option.isSome_iff_ne_none.2 htimer, if_neg hdriver]
      rfl
    have hover := State.handedOver_effect hrecord hroom rc
    obtain ⟨f, duty, held, timer, hlane5, hduty⟩ := State.recompute_handedOver hcfg hstate hminute hover
    obtain ⟨u, hu⟩ : ∃ u, u = if (s.lane ℓ).state = .loading then (s.handedOver ℓ r rc).recompute ℓ else s.handedOver ℓ r rc :=
      ⟨_, rfl⟩
    rw [← hu] at hlane5
    have heq := s.changeDriver_eq ℓ r rc
    rw [← hu] at heq
    have hlogU : u.log = (s.handedOver ℓ r rc).log ∧ u.lists = s.lists := by
      rw [hu]
      split
      · simp [hover.lists]
      · exact ⟨rfl, hover.lists⟩
    have hnoticeU : u.noticeAt (.release ℓ) = (s.handedOver ℓ r rc).noticeAt (.release ℓ) := by
      rw [hu]
      split
      · rename_i hload
        exact (State.recomputed (cfg := cfg) (r := r.withSecond rc) (by rw [hover.unit]; exact hcfg) (by rw [hover.lane])
          (by rw [hover.lane]; exact hload)).notices _ fun ⟨_, h⟩ => by cases h
      · rfl
    have hmatched := u.laneMatched ℓ
    have hstateU : (u.lane ℓ).state = (s.lane ℓ).state := by rw [hlane5]
    obtain ⟨f', hlane6⟩ := hmatched.follows _ (congrArg Lane.record hlane5)
      (hstateU ▸ hstate.elim (fun h => .inr (.inl h)) fun h => .inr (.inr h))
    have hlog6 := hmatched.log_of_not_closing (by rw [hstateU]; rcases hstate with h | h <;> simp [h])
    obtain ⟨x, hx⟩ := State.dropContest_lane (((u.matchLane ℓ).modLane ℓ fun l => { l with reclaim := none }).setResult ℓ
      .reclaim .ok) ℓ r.current.driver
    rw [← heq, State.lane_setResult, State.lane_modLane_same, hlane6, hlogU.2, hlane5] at hx
    have hafter : (s.changeDriver ℓ r rc).lane ℓ = { s.lane ℓ with
        record := some { r.withSecond rc with findings := f', duty := duty }
        holds := { (s.lane ℓ).holds with
          order := s.lists.holds.any (fun e => e.matchesRecord (r.withSecond rc))
          duty := held
          duplicate := false }
        dutyTimer := timer
        reclaim := none
        result := some (.reclaim, .ok)
        owedContest := x } := hx
    have hop := (State.LaneOp.refl ℓ s).changeDriver r rc
    have honward := State.onward_of_config hcfg hrecord noPlan
    obtain ⟨hopened, hloading⟩ := hduty
    refine ⟨_, { r.withSecond rc with findings := f', duty := duty }, _, hexec, rfl, by rw [hafter],
      congrArg Lane.reclaim hafter, congrArg Lane.result hafter, ?_, congrArg Lane.record hafter, rfl, fun hnone => ?_, ?_,
      congrArg (fun l => l.holds.duplicate) hafter, by rw [hafter],
      congrArg (fun l => l.holds.order) hafter, fun hopen => ?_, fun hload plan o hplan ho => ?_, hop.other, hop.chans, by simp,
      by simp, by simp, by simp [sameStation]⟩
    · rw [heq]
      simp only [State.dropContest_frame]
      exact State.laneDone_mem_setResult ..
    · have hcontest := noticesKept_dropContest (((u.matchLane ℓ).modLane ℓ fun l => { l with reclaim := none }).setResult ℓ
        .reclaim .ok) ℓ r.current.driver (.release ℓ) nofun
      rw [heq, hcontest, ← noPlan, ← honward, ← hover.release hnone, ← hnoticeU]
      exact hmatched.notices _ fun ⟨_, h⟩ => by cases h
    · rw [heq]
      simp only [State.dropContest_frame, State.setResult_frame, State.modLane_log]
      rw [hlog6, hlogU.1, hover.log, honward]
      rfl
    · obtain ⟨hduty', hheld⟩ := hopened hopen
      exact ⟨hduty', (congrArg (fun l => l.holds.duty) hafter).trans hheld⟩
    · obtain ⟨hpass, hfail⟩ := hloading hload plan o hplan ho
      refine ⟨fun d hd => ?_, fun hn => ?_⟩
      · obtain ⟨hduty', hheld, htimer'⟩ := hpass d hd
        exact ⟨hduty', (congrArg (fun l => l.holds.duty) hafter).trans hheld, (congrArg Lane.dutyTimer hafter).trans htimer'⟩
      · obtain ⟨hduty', htimer', hheld⟩ := hfail hn
        exact ⟨hduty', (congrArg Lane.dutyTimer hafter).trans htimer', (congrArg (fun l => l.holds.duty) hafter).trans hheld⟩

end Reclaim

end Sys2Proof.Machine

namespace Sys2Proof.Machine

/-! ## Proofs: CHECK-IN and RE-DRIVER (chapters 1, 3, 5 and 8) -/

section Accepts

variable {s t u : State} {ℓ : LaneId} {r : LoadRecord} {d v : Nat} {e : WatchEvent}

/-! ### The watch on an own accept (R122, R123) -/

theorem Watch.hits_eq (w : Watch) (d : Nat) (v : Option Nat) :
    w.hits d v = true ↔ (w.kind = .driver ∧ w.key = d) ∨ (w.kind = .vehicle ∧ v = some w.key) := by
  unfold Watch.hits
  cases h : w.kind <;> simp

theorem Lists.stopWatches_eq {l : Lists} {w : Watch} (h : l.watch = some w) :
    l.stopWatches d v = (w.hits d (some v) && w.stopMode) := by
  unfold Lists.stopWatches Watch.hits
  rw [h]
  obtain ⟨kind, key, mode⟩ := w
  cases kind <;> simp [Bool.and_comm, BEq.comm (a := v), show (KeyKind.driver == KeyKind.vehicle) = false from rfl,
    show (KeyKind.vehicle == KeyKind.driver) = false from rfl]

theorem Lists.stopWatches_of_none {l : Lists} (h : l.watch = none) : l.stopWatches d v = false := by
  unfold Lists.stopWatches
  rw [h]

theorem watchMatched_matchWatch (s : State) (d : Nat) (v : Option Nat) (x : Latch) :
    watchMatched s.lists (s.matchWatch d v x) d v x := by
  unfold watchMatched
  cases hw : s.lists.watch with
  | none => simp [State.matchWatch, hw]
  | some w =>
    by_cases hit : w.hits d v = true
    · simp only [if_pos ((Watch.hits_eq w d v).1 hit), State.matchWatch, hw, if_pos hit]
      exact ⟨rfl, mem_addReasonTo_self ..⟩
    · simp only [if_neg fun h => hit ((Watch.hits_eq w d v).2 h), State.matchWatch, hw, if_neg hit]

theorem watchMatched.congr {l : Lists} {vehicle : Option Nat} {x : Latch} (h : watchMatched l s d vehicle x)
    (hlists : t.lists = s.lists) (hstays : ∀ q, (q, false) ∈ s.attention → (q, false) ∈ t.attention) :
    watchMatched l t d vehicle x := by
  revert h
  unfold watchMatched
  cases hw : l.watch with
  | none => exact fun h => hlists.trans h
  | some w =>
    dsimp only
    split
    · exact fun h => ⟨hlists.trans h.1, hstays _ h.2⟩
    · exact fun h => hlists.trans h

/-- A watch match leaves the Hold List, the stop set and the own orders as they were (R122). -/
theorem watchMatched.lists_eq {l : Lists} {vehicle : Option Nat} {x : Latch} (h : watchMatched l t d vehicle x) :
    t.lists.holds = l.holds ∧ t.lists.stops = l.stops ∧ t.lists.orders = l.orders := by
  unfold watchMatched at h
  split at h
  · simp [h]
  · split at h
    · simp [h.1]
    · simp [h]

theorem State.matchOwn_eq (s : State) (ℓ : LaneId) (d v : Nat) (e : WatchEvent) : s.matchOwn ℓ d v e =
    if s.lists.stopWatches d v then
      (s.matchWatch d (some v) ⟨s.unit.address, ℓ, e, s.minute⟩).setHold ℓ .watch holdFinding
    else s.matchWatch d (some v) ⟨s.unit.address, ℓ, e, s.minute⟩ := by
  unfold State.matchOwn
  dsimp only
  cases hw : s.lists.watch with
  | none => rw [if_neg (by simp [Lists.stopWatches_of_none hw])]
  | some w => simp only [Lists.stopWatches_eq hw, Bool.and_eq_true]

theorem watchMatched_matchOwn (s : State) (ℓ : LaneId) (d v : Nat) (e : WatchEvent) :
    watchMatched s.lists (s.matchOwn ℓ d v e) d (some v) ⟨s.unit.address, ℓ, e, s.minute⟩ := by
  have h := watchMatched_matchWatch s d (some v) ⟨s.unit.address, ℓ, e, s.minute⟩
  rw [State.matchOwn_eq]
  split
  · exact h.congr (by simp) ((State.LaneOp.refl ℓ _).setHold .watch holdFinding).stays
  · exact h

/-- The lane after its member is asked for (R15). -/
def Lane.asked (l : Lane) (m : HoldMember) : Lane := if l.takesMember m then l.held m holdFinding else l

theorem State.matchOwn_lane (s : State) (ℓ : LaneId) (d v : Nat) (e : WatchEvent) : (s.matchOwn ℓ d v e).lane ℓ =
    if s.lists.stopWatches d v then (s.lane ℓ).asked .watch else s.lane ℓ := by
  rw [State.matchOwn_eq]
  split
  · rw [State.lane_setHold, State.lane_matchWatch]
    rfl
  · rw [State.lane_matchWatch]

/-- Of the lane, an own accept that meets the watch changes WATCH and the findings (R123). -/
theorem Lane.asked_watch {l : Lane} (hrecord : l.record = some r) (hadmits : l.state.admitsMember .watch = true) (stop : Bool) :
    ∃ f, (if stop then l.asked .watch else l) = { l with
      holds := { l.holds with watch := l.holds.watch || stop }
      record := some { r with findings := f } } := by
  cases stop with
  | false =>
    refine ⟨r.findings, ?_⟩
    rw [if_neg (by simp), Bool.or_false, show some { r with findings := r.findings } = l.record from hrecord.symm]
  | true =>
    rw [if_pos rfl, Bool.or_true]
    unfold Lane.asked
    split
    · exact ⟨joinFinding r.findings holdFinding, by simp [Lane.held, hrecord, HoldSet.put]⟩
    · rename_i hn
      have hholds : l.holds.watch = true := by simpa [Lane.takesMember, hadmits, HoldSet.has] using hn
      refine ⟨r.findings, ?_⟩
      rw [show some { r with findings := r.findings } = l.record from hrecord.symm, ← hholds]

theorem State.holdSet_mem_matchOwn (hstop : s.lists.stopWatches d v = true) (htakes : (s.lane ℓ).takesMember .watch = true) :
    (Reason.holdSet ℓ, false) ∈ (s.matchOwn ℓ d v e).attention := by
  rw [State.matchOwn_eq, if_pos hstop]
  exact State.holdSet_mem_setHold holdFinding (by rw [State.lane_matchWatch]; exact htakes)

/-! ### The CLAIM of a new claim or reclaim (R10, R20) -/

theorem State.testClaim_lane_of_claim {c : Claim} (h : (s.lane ℓ).claim = some c) :
    ∃ st, (s.testClaim ℓ).lane ℓ = { s.lane ℓ with claim := some { c with step := st } } := by
  have hprogress : (s.lane ℓ).progress? = some c := by simp [Lane.progress?, h]
  unfold State.testClaim
  rw [hprogress]
  dsimp only
  split
  · exact ⟨.queued, by rw [State.lane_modLane_same, State.lane_queueNotice, Lane.modProgress]; simp [h]⟩
  · exact ⟨c.step, by rw [← h]⟩

theorem State.testClaim_lane_of_reclaim {rc : Reclaim} (hclaim : (s.lane ℓ).claim = none)
    (h : (s.lane ℓ).reclaim = some rc) :
    ∃ st, (s.testClaim ℓ).lane ℓ = { s.lane ℓ with reclaim := some { rc with claim := { rc.claim with step := st } } } := by
  have hprogress : (s.lane ℓ).progress? = some rc.claim := by simp [Lane.progress?, h, hclaim]
  unfold State.testClaim
  rw [hprogress]
  dsimp only
  split
  · exact ⟨.queued, by rw [State.lane_modLane_same, State.lane_queueNotice, Lane.modProgress]; simp [h, hclaim]⟩
  · exact ⟨rc.claim.step, by rw [← h]⟩

/-! ### The reserved slot (R170, R172) -/

/-- The position found is FREE, and none from the start up to it is. -/
theorem firstFree_spec {n : Nat} {m : Assoc SlotEntry} (hwf : Assoc.wf SlotEntry.free m = true) (hfrom : ∀ p ∈ m, n ≤ p.1) :
    (Assoc.get SlotEntry.free (firstFree n m) m).state = .free ∧
      ∀ p, n ≤ p → p < firstFree n m → (Assoc.get SlotEntry.free p m).state ≠ .free := by
  induction m generalizing n with
  | nil => exact ⟨rfl, fun p hp hlt => (Nat.lt_irrefl _ (Nat.lt_of_le_of_lt hp hlt)).elim⟩
  | cons q rest ih =>
    obtain ⟨k, e⟩ := q
    obtain ⟨-, habove, hrest⟩ := (Assoc.wf_cons _ _ _).1 hwf
    have hk : n ≤ k := hfrom (k, e) (by simp)
    by_cases htaken : k = n ∧ e.state ≠ .free
    · obtain ⟨rfl, hstate⟩ := htaken
      have heq : firstFree k ((k, e) :: rest) = firstFree (k + 1) rest := by simp [firstFree, hstate]
      obtain ⟨hfree, hlow⟩ := ih hrest (n := k + 1) fun p hp => habove p hp
      have hge : k + 1 ≤ firstFree (k + 1) rest := firstFree_ge ..
      rw [heq]
      refine ⟨by rw [Assoc.get, if_neg (by omega)]; exact hfree, fun p hp hlt => ?_⟩
      rw [Assoc.get]
      split
      · exact hstate
      · exact hlow p (by omega) hlt
    · have heq : firstFree n ((k, e) :: rest) = n := by simp only [firstFree, if_neg htaken]
      rw [heq]
      refine ⟨?_, fun p hp hlt => (Nat.lt_irrefl _ (Nat.lt_of_le_of_lt hp hlt)).elim⟩
      rw [Assoc.get]
      split
      · rename_i hkn
        exact Decidable.not_not.1 fun hne => htaken ⟨hkn, hne⟩
      · rw [Assoc.get_of_above]
        · rfl
        · exact fun p hp => Nat.lt_of_le_of_lt hk (habove p hp)
where
  firstFree_ge (n : Nat) (m : Assoc SlotEntry) : n ≤ firstFree n m := by
    induction m generalizing n with
    | nil => exact Nat.le_refl n
    | cons q rest ih =>
      unfold firstFree
      split
      · exact Nat.le_of_succ_le (ih (n + 1))
      · exact Nat.le_refl n

/-! ### The two requests -/

theorem State.reserve_log (s : State) : s.reserve.1.log = { s.log.setSlot (firstFree 0 s.log.table)
    ⟨.reserved, some s.log.nextSeq, 1⟩ with nextSeq := s.log.nextSeq + 1 } := by
  simp only [State.reserve, State.lowCheck_frame, State.setLog_log]

/-- Settles O23. -/
theorem reDriverStartsReclaim : Obligations.ReDriverStartsReclaim := by
  intro ops k s ℓ r d f htakes hjoined hlane hrecord hclaim hstate hreclaim hfields hsecond hother hshows
  have hown : ownReDriver ops s = okReply (s.acceptReDriver ℓ d f) (be 1 (s.merge d f).2.code) := by
    have h1 : ¬ (d ≠ r.current.driver ∧ r.second.isSome = true) := fun h => by
      rcases hsecond with h2 | h2
      · exact h.1 h2
      · simp [h2] at h
    have h2 : ¬ (d ≠ r.current.driver ∧ s.view.shows d = true) := fun h => by
      rcases hshows with h2 | h2
      · exact h.1 h2
      · simp [h2] at h
    simp only [ownReDriver, hjoined, hlane, hrecord, hfields, if_neg h1, if_neg h2, hother]
    simp [hstate, hreclaim]
  obtain ⟨rc, hrc⟩ : ∃ rc : Reclaim, rc = ⟨⟨d, .waiting, false, none⟩, (s.merge d f).1, (s.merge d f).2⟩ := ⟨_, rfl⟩
  obtain ⟨u, hu⟩ : ∃ u, u = s.modLane ℓ (fun l => { l with reclaim := some rc }) := ⟨_, rfl⟩
  obtain ⟨w, hw⟩ : ∃ w, w = u.matchOwn ℓ d r.vehicle .reDriver := ⟨_, rfl⟩
  have hvehicle : (s.lane ℓ).vehicle = r.vehicle := by simp [Lane.vehicle, hrecord]
  have heq : s.acceptReDriver ℓ d f = w.testClaim ℓ := by
    rw [hw, hu, hrc, ← hvehicle]
    rfl
  have hlaneU : u.lane ℓ = { s.lane ℓ with reclaim := some rc } := by rw [hu, State.lane_modLane_same]
  have hadmits : (u.lane ℓ).state.admitsMember .watch = true := by
    rw [hlaneU]
    rcases hstate with h | h <;> rw [h] <;> rfl
  have hlistsU : u.lists = s.lists := by rw [hu]; rfl
  obtain ⟨fs, hfs⟩ := Lane.asked_watch (l := u.lane ℓ) (r := r) (by rw [hlaneU]; exact hrecord) hadmits
    (s.lists.stopWatches d r.vehicle)
  have hlaneW : w.lane ℓ = { s.lane ℓ with
      reclaim := some rc
      holds := { (s.lane ℓ).holds with watch := (s.lane ℓ).holds.watch || s.lists.stopWatches d r.vehicle }
      record := some { r with findings := fs } } := by
    rw [hw, State.matchOwn_lane, hlistsU, hfs, hlaneU]
  obtain ⟨st, hst⟩ := State.testClaim_lane_of_reclaim (s := w) (ℓ := ℓ) (rc := rc) (by rw [hlaneW]; exact hclaim) (by rw [hlaneW])
  rw [← heq, hlaneW] at hst
  have hafter : (s.acceptReDriver ℓ d f).lane ℓ = { s.lane ℓ with
      reclaim := some { rc with claim := { rc.claim with step := st } }
      holds := { (s.lane ℓ).holds with watch := (s.lane ℓ).holds.watch || s.lists.stopWatches d r.vehicle }
      record := some { r with findings := fs } } := hst
  have hop : State.LaneOp ℓ s (s.acceptReDriver ℓ d f) := by
    rw [heq, hw, hu]
    exact (((State.LaneOp.refl ℓ s).modLane _).matchOwn ..).testClaim
  have htest : (s.acceptReDriver ℓ d f).lists = w.lists ∧ (s.acceptReDriver ℓ d f).attention = w.attention := by
    rw [heq]
    simp
  refine ⟨_, { r with findings := fs }, { rc with claim := { rc.claim with step := st } },
    exec_of_accepted (i := .reDriver ops k) rfl htakes hjoined (congrArg atOnce hown), congrArg Lane.reclaim hafter, by rw [hrc],
    by rw [hrc], by rw [hrc], by rw [hrc]; rfl, by rw [State.lane_answersOk, hafter], congrArg Lane.record hafter, rfl, by rw [hrc]; rfl,
    hop.other, hop.chans, by simp [sameStation], by simp, by simp, ?_, congrArg Lane.holds hafter, fun hstop hwatch => ?_⟩
  · have h := watchMatched_matchOwn u ℓ d r.vehicle .reDriver
    rw [← hw, hlistsU, hu] at h
    exact h.congr htest.1 fun q => by
      show _ → _ ∈ (s.acceptReDriver ℓ d f).attention
      rw [htest.2]
      exact id
  · show _ ∈ (s.acceptReDriver ℓ d f).attention
    rw [htest.2, hw]
    refine State.holdSet_mem_matchOwn (by rw [hlistsU]; exact hstop) ?_
    rw [Lane.takesMember, hadmits, hlaneU]
    simp [HoldSet.has, hwatch]

theorem State.matchLane_of_claiming (hrecord : (s.lane ℓ).record = some r) (hstate : (s.lane ℓ).state = .claiming) :
    s.matchLane ℓ = if s.lists.holds.any (fun e => e.matchesRecord r) then s.setHold ℓ .order holdFinding
      else s.clearHold ℓ .order := by
  simp only [State.matchLane, hrecord, hstate]

/-- A claim that meets ORDER or WATCH with an empty hold set: HOLD_SET is added and the one finding is HOLD (R15). -/
theorem State.holds_of_claim (hrecord : (s.lane ℓ).record = some r) (hstate : (s.lane ℓ).state = .claiming)
    (hempty : (s.lane ℓ).holds = HoldSet.empty) (hfindings : r.findings = [])
    (h : s.lists.holds.any (fun e => e.matchesRecord r) = true ∨ s.lists.stopWatches d v = true) :
    (Reason.holdSet ℓ, false) ∈ ((s.matchLane ℓ).matchOwn ℓ d v e).attention ∧
      (((s.matchLane ℓ).matchOwn ℓ d v e).lane ℓ).record = some { r with findings := [holdFinding] } := by
  have hone : joinFinding [] holdFinding = [holdFinding] := rfl
  have htwo : joinFinding [holdFinding] holdFinding = [holdFinding] := rfl
  have htakes (m : HoldMember) (hm : m = .order ∨ m = .watch) : (s.lane ℓ).takesMember m = true := by
    rw [Lane.takesMember, hstate, hempty]
    rcases hm with rfl | rfl <;> rfl
  have hlists : (s.matchLane ℓ).lists = s.lists := by simp
  rw [State.matchOwn_lane, hlists]
  cases hit : s.lists.holds.any (fun e => e.matchesRecord r) with
  | true =>
    have heq : s.matchLane ℓ = s.setHold ℓ .order holdFinding := by
      rw [State.matchLane_of_claiming hrecord hstate, if_pos hit]
    have hlane : (s.matchLane ℓ).lane ℓ = (s.lane ℓ).held .order holdFinding := by
      rw [heq, State.lane_setHold, if_pos (htakes .order (.inl rfl))]
    have hset : (Reason.holdSet ℓ, false) ∈ (s.matchLane ℓ).attention := by
      rw [heq]
      exact State.holdSet_mem_setHold holdFinding (htakes .order (.inl rfl))
    refine ⟨((State.LaneOp.refl ℓ _).matchOwn d v e).stays _ hset, ?_⟩
    rw [hlane]
    split
    · rw [Lane.asked, if_pos (by rw [Lane.takesMember, Lane.held, hstate, hempty]; rfl)]
      simp [Lane.held, hrecord, hfindings, hone, htwo]
    · simp [Lane.held, hrecord, hfindings, hone]
  | false =>
    have hstop : s.lists.stopWatches d v = true := h.resolve_left (by simp [hit])
    have heq : s.matchLane ℓ = s.clearHold ℓ .order := by
      rw [State.matchLane_of_claiming hrecord hstate, if_neg (by simp [hit])]
    have hlane : (s.matchLane ℓ).lane ℓ = s.lane ℓ := by
      rw [heq, State.lane_clearHold, HoldSet.put_of_has (by rw [hempty]; rfl)]
    refine ⟨State.holdSet_mem_matchOwn (by rw [hlists]; exact hstop) (by rw [hlane]; exact htakes .watch (.inr rfl)), ?_⟩
    rw [if_pos hstop, hlane, Lane.asked, if_pos (htakes .watch (.inr rfl))]
    simp [Lane.held, hrecord, hfindings, hone]

theorem HoldEntry.matchesRecord_eq (e : HoldEntry) (r : LoadRecord) : e.matchesRecord r =
    ((e.kind == .driver && e.key == r.current.driver) || (e.kind == .vehicle && e.key == r.vehicle)) := by
  unfold HoldEntry.matchesRecord
  cases e.kind <;> simp [show (KeyKind.driver == KeyKind.vehicle) = false from rfl,
    show (KeyKind.vehicle == KeyKind.driver) = false from rfl]

/-- Settles O22. -/
theorem checkInClaimsTheLane : Obligations.CheckInClaimsTheLane := by
  intro ops k s ℓ x htakes hjoined hlane hvacant hfields hother hshows hlog hreserve hwf
  have hown : ownCheckIn ops s = okReply (s.acceptCheckIn ℓ x)
      (be 4 s.log.nextSeq ++ be 1 (s.merge x.driver x.figures).2.code) := by
    simp [ownCheckIn, hjoined, hlane, hvacant, hfields, hother, hshows, hlog, hreserve]
  obtain ⟨r, hr⟩ : ∃ r, r = newRecord s x (firstFree 0 s.log.table) s.log.nextSeq := ⟨_, rfl⟩
  obtain ⟨u, hu⟩ : ∃ u, u = s.reserve.1.modLane ℓ (fun l =>
    { l with
      state := .claiming
      record := some r
      claim := some ⟨x.driver, .waiting, false, none⟩ }) := ⟨_, rfl⟩
  obtain ⟨w, hw⟩ : ∃ w, w = (u.matchLane ℓ).matchOwn ℓ x.driver x.vehicle .checkIn := ⟨_, rfl⟩
  have heq : s.acceptCheckIn ℓ x = w.testClaim ℓ := by
    rw [hw, hu, hr]
    rfl
  have hreserved : s.reserve.1.lanes = s.lanes ∧ s.reserve.1.lists = s.lists ∧ s.reserve.1.unit = s.unit ∧
      s.reserve.1.channels = s.channels := by simp
  have hlaneU : u.lane ℓ = { s.lane ℓ with
      state := .claiming, record := some r, claim := some ⟨x.driver, .waiting, false, none⟩ } := by
    rw [hu, State.lane_modLane_same, State.lane, hreserved.1]
    rfl
  have hlistsU : u.lists = s.lists := by rw [hu]; exact hreserved.2.1
  have hstateU : (u.lane ℓ).state = .claiming := by rw [hlaneU]
  have hrecordU : (u.lane ℓ).record = some r := by rw [hlaneU]
  have hmatched := u.laneMatched ℓ
  obtain ⟨f1, hlaneV⟩ := hmatched.follows r hrecordU (.inl hstateU)
  have hlistsV : (u.matchLane ℓ).lists = s.lists := by simp [hlistsU]
  obtain ⟨f2, hf2⟩ := Lane.asked_watch (l := (u.matchLane ℓ).lane ℓ) (r := { r with findings := f1 }) (by rw [hlaneV])
    (by rw [hlaneV, hlaneU]; rfl) (s.lists.stopWatches x.driver x.vehicle)
  have hlaneW : w.lane ℓ = { s.lane ℓ with
      state := .claiming
      record := some { r with findings := f2 }
      claim := some ⟨x.driver, .waiting, false, none⟩
      holds := { (s.lane ℓ).holds with
        order := s.lists.holds.any (fun e => e.matchesRecord r)
        watch := (s.lane ℓ).holds.watch || s.lists.stopWatches x.driver x.vehicle } } := by
    rw [hw, State.matchOwn_lane, hlistsV, hf2, hlaneV, hlistsU, hlaneU]
  obtain ⟨st, hst⟩ := State.testClaim_lane_of_claim (s := w) (ℓ := ℓ) (c := ⟨x.driver, .waiting, false, none⟩) (by rw [hlaneW])
  rw [← heq, hlaneW] at hst
  have hafter : (s.acceptCheckIn ℓ x).lane ℓ = { s.lane ℓ with
      state := .claiming
      record := some { r with findings := f2 }
      claim := some ⟨x.driver, st, false, none⟩
      holds := { (s.lane ℓ).holds with
        order := s.lists.holds.any (fun e => e.matchesRecord r)
        watch := (s.lane ℓ).holds.watch || s.lists.stopWatches x.driver x.vehicle } } := hst
  have hop : State.LaneOp ℓ s.reserve.1 (s.acceptCheckIn ℓ x) := by
    rw [heq, hw, hu]
    exact (((State.LaneOp.refl ℓ _).modLane _).matchLane.matchOwn ..).testClaim
  have htest : (s.acceptCheckIn ℓ x).lists = w.lists ∧ (s.acceptCheckIn ℓ x).attention = w.attention := by
    rw [heq]
    simp
  have hlogAfter : (s.acceptCheckIn ℓ x).log = s.reserve.1.log := by
    have hv : (u.matchLane ℓ).log = u.log := hmatched.log_of_not_closing (by simp [hstateU])
    have hwlog : w.log = (u.matchLane ℓ).log := by rw [hw]; simp
    rw [heq]
    simp only [State.testClaim_frame]
    rw [hwlog, hv, hu]
    rfl
  rw [s.reserve_log] at hlogAfter
  have hrslot : r.slot = firstFree 0 s.log.table := by rw [hr]; rfl
  have hslot (p : Nat) : (s.acceptCheckIn ℓ x).log.slot p = if p = r.slot then ⟨.reserved, some s.log.nextSeq, 1⟩
      else s.log.slot p := by
    rw [hlogAfter, hrslot]
    exact DeliveryLog.slot_setSlot s.log hwf (firstFree 0 s.log.table) p ⟨.reserved, some s.log.nextSeq, 1⟩
  obtain ⟨hfree, hlow⟩ := firstFree_spec hwf (n := 0) fun _ _ => Nat.zero_le _
  have hwatch := watchMatched_matchOwn (u.matchLane ℓ) ℓ x.driver x.vehicle .checkIn
  have hunit : (u.matchLane ℓ).unit = s.unit := by simp [hu]
  have hminute : (u.matchLane ℓ).minute = s.minute := by rw [State.minute, State.minute, hunit]
  rw [← hw, hlistsV, hunit, hminute] at hwatch
  have hwatched : watchMatched s.lists (s.acceptCheckIn ℓ x) x.driver (some x.vehicle)
      ⟨s.unit.address, ℓ, .checkIn, s.minute⟩ := hwatch.congr htest.1 fun q => by rw [htest.2]; exact id
  obtain ⟨hholds, hstops, horders⟩ := hwatched.lists_eq
  have hpairs (e : HoldEntry) : e.matchesRecord r =
      ((e.kind == .driver && e.key == x.driver) || (e.kind == .vehicle && e.key == x.vehicle)) := by
    rw [HoldEntry.matchesRecord_eq, hr]
    rfl
  refine ⟨_, { r with findings := f2 }, ⟨x.driver, st, false, none⟩,
    exec_of_accepted (i := .checkIn ops k) rfl htakes hjoined (congrArg atOnce hown), congrArg Lane.state hafter,
    congrArg Lane.record hafter, congrArg Lane.claim hafter, rfl, rfl, rfl, by rw [hr]; rfl, by rw [hr]; rfl, by rw [hr]; rfl,
    by rw [hr]; rfl, by rw [hr]; rfl, by rw [hr]; rfl, by rw [hr]; rfl, by rw [hr]; rfl, by rw [hr]; rfl, by rw [hr]; rfl,
    by rw [hr]; rfl, ?_, fun p hp => ?_, (hslot _).trans (if_pos rfl), fun p hp => (hslot p).trans (if_neg hp),
    congrArg DeliveryLog.nextSeq hlogAfter, ?_, ?_,
    by rw [hr]; rfl, ?_, ?_, by simp [sameStation], by simp, hholds, hstops, horders, hwatched, ?_,
    congrArg (fun l => l.holds.watch) hafter, fun hheld hempty => ?_⟩
  · rw [show ({ r with findings := f2 } : LoadRecord).slot = r.slot from rfl, hrslot]
    exact hfree
  · exact hlow p (Nat.zero_le _) (hrslot ▸ hp)
  · exact (congrArg DeliveryLog.memory hlogAfter :)
  · exact (congrArg DeliveryLog.queue hlogAfter :)
  · rw [State.lane_answersOk, hop.other, State.lane, hreserved.1]
    rfl
  · exact (sameUnlessPouring_of_eq hreserved.2.2.2).trans hop.chans
  · rw [State.lane_answersOk, hafter]
    simp only [hpairs]
  · rw [State.lane_answersOk, hafter] at hheld
    have hmeets : u.lists.holds.any (fun e => e.matchesRecord r) = true ∨
        u.lists.stopWatches x.driver x.vehicle = true := by
      rw [hlistsU]
      simpa [hempty, HoldSet.empty] using hheld
    obtain ⟨hset, hfound⟩ := State.holds_of_claim (s := u) (e := .checkIn) hrecordU hstateU (by rw [hlaneU]; exact hempty)
      (by rw [hr]; rfl) hmeets
    rw [← hw] at hset hfound
    rw [hlaneW] at hfound
    refine ⟨?_, ?_⟩
    · show _ ∈ (s.acceptCheckIn ℓ x).attention
      rw [htest.2]
      exact hset
    · have hf : f2 = [holdFinding] := congrArg LoadRecord.findings (Option.some.inj hfound)
      show holdFinding ∈ f2
      rw [hf]
      exact List.mem_singleton_self _

end Accepts

end Sys2Proof.Machine

namespace Sys2Proof.Machine

/-! ## Proofs: the minute clock and the bit time (chapters 3, 6 and 10) -/

section Minutes

variable {s t u : State} {ℓ : LaneId} {m : Nat} {x : DutyTimer} {r : LoadRecord}

/-! ### The tests of an armed duty timer (R69, R70) -/

@[simp] theorem State.lane_warnDuty : (s.warnDuty ℓ x).lane ℓ =
    { s.lane ℓ with dutyTimer := some { x with warned := true } } := by simp [State.warnDuty]

theorem State.warnDuty_attention : (s.warnDuty ℓ x).attention = addReasonTo (.dutyNear ℓ) s.attention := rfl

theorem State.testNear_of_none (h : (s.lane ℓ).dutyTimer = none) : State.testNear m s ℓ = s := by
  simp [State.testNear, h]

theorem State.testNear_of_timer (h : (s.lane ℓ).dutyTimer = some x) :
    State.testNear m s ℓ = if x.warned = false ∧ x.latest ≤ m + s.warn then s.warnDuty ℓ x else s := by
  simp [State.testNear, h]

theorem State.testNear_lane (h : (s.lane ℓ).dutyTimer = some x) : (State.testNear m s ℓ).lane ℓ =
    { s.lane ℓ with dutyTimer := some { x with warned := x.warned || decide (x.latest ≤ m + s.warn) } } := by
  rw [State.testNear_of_timer h]
  split
  · rename_i hwarn
    rw [State.lane_warnDuty, decide_eq_true hwarn.2, Bool.or_true]
  · rename_i hwarn
    have hsame : (x.warned || decide (x.latest ≤ m + s.warn)) = x.warned := by
      cases hx : x.warned with
      | true => rfl
      | false => simpa [hx] using hwarn
    rw [hsame, ← h]

theorem State.testOver_of_none (h : (s.lane ℓ).dutyTimer = none) : State.testOver m s ℓ = s := by
  simp [State.testOver, h]

theorem State.testOver_of_ahead (h : (s.lane ℓ).dutyTimer = some x) (hm : m ≤ x.latest) : State.testOver m s ℓ = s := by
  simp [State.testOver, h, Nat.not_lt.2 hm]

theorem State.testOver_of_past (h : (s.lane ℓ).dutyTimer = some x) (hm : x.latest < m) : State.testOver m s ℓ =
    ((if x.warned then s else s.warnDuty ℓ x).setHold ℓ .duty (dutyFinding x.figure)).stopTimer ℓ := by
  simp [State.testOver, h, hm]

theorem State.setHold_duty_attention {f : Finding} (h : (s.lane ℓ).takesMember .duty = true) :
    (s.setHold ℓ .duty f).attention = addReasonTo (.holdSet ℓ) s.attention := by
  rw [State.setHold_eq, if_pos h]
  simp [State.withHold, State.attend]

theorem mem_setHold_duty {f : Finding} {p : Reason × Bool} (h : p ∈ (s.setHold ℓ .duty f).attention) :
    p ∈ s.attention ∨ p = (Reason.holdSet ℓ, false) := by
  cases htakes : (s.lane ℓ).takesMember .duty with
  | true => exact mem_of_mem_addReasonTo (State.setHold_duty_attention htakes ▸ h)
  | false =>
    rw [State.setHold_eq, htakes] at h
    exact .inl h

/-- What the tests of a minute make of a lane and of the attention set (R69, R70). -/
structure State.MinuteTested (ℓ : LaneId) (m : Nat) (s t : State) : Prop where
  idle : (s.lane ℓ).dutyTimer = none → t.lane ℓ = s.lane ℓ
  ahead : ∀ x, (s.lane ℓ).dutyTimer = some x → m ≤ x.latest → t.lane ℓ = { s.lane ℓ with
    dutyTimer := some { x with warned := x.warned || decide (x.latest ≤ m + s.warn) } }
  past : ∀ x r, (s.lane ℓ).dutyTimer = some x → x.latest < m → (s.lane ℓ).state = .loading → (s.lane ℓ).record = some r →
    (s.lane ℓ).holds.duty = false → t.lane ℓ = { s.lane ℓ with
      dutyTimer := none
      holds := { (s.lane ℓ).holds with duty := true }
      record := some { r with findings := joinFinding r.findings (dutyFinding x.figure) } } ∧
    (Reason.holdSet ℓ, false) ∈ t.attention
  near : ∀ x, (s.lane ℓ).dutyTimer = some x → x.warned = false → x.latest ≤ m + s.warn →
    (Reason.dutyNear ℓ, false) ∈ t.attention
  only : ∀ p ∈ t.attention, p ∈ s.attention ∨ ∃ x, (s.lane ℓ).dutyTimer = some x ∧
    ((x.warned = false ∧ x.latest ≤ m + s.warn ∧ p = (Reason.dutyNear ℓ, false)) ∨
      (x.latest < m ∧ p = (Reason.holdSet ℓ, false)))
  other : t.lane (otherLane ℓ) = s.lane (otherLane ℓ)
  stays : ∀ q, (q, false) ∈ s.attention → (q, false) ∈ t.attention

theorem State.LaneOp.testNear (h : State.LaneOp ℓ s t) (m : Nat) : State.LaneOp ℓ s (State.testNear m t ℓ) := by
  unfold State.testNear
  split
  · exact h
  · split
    · exact (h.modLane _).attend _
    · exact h

theorem State.LaneOp.testOver (h : State.LaneOp ℓ s t) (m : Nat) : State.LaneOp ℓ s (State.testOver m t ℓ) := by
  unfold State.testOver
  split
  · exact h
  · split
    · split
      · exact (h.setHold _ _).stopTimer
      · exact (((h.modLane _).attend _).setHold _ _).stopTimer
    · exact h

/-- The hold of a lane in LOADING that does not hold DUTY yet (R70). -/
theorem State.testOver_past_eq (htimer : (s.lane ℓ).dutyTimer = some x) (hm : x.latest < m)
    (hstate : (s.lane ℓ).state = .loading) (hrecord : (s.lane ℓ).record = some r) (hduty : (s.lane ℓ).holds.duty = false) :
    State.testOver m s ℓ = (s.setLane ℓ { s.lane ℓ with
      dutyTimer := none
      holds := { (s.lane ℓ).holds with duty := true }
      record := some { r with findings := joinFinding r.findings (dutyFinding x.figure) } }).setAttention
        (addReasonTo (.holdSet ℓ) (if x.warned then s.attention else addReasonTo (.dutyNear ℓ) s.attention)) := by
  have htakes (y : Option DutyTimer) : Lane.takesMember { s.lane ℓ with dutyTimer := y } .duty = true := by
    rw [Lane.takesMember, hstate]
    simp [LaneState.admitsMember, HoldSet.has, hduty]
  rw [State.testOver_of_past htimer hm]
  cases hw : x.warned with
  | true =>
    have hself : (s.lane ℓ).takesMember .duty = true := htakes (s.lane ℓ).dutyTimer
    rw [if_pos rfl, State.setHold_eq, if_pos hself]
    simp [State.withHold, State.joinFindings, State.modRecord, State.modLane, State.stopTimer, State.attend, HoldSet.put, hrecord]
  | false =>
    simp only [Bool.false_eq_true, if_false]
    rw [State.setHold_eq, State.lane_warnDuty, if_pos (htakes _)]
    simp [State.withHold, State.joinFindings, State.modRecord, State.modLane, State.stopTimer, State.attend, HoldSet.put, hrecord,
      State.warnDuty]

theorem State.minuteTested (s : State) (ℓ : LaneId) (m : Nat) :
    State.MinuteTested ℓ m s (State.testOver m (State.testNear m s ℓ) ℓ) := by
  obtain ⟨v, hv⟩ : ∃ v, v = State.testNear m s ℓ := ⟨_, rfl⟩
  have hop := ((State.LaneOp.refl ℓ s).testNear m).testOver m
  rw [← hv] at hop ⊢
  have hnear (x : DutyTimer) (hx : (s.lane ℓ).dutyTimer = some x) (hw : x.warned = false) (hl : x.latest ≤ m + s.warn) :
      (Reason.dutyNear ℓ, false) ∈ v.attention := by
    rw [hv, State.testNear_of_timer hx, if_pos ⟨hw, hl⟩]
    exact mem_addReasonTo_self ..
  have honly (p : Reason × Bool) (hp : p ∈ v.attention) : p ∈ s.attention ∨ ∃ x, (s.lane ℓ).dutyTimer = some x ∧
      x.warned = false ∧ x.latest ≤ m + s.warn ∧ p = (Reason.dutyNear ℓ, false) := by
    cases hx : (s.lane ℓ).dutyTimer with
    | none => exact .inl (by rw [hv, State.testNear_of_none hx] at hp; exact hp)
    | some x =>
      rw [hv, State.testNear_of_timer hx] at hp
      split at hp
      · rename_i hwarn
        exact (mem_of_mem_addReasonTo hp).imp id fun h => ⟨x, rfl, hwarn.1, hwarn.2, h⟩
      · exact .inl hp
  have hlane (x : DutyTimer) (hx : (s.lane ℓ).dutyTimer = some x) := hv ▸ State.testNear_lane (m := m) hx
  refine ⟨fun hnone => ?_, fun x hx hm => ?_, fun x r hx hm hstate hrecord hduty => ?_, fun x hx hw hl => ?_, fun p hp => ?_,
    hop.other, hop.stays⟩
  · rw [hv, State.testNear_of_none hnone, State.testOver_of_none hnone]
  · rw [State.testOver_of_ahead (congrArg Lane.dutyTimer (hlane x hx)) hm]
    exact hlane x hx
  · have hx' := hlane x hx
    rw [State.testOver_past_eq (s := v) (m := m) (r := r) (congrArg Lane.dutyTimer hx') hm (by rw [hx']; exact hstate)
      (by rw [hx']; exact hrecord) (by rw [hx']; exact hduty)]
    exact ⟨by rw [State.lane_setAttention, State.lane_setLane_same, hx'], mem_addReasonTo_self ..⟩
  · exact ((State.LaneOp.refl ℓ v).testOver m).stays _ (hnear x hx hw hl)
  · cases hx : (s.lane ℓ).dutyTimer with
    | none =>
      rw [State.testOver_of_none (by rw [hv, State.testNear_of_none hx]; exact hx)] at hp
      exact (honly p hp).imp id fun ⟨x, hx', h⟩ => ⟨x, by rw [← hx, hx'], .inl h⟩
    | some x =>
      have hx' := congrArg Lane.dutyTimer (hlane x hx)
      have hv' (hp' : p ∈ v.attention) : p ∈ s.attention ∨ ∃ y, some x = some y ∧
          ((y.warned = false ∧ y.latest ≤ m + s.warn ∧ p = (Reason.dutyNear ℓ, false)) ∨
            (y.latest < m ∧ p = (Reason.holdSet ℓ, false))) :=
        (honly p hp').imp id fun ⟨y, hy, h⟩ => ⟨y, by rw [← hx, hy], .inl h⟩
      by_cases hm : x.latest < m
      · have hwarned : (x.warned || decide (x.latest ≤ m + s.warn)) = true := by
          rw [decide_eq_true (Nat.le_add_right_of_le hm.le), Bool.or_true]
        rw [State.testOver_of_past hx' hm, if_pos hwarned] at hp
        rcases mem_setHold_duty hp with hp | hp
        · exact hv' hp
        · exact .inr ⟨x, rfl, .inr ⟨hm, hp⟩⟩
      · rw [State.testOver_of_ahead hx' (Nat.not_lt.1 hm)] at hp
        exact hv' hp

/-! ### The event -/

theorem State.advanced_eq (m : Nat) (s : State) : State.advanced m s = State.ageTable m
    (State.testOver m (State.testNear m (State.testOver m (State.testNear m s .a) .a) .b) .b) := rfl

theorem State.advanceDue_eq (h : s.unit.clock = some m) :
    s.advanceDue = true ↔ s.inReset = false ∧ m < 4294967295 ∧ s.unit.phase = 60000 := by
  unfold State.advanceDue
  rw [h]
  show (!s.inReset && decide (m < 4294967295) && s.unit.phase == 60000) = true ↔ _
  rw [Bool.and_eq_true, Bool.and_eq_true, Bool.not_eq_true', decide_eq_true_iff, beq_iff_eq, and_assoc]

theorem State.dueMinute_eq (h : s.unit.clock = some m) : s.dueMinute =
    if s.inReset = false ∧ m < 4294967295 ∧ s.unit.phase = 60000 then m + 1 else m := by
  have hminute : s.minute = m := by simp [State.minute, h]
  simp only [State.dueMinute, State.advanceDue_eq h, hminute]

theorem RackLine.tick_of_break {l : RackLine} (h : l.breakLeft ≠ 0) :
    l.tick = { l with breakLeft := l.breakLeft - 1, idleCount := 0 } := by rw [RackLine.tick, if_pos h]

theorem RackLine.tick_of_no_break {l : RackLine} (h : l.breakLeft = 0) : l.tick = { l with
    idleCount := l.idleCount +
      if l.transmitter = none ∧ (l.receiver = none ∨ l.idleCount < 11) then 1 else 0 } := by
  rw [RackLine.tick, if_neg (by simp [h])]
  have hgap : Config.idleGap ≤ l.idleCount + 1 ↔ ¬ l.idleCount < 11 := by
    rw [show Config.idleGap = 12 from rfl]
    omega
  by_cases htransmitter : l.transmitter = none
  · rw [if_neg (by simp [htransmitter])]
    by_cases hreceiver : l.receiver = none
    · rw [if_neg (by simp [hreceiver]), if_pos ⟨htransmitter, .inl hreceiver⟩]
    · by_cases hidle : l.idleCount < 11
      · rw [if_neg fun hf => hgap.1 hf.2 hidle, if_pos ⟨htransmitter, .inr hidle⟩]
      · rw [if_pos ⟨Option.isSome_iff_ne_none.2 hreceiver, hgap.2 hidle⟩, if_neg fun hf => hf.2.elim hreceiver hidle, Nat.add_zero]
  · rw [if_pos (Option.isSome_iff_ne_none.2 htransmitter), if_neg fun hf => htransmitter hf.1, Nat.add_zero]

/-- Settles O47. -/
theorem minuteEventsAct : Obligations.MinuteEventsAct := by
  refine ⟨?_, ?_, ?_, ?_, ?_, ?_, ?_⟩
  · intro s m hreset hclock hmax
    show execMinuteAdvance s = _
    simp only [execMinuteAdvance, hclock, if_pos (Or.inr hmax : s.inReset = true ∨ Config.clockMax ≤ m)]
  · intro s m cfg hreset hclock hmax hcfg
    obtain ⟨u, hu⟩ : ∃ u, u = s.setUnit { s.unit with clock := some (m + 1), phase := 0 } := ⟨_, rfl⟩
    obtain ⟨v, hv⟩ : ∃ v, v = State.testOver (m + 1) (State.testNear (m + 1) u .a) .a := ⟨_, rfl⟩
    obtain ⟨w, hw⟩ : ∃ w, w = State.testOver (m + 1) (State.testNear (m + 1) v .b) .b := ⟨_, rfl⟩
    have hexec : exec .minuteAdvance s = .next (State.ageTable (m + 1) w) := by
      have hnot : ¬ (s.inReset = true ∨ Config.clockMax ≤ m) := by
        simp [hreset, Nat.not_le.2 (show m < Config.clockMax from hmax)]
      show execMinuteAdvance s = _
      simp only [execMinuteAdvance, hclock, if_neg hnot, State.advanced_eq, hw, hv, hu]
    have hwarn : u.warn = cfg.limits.warn ∧ v.warn = cfg.limits.warn := by
      simp [State.warn, hv, hu, hcfg]
    have hA : State.MinuteTested .a (m + 1) u v := hv ▸ u.minuteTested .a (m + 1)
    have hB : State.MinuteTested .b (m + 1) v w := hw ▸ v.minuteTested .b (m + 1)
    have hafterA : w.lane .a = v.lane .a := hB.other
    have hbeforeB : v.lane .b = s.lane .b := hA.other.trans (by rw [hu]; rfl)
    have hlaneA : u.lane .a = s.lane .a := by rw [hu]; rfl
    obtain ⟨hidleA, haheadA, hpastA, hnearA, honlyA, -, hstaysA⟩ := hA
    obtain ⟨hidleB, haheadB, hpastB, hnearB, honlyB, -, hstaysB⟩ := hB
    rw [hlaneA, ← hafterA, hwarn.1] at haheadA
    rw [hlaneA, ← hafterA] at hidleA hpastA
    rw [hlaneA, hwarn.1] at hnearA honlyA
    rw [hbeforeB, hwarn.2] at haheadB hnearB honlyB
    rw [hbeforeB] at hidleB hpastB
    refine ⟨_, hexec, by simp [State.ageTable, hw, hv, hu], ?_, fun ℓ => ?_, fun ℓ => ?_, fun ℓ => ?_, fun ℓ => ?_,
      fun p hp => ?_, by simp [State.ageTable, hw, hv, hu], by simp [State.ageTable, hw, hv, hu],
      by simp [State.ageTable, hw, hv, hu], by simp [State.ageTable, hw, hv, hu], by simp [State.ageTable, hw, hv, hu],
      by simp [State.ageTable, hw, hv, hu], by simp [State.ageTable, hw, hv, hu], by simp [State.ageTable, hw, hv, hu],
      by simp [State.ageTable, hw, hv, hu]⟩
    · simp [State.ageTable, figuresLive, State.stale, hw, hv, hu, hcfg]
    · cases ℓ with
      | a => exact hidleA
      | b => exact hidleB
    · cases ℓ with
      | a => exact haheadA
      | b => exact haheadB
    · cases ℓ with
      | a =>
        intro x r hx hm hstate hrecord hduty
        obtain ⟨hlane, hset⟩ := hpastA x r hx hm hstate hrecord hduty
        exact ⟨hlane, hstaysB _ hset⟩
      | b => exact hpastB
    · cases ℓ with
      | a => exact fun x hx hw' hl => hstaysB _ (hnearA x hx hw' hl)
      | b => exact hnearB
    · rcases honlyB p hp with hp | ⟨x, hx, h⟩
      · rcases honlyA p hp with hp | ⟨x, hx, h⟩
        · rw [hu] at hp
          exact .inl hp
        · exact .inr ⟨.a, x, hx, h⟩
      · exact .inr ⟨.b, x, hx, h⟩
  · intro ℓ s x cfg hreset hcfg htimer hwarned hnear
    have hwarn : s.warn = cfg.limits.warn := by simp [State.warn, hcfg]
    show Host.Outcome.next (if s.inReset then s else State.testNear s.dueMinute s ℓ) = _
    rw [if_neg (by simp [hreset]), State.testNear_of_timer htimer, if_pos ⟨hwarned, by rw [hwarn]; exact hnear⟩]
    rfl
  · intro ℓ s x r hreset htimer hpast hstate hrecord hduty
    show Host.Outcome.next (if s.inReset then s else State.testOver s.dueMinute s ℓ) = _
    rw [if_neg (by simp [hreset]), State.testOver_past_eq htimer hpast hstate hrecord hduty]
    rfl
  · intro d m s f cfg hreset hclock hcfg hf
    have hdue : s.advanceDue = true → s.dueMinute = m + 1 := fun h => by
      rw [State.dueMinute, if_pos h, State.minute, hclock]
      rfl
    have haged : s.driverAged d = true ↔
        m < 4294967295 ∧ s.unit.phase = 60000 ∧ (cfg.limits.stale : Int) < ((m + 1 : Nat) : Int) - f.stamp := by
      unfold State.driverAged
      rw [hf]
      show (s.advanceDue && !figuresLive s.stale s.dueMinute f) = true ↔ _
      rw [Bool.and_eq_true, Bool.not_eq_true']
      constructor
      · rintro ⟨h, hlive⟩
        obtain ⟨-, hm, hphase⟩ := (State.advanceDue_eq hclock).1 h
        rw [hdue h] at hlive
        simp only [figuresLive, State.stale, hcfg, decide_eq_false_iff_not, not_le] at hlive
        exact ⟨hm, hphase, hlive⟩
      · rintro ⟨hm, hphase, hlive⟩
        have h : s.advanceDue = true := (State.advanceDue_eq hclock).2 ⟨hreset, hm, hphase⟩
        refine ⟨h, ?_⟩
        rw [hdue h]
        simpa only [figuresLive, State.stale, hcfg, decide_eq_false_iff_not, not_le] using hlive
    show Host.Outcome.next (if s.driverAged d then s.setReleased (s.released.filter (fun e => e.1 != d)) else s) = _
    by_cases h : s.driverAged d = true
    · rw [if_pos h, if_pos (haged.1 h)]
    · rw [if_neg h, if_neg fun h' => h (haged.2 h')]
  · exact fun s m hclock => State.dueMinute_eq hclock
  · intro s hpending hreset
    have hstep : step s = .next s.tick := by simp [step, hpending]
    have hon : s.lineOn = s.joined := by simp [State.lineOn, hreset]
    have hline : s.tick.line = s.tickLine.line := by
      rcases s.tick_cases with ⟨h, -⟩ | ⟨-, -, h⟩ | ⟨-, -, h⟩
      · simp [hreset] at h
      · rw [h]; rfl
      · rw [h]; rfl
    have hrun (hjoined : s.joined = true) : s.tick.line = s.line.tick := by
      rw [hline, State.tickLine, if_pos (hon.trans hjoined)]
      rfl
    refine ⟨_, hstep, fun hjoined => ?_, fun hjoined hbreak => (hrun hjoined).trans (RackLine.tick_of_break hbreak),
      fun hjoined hbreak => (hrun hjoined).trans (RackLine.tick_of_no_break hbreak), fun hparts => ?_, fun hparts => ?_, ?_⟩
    · rw [hline, State.tickLine, if_neg (by simp [hon, hjoined])]
    · rcases s.tick_cases with ⟨h, -⟩ | ⟨-, -, h⟩ | ⟨-, hparts', -⟩
      · simp [hreset] at h
      · rw [hline, h]
        unfold State.tickLine
        split <;> rfl
      · exact (Nat.not_le.2 hparts hparts').elim
    · rcases s.tick_cases with ⟨h, -⟩ | ⟨-, hparts', -⟩ | ⟨-, -, h⟩
      · simp [hreset] at h
      · exact (Nat.not_le.2 hparts' hparts).elim
      · rw [h]
        refine ⟨fun ℓ => ?_, fun c => ?_, by simp [State.tickMs, PeerView.tick, countDown], ?_⟩
        · cases ℓ <;> simp only [State.tickMs, State.lane, Lanes.get, State.setUnit_lanes, State.tickLine_frame] <;> rfl
        · simp [State.tickMs, State.chan, Channel.tick, countDown]
        · cases hclock : s.unit.clock <;> simp [State.tickMs, StationUnit.tick, hclock, Config.minuteMs]
    · rcases s.tick_cases with ⟨h, -⟩ | ⟨-, -, h⟩ | ⟨-, -, h⟩
      · simp [hreset] at h
      · rw [h]
        simp [hpending]
      · rw [h]
        simp [State.tickMs, hpending]

end Minutes

end Sys2Proof.Machine

namespace Sys2Proof.Machine

/-! ## Proofs: the refresh tick and the expiry of a row (chapter 7) -/

section Refresh

variable {s t u : State} {a : Nat}

/-! ### Rows -/

theorem PeerView.row_setRow_of_ne (v : PeerView) (a b : Nat) {r : PeerRow} (hr : r ≠ PeerRow.reset) :
    (v.setRow a r).row b = if b = a then r else v.row b := by
  unfold PeerView.row PeerView.setRow Assoc.put
  rw [if_neg hr]
  exact Assoc.get_insert ..

theorem Assoc.get_map {α β : Type} (f : α → β) (d : α) (k : Nat) (m : Assoc α) :
    Assoc.get (f d) k (m.map fun p => (p.1, f p.2)) = f (Assoc.get d k m) := by
  induction m with
  | nil => rfl
  | cons p m ih =>
    rw [List.map_cons, Assoc.get, Assoc.get]
    split
    · rfl
    · exact ih

theorem PeerView.row_mapRows (v : PeerView) {f : PeerRow → PeerRow} (hf : f .reset = .reset) (a : Nat) :
    (v.mapRows f).row a = f (v.row a) := by
  have h := Assoc.get_map f PeerRow.reset a v.rows
  rw [hf] at h
  exact h

theorem PeerRow.expire_ne_reset (r : PeerRow) : r.expire ≠ PeerRow.reset := fun h => by
  have := congrArg PeerRow.missed h
  simp [PeerRow.expire, PeerRow.reset] at this

theorem Lists.stop_setStop_of_ne (l : Lists) (a b : Nat) {x : StopMember} (hx : x ≠ .absent) :
    (l.setStop a x).stop b = if b = a then x else l.stop b := by
  unfold Lists.stop Lists.setStop Assoc.put
  rw [if_neg hx]
  exact Assoc.get_insert ..

/-! ### The refreshes of the own orders (R119) -/

theorem State.refreshOrder_lists (s : State) (n : Nat) : (s.refreshOrder n).lists = s.lists := by
  unfold State.refreshOrder
  split <;> simp

theorem State.refreshOrder_of_active {n : Nat} {kind : KeyKind} {key reason : Nat}
    (h : s.lists.order n = .active kind key reason) : s.refreshOrder n = s.queueNotice (.hold true n kind key reason) := by
  simp [State.refreshOrder, h]

theorem State.refreshOrder_of_not_active {n : Nat} (h : ∀ kind key reason, s.lists.order n ≠ .active kind key reason) :
    s.refreshOrder n = s := by
  unfold State.refreshOrder
  split
  · rename_i h'
    exact (h _ _ _ h').elim
  · rfl
  · rfl

theorem noticesKept_refreshOrder (s : State) (n : Nat) : noticesKept (· = .hold n) s (s.refreshOrder n) := by
  unfold State.refreshOrder
  split
  · exact noticesKept_queueNotice s (.hold true n _ _ _)
  · exact .refl _ s
  · exact .refl _ s

theorem sendQueueOnly_refreshOrder (s : State) (n : Nat) : sendQueueOnly s (s.refreshOrder n) := by
  unfold State.refreshOrder
  split
  · exact sendQueueOnly_queueNotice ..
  · exact .refl s
  · exact .refl s

/-- What the refreshes of some slots leave of the Send Queue and of the state (R119). -/
structure State.OrdersRefreshed (l : List Nat) (s t : State) : Prop where
  queued : ∀ n ∈ l, ∀ kind key reason, s.lists.order n = .active kind key reason → s.noticeAt (.hold n) = none →
    t.noticeAt (.hold n) = some ⟨.hold true n kind key reason, false⟩
  held : ∀ p, s.noticeAt p ≠ none → t.noticeAt p = s.noticeAt p
  idle : ∀ n, (∀ kind key reason, s.lists.order n ≠ .active kind key reason) → t.noticeAt (.hold n) = s.noticeAt (.hold n)
  kept : noticesKept (fun p => ∃ n ∈ l, p = .hold n) s t
  line : sendQueueOnly s t
  frame : t = s.setLine t.line

theorem State.ordersRefreshed (l : List Nat) (s : State) : State.OrdersRefreshed l s (l.foldl State.refreshOrder s) := by
  induction l generalizing s with
  | nil => exact ⟨by simp, fun _ _ => rfl, fun _ _ => rfl, .refl _ s, .refl s, rfl⟩
  | cons m l ih =>
    obtain ⟨hqueued, hheld, hidle, hkept, hline, hframe⟩ := ih (s.refreshOrder m)
    have hstep := noticesKept_refreshOrder s m
    have hlists := s.refreshOrder_lists m
    have hself (p : Place) (hp : s.noticeAt p ≠ none) : (s.refreshOrder m).noticeAt p = s.noticeAt p := by
      unfold State.refreshOrder
      split
      · rw [State.noticeAt_queueNotice, if_neg fun h => by cases h.1; exact hp h.2]
      · rfl
      · rfl
    rw [List.foldl_cons]
    refine ⟨fun n hn kind key reason horder hnone => ?_, fun p hp => ?_, fun n hn => ?_, fun p hp => ?_, ?_, ?_⟩
    · by_cases hm : n = m
      · subst hm
        have hfirst : (s.refreshOrder n).noticeAt (.hold n) = some ⟨.hold true n kind key reason, false⟩ := by
          rw [State.refreshOrder_of_active horder, State.noticeAt_queueNotice, if_pos ⟨rfl, hnone⟩]
        rw [hheld _ (by simp [hfirst]), hfirst]
      · have hl : n ∈ l := (List.mem_cons.1 hn).resolve_left hm
        have hbefore := hstep (.hold n) (by simpa using hm)
        exact hqueued n hl kind key reason (by rw [hlists]; exact horder) (hbefore.trans hnone)
    · rw [hheld p (by rw [hself p hp]; exact hp), hself p hp]
    · have hfirst : (s.refreshOrder m).noticeAt (.hold n) = s.noticeAt (.hold n) := by
        by_cases hm : n = m
        · subst hm
          rw [State.refreshOrder_of_not_active hn]
        · exact hstep (.hold n) (by simpa using hm)
      rw [hidle n (by rw [hlists]; exact hn), hfirst]
    · rw [hkept p fun ⟨n, hn, h⟩ => hp ⟨n, List.mem_cons_of_mem _ hn, h⟩,
        hstep p fun h => hp ⟨m, List.mem_cons_self, h⟩]
    · exact (sendQueueOnly_refreshOrder s m).trans hline
    · have hfirst : s.refreshOrder m = s.setLine (s.refreshOrder m).line := by
        unfold State.refreshOrder
        split
        · unfold State.queueNotice
          split <;> rfl
        · rfl
        · rfl
      rw [hframe, hfirst]
      rfl

/-- Settles O48. -/
theorem refreshTicksAgeTheRows : Obligations.RefreshTicksAgeTheRows := by
  refine ⟨?_, ?_⟩
  · intro s hreset hrefresh
    obtain ⟨v, hv⟩ : ∃ v, v = (List.range 8).foldl State.refreshOrder (s.queueNotice .status) := ⟨_, rfl⟩
    have hexec : exec .refreshTick s =
        .next (v.setView { v.view.mapRows PeerRow.age with refresh := some s.refreshMs }) := by
      show Host.Outcome.next (if s.inReset ∨ s.view.refresh.isNone then s else _) = _
      rw [if_neg (by simp [hreset, hrefresh]), hv]
    obtain ⟨hqueued, hheld, hidle, hkept, hline, hframe⟩ := (s.queueNotice .status).ordersRefreshed (List.range 8)
    rw [← hv] at hqueued hheld hidle hkept hline hframe
    have hstatus := noticesKept_queueNotice s .status
    have hlists : (s.queueNotice .status).lists = s.lists := by simp
    have hhold (n : Nat) : (s.queueNotice .status).noticeAt (.hold n) = s.noticeAt (.hold n) := hstatus _ nofun
    rw [hlists] at hqueued hidle
    have hview : v.view = s.view := by rw [hframe]; simp
    have hstatusAt : (s.queueNotice .status).noticeAt .status ≠ none := State.noticeAt_queueNotice_ne_none s .status
    refine ⟨_, hexec, ?_, fun a => ?_, ?_, fun hs => ?_, fun n kind key reason hn horder hnone => ?_, fun n hn => ?_,
      fun p hp => ?_, ?_, ?_, ?_, ?_, ?_, ?_, ?_, ?_⟩
    · rw [State.setView_view, hview]
      rfl
    · rw [State.setView_view, hview]
      exact PeerView.row_mapRows s.view (f := PeerRow.age) rfl a
    · show v.noticeAt .status ≠ none
      rw [hheld _ hstatusAt]
      exact hstatusAt
    · show v.noticeAt .status = _
      rw [hheld _ hstatusAt, State.noticeAt_queueNotice, if_neg fun h => hs h.2]
    · exact hqueued n (by simpa using hn) kind key reason horder ((hhold n).trans hnone)
    · show v.noticeAt (.hold n) = _
      rcases hn with hn | hn | hn
      · exact (hkept _ fun ⟨m, hm, h⟩ => by cases h; simp at hm; omega).trans (hhold n)
      · exact (hheld _ (by rw [hhold]; exact hn)).trans (hhold n)
      · exact (hidle n hn).trans (hhold n)
    · show v.noticeAt p = _
      rw [hkept p fun ⟨n, _, h⟩ => hp (.inr ⟨n, h⟩), hstatus p fun h => hp (.inl h)]
    · exact (sendQueueOnly_queueNotice s .status).trans hline
    · rw [hframe]; simp
    · rw [hframe]; simp
    · rw [hframe]; simp
    · rw [hframe]; simp
    · rw [hframe]; simp
    · rw [hframe]; simp
    · rw [hframe]; simp [sameStation]
  · intro a s hreset hvalid hmissed
    have hexec : exec (.rowExpiry a) s = .next (s.expireRow a) := by
      show Host.Outcome.next (if _ then s.expireRow a else s) = _
      rw [if_pos (by simp [hreset, hvalid, hmissed])]
    obtain ⟨v, hv⟩ : ∃ v, v = s.setView (s.view.setRow a (s.view.row a).expire) := ⟨_, rfl⟩
    obtain ⟨w, hw⟩ : ∃ w, w = State.reportFalls s v := ⟨_, rfl⟩
    obtain ⟨l, hl⟩ : ∃ l, l = s.lists.orphan a := ⟨_, rfl⟩
    have hlists : w.lists = s.lists := by simp [hw, hv]
    have heq : s.expireRow a = if s.lists.orphans a then (w.setLists l).attend .orphan else w.setLists l := by
      have hl' : l = w.lists.orphan a := by rw [hl, hlists]
      rw [hl', hw, hv]
      rfl
    have hoffers : v.Offers w := hw ▸ .reportFalls s v
    have hrow (b : Nat) : w.view.row b = if b = a then (s.view.row a).expire else s.view.row b := by
      rw [hw]
      simp only [State.reportFalls_frame, hv, State.setView_view]
      exact PeerView.row_setRow_of_ne _ _ _ (PeerRow.expire_ne_reset _)
    have hview : w.view = v.view := by simp [hw]
    have hframe : (s.expireRow a).view = w.view ∧ (s.expireRow a).channels = w.channels ∧ (s.expireRow a).line = w.line ∧
        (s.expireRow a).lists = l := by
      rw [heq]
      split <;> simp
    obtain ⟨hfview, hfchannels, hfline, hflists⟩ := hframe
    have hattentionW : w.attention = s.attention := by simp [hw, hv]
    have horphans : s.lists.orphans a = true ↔
        s.lists.stop a = .live ∨ ∃ e ∈ s.lists.holds, e.origin = a ∧ e.orphan = false := by
      simp [Lists.orphans]
    refine ⟨_, hexec, ?_, ⟨fun b hb => ?_, ?_, ?_, ?_⟩, fun b => ?_, ?_, fun h => ?_, fun h => ?_, fun d _ => ?_, ?_,
      fun p hp => ?_, ?_, ?_, ?_, ?_⟩
    · rw [hfview, hrow, if_pos rfl]
      rfl
    · rw [hfview, hrow, if_neg hb]
    · rw [hfview, hview, hv]; rfl
    · rw [hfview, hview, hv]; rfl
    · rw [hfview, hview, hv]; rfl
    · rw [hflists, hl]
      show Lists.stop (if s.lists.stop a = .live then s.lists.setStop a .orphan else s.lists) b = _
      by_cases hlive : s.lists.stop a = .live
      · rw [if_pos hlive, Lists.stop_setStop_of_ne _ _ _ (by simp)]
        simp [hlive]
      · rw [if_neg hlive, if_neg fun h => hlive h.2]
    · rw [hflists, hl]
      unfold Lists.orphan
      dsimp only
      split <;> rfl
    · rw [heq, if_pos (horphans.2 h)]
      show addReasonTo .orphan w.attention = _
      rw [hattentionW]
    · rw [heq, if_neg fun h' => h (horphans.1 h')]
      exact hattentionW
    · have hd := hoffers.chan d
      rw [State.chan, hfchannels]
      rw [hv] at hd
      exact hd
    · exact (lineKept_of_eq (by rw [hv]; rfl)).trans (hoffers.line.trans (lineKept_of_eq hfline))
    · have hkept := hoffers.kept p hp
      rw [State.noticeAt, hfline]
      rw [hv] at hkept
      exact hkept
    · rw [heq]; split <;> simp [hw, hv]
    · rw [heq]; split <;> simp [hw, hv]
    · rw [heq]; split <;> simp [hw, hv]
    · rw [heq]; split <;> simp [hw, hv, sameStation]

end Refresh

end Sys2Proof.Machine

namespace Sys2Proof.Machine

/-! ## Proofs: the end of resync and its offer rounds (chapters 4 and 7) -/

section Rounds

variable {s t u : State} {c d : ChanId} {h : Nat} {ℓ : LaneId}

/-! ### Counting channels -/

theorem ChanId.all_split (c : ChanId) : ChanId.all = ChanId.all.take c.index ++ c :: ChanId.all.drop (c.index + 1) := by
  cases c <;> rfl

/-- A property that one channel gains raises its count by one. -/
theorem countP_gains {l : List ChanId} {p q : ChanId → Bool} (hl : l.Nodup) (hc : c ∈ l) (hp : p c = false) (hq : q c = true)
    (hd : ∀ d, d ≠ c → q d = p d) : l.countP q = l.countP p + 1 := by
  obtain ⟨l1, l2, rfl⟩ := List.append_of_mem hc
  have hnodup := List.nodup_middle.1 hl
  obtain ⟨hnot, -⟩ := List.nodup_cons.1 hnodup
  have hsame (l' : List ChanId) (hl' : c ∉ l') : l'.countP q = l'.countP p :=
    List.countP_congr fun d hmem => by rw [hd d fun hdc => hl' (hdc ▸ hmem)]
  rw [List.countP_append, List.countP_append, List.countP_cons, List.countP_cons, if_pos hq, hp, if_neg (by simp),
    hsame l1 fun hm => hnot (List.mem_append_left _ hm), hsame l2 fun hm => hnot (List.mem_append_right _ hm)]
  omega

/-- The waiters before a channel are those of the list's part before it. -/
theorem State.waitersBelow_eq (s : State) (h : Nat) (c : ChanId) : s.waitersBelow h c =
    (ChanId.all.take c.index).countP (fun d => s.onHeader d h && (s.chan d).wantsDraw) := by
  have hbefore : ∀ d ∈ ChanId.all.take c.index, d.index < c.index := by cases c <;> decide
  have hafter : ∀ d ∈ c :: ChanId.all.drop (c.index + 1), ¬ d.index < c.index := by cases c <;> decide
  unfold State.waitersBelow
  rw [ChanId.all_split c, List.countP_append]
  have hsplit : (ChanId.all.take c.index ++ c :: ChanId.all.drop (c.index + 1)).take c.index = ChanId.all.take c.index := by
    rw [← ChanId.all_split c]
  rw [hsplit]
  have hzero : (c :: ChanId.all.drop (c.index + 1)).countP
      (fun d => decide (d.index < c.index) && s.onHeader d h && (s.chan d).wantsDraw) = 0 :=
    List.countP_eq_zero.2 fun d hd => by simp [hafter d hd]
  rw [hzero, Nat.add_zero]
  exact List.countP_congr fun d hd => by simp [hbefore d hd]

/-! ### One offer (R89) -/

/-- The room a channel finds in a round: its header's count and its asking channels lie below the limit. -/
def State.hasRoom (s : State) (h : Nat) : Prop := s.viewCount h + s.asking h < s.headerLimit h

/-- What the offers of a header leave of what the round reads. -/
structure State.RoundFrame (s t : State) : Prop where
  unit : t.unit = s.unit
  view : t.view = s.view
  lanes : t.lanes = s.lanes
  grants : ∀ d, (t.chan d).grant = (s.chan d).grant

theorem State.RoundFrame.onHeader (hf : State.RoundFrame s t) (d : ChanId) (h : Nat) : t.onHeader d h = s.onHeader d h := by
  simp [State.onHeader, State.chanCfg, hf.unit]

theorem State.RoundFrame.headerLimit (hf : State.RoundFrame s t) (h : Nat) : t.headerLimit h = s.headerLimit h := by
  simp [State.headerLimit, hf.unit]

theorem State.RoundFrame.viewCount (hf : State.RoundFrame s t) (h : Nat) : t.viewCount h = s.viewCount h := by
  simp [State.viewCount, State.ownGrants, hf.onHeader, hf.grants, hf.view]

theorem State.offerOne_of_not (hn : ¬ (s.onHeader c h = true ∧ (s.chan c).wantsDraw = true ∧ s.hasRoom h)) :
    State.offerOne h s c = s := by
  unfold State.offerOne
  rw [if_neg]
  intro hif
  simp only [Bool.and_eq_true, decide_eq_true_iff] at hif
  exact hn ⟨hif.1.1.1, hif.1.1.2, hif.2⟩

theorem State.offerOne_of (hview : s.view.resync = none) (hon : s.onHeader c h = true) (hwants : (s.chan c).wantsDraw = true)
    (hroom : s.hasRoom h) : State.offerOne h s c =
      (s.queueNotice (.draw true c h)).modChan c (fun ch => { ch with draw := .asked }) := by
  unfold State.offerOne
  rw [if_pos (by simpa [hview, hon, hwants, State.hasRoom] using hroom)]

theorem Channel.draw_of_wantsDraw {ch : Channel} (h : ch.wantsDraw = true) : ch.draw = .none := by
  simp only [Channel.wantsDraw, Bool.and_eq_true, beq_iff_eq] at h
  exact h.2

theorem State.roundFrame_offerOne (h : Nat) (s : State) (c : ChanId) : State.RoundFrame s (State.offerOne h s c) := by
  refine ⟨by simp, by simp, by simp, fun d => ?_⟩
  rcases (State.Offers.offerOne h s c).chan d with hd | ⟨hwants, hd⟩
  · rw [hd]
  · rw [hd, Channel.grant, Channel.grant, Channel.draw_of_wantsDraw hwants]
    rfl

theorem State.RoundFrame.refl (s : State) : State.RoundFrame s s := ⟨rfl, rfl, rfl, fun _ => rfl⟩

theorem State.RoundFrame.trans (hf : State.RoundFrame s t) (hf' : State.RoundFrame t u) : State.RoundFrame s u :=
  ⟨hf'.unit.trans hf.unit, hf'.view.trans hf.view, hf'.lanes.trans hf.lanes, fun d => (hf'.grants d).trans (hf.grants d)⟩

theorem State.roundFrame_foldl {ι : Type} {f : State → ι → State} (hf : ∀ t i, State.RoundFrame t (f t i)) (l : List ι)
    (s : State) : State.RoundFrame s (l.foldl f s) := by
  induction l generalizing s with
  | nil => exact .refl s
  | cons i l ih => exact (hf s i).trans (ih _)

/-- Another channel, and every channel of another header, stays through an offer. -/
theorem State.offerOne_chan_eq (hn : d ≠ c ∨ s.onHeader d h = false) :
    (State.offerOne h s c).chan d = s.chan d ∧ (State.offerOne h s c).noticeAt (.draw d) = s.noticeAt (.draw d) := by
  by_cases hdc : d = c
  · subst hdc
    rw [State.offerOne_of_not fun h' => by simp [hn.resolve_left (fun h => h rfl)] at h']
    exact ⟨rfl, rfl⟩
  · unfold State.offerOne
    split
    · refine ⟨by simp [State.chan_modChan_ne _ _ hdc], ?_⟩
      exact noticesKept_queueNotice s (.draw true c h) (.draw d) fun hp => hdc (by cases hp; rfl)
    · exact ⟨rfl, rfl⟩

/-- The channels that have asked after some were passed: one more for each waiter among them while there is room (R89). -/
theorem State.asking_foldl (hview : s.view.resync = none) (l : List ChanId) (hl : l.Nodup) :
    (l.foldl (State.offerOne h) s).asking h = s.asking h +
        min (l.countP (fun d => s.onHeader d h && (s.chan d).wantsDraw)) (s.headerLimit h - (s.viewCount h + s.asking h)) ∧
      ∀ d, d ∉ l → (l.foldl (State.offerOne h) s).chan d = s.chan d ∧
        (l.foldl (State.offerOne h) s).noticeAt (.draw d) = s.noticeAt (.draw d) := by
  induction l using List.reverseRecOn with
  | nil => exact ⟨by simp, fun _ _ => ⟨rfl, rfl⟩⟩
  | append_singleton l c ih =>
    have hnodup : l.Nodup ∧ c ∉ l := by
      rw [List.nodup_append] at hl
      exact ⟨hl.1, fun hc => hl.2.2 c hc c (by simp) rfl⟩
    obtain ⟨hasking, hsame⟩ := ih hnodup.1
    rw [List.foldl_append, List.foldl_cons, List.foldl_nil, List.countP_append, List.countP_singleton]
    obtain ⟨t, ht⟩ : ∃ t, t = l.foldl (State.offerOne h) s := ⟨_, rfl⟩
    have hframe : State.RoundFrame s t := ht ▸ State.roundFrame_foldl (State.roundFrame_offerOne h) l s
    rw [← ht] at hasking hsame ⊢
    have hc := hsame c hnodup.2
    refine ⟨?_, fun d hd => ?_⟩
    · by_cases hwaits : s.onHeader c h = true ∧ (s.chan c).wantsDraw = true
      · obtain ⟨hon, hwants⟩ := hwaits
        have hcount : (s.onHeader c h && (s.chan c).wantsDraw) = true := by simp [hon, hwants]
        rw [if_pos hcount]
        by_cases hroom : t.hasRoom h
        · have heq := State.offerOne_of (s := t) (c := c) (h := h) (by rw [hframe.view]; exact hview)
            (by rw [hframe.onHeader]; exact hon) (by rw [hc.1]; exact hwants) hroom
          have hgain : (State.offerOne h t c).asking h = t.asking h + 1 := by
            unfold State.asking
            refine countP_gains (c := c) ChanId.nodup_all (ChanId.mem_all c) ?_ ?_ fun d hd => ?_
            · rw [hc.1, Channel.draw_of_wantsDraw hwants]
              simp
            · rw [(State.roundFrame_offerOne h t c).onHeader, hframe.onHeader, hon, heq]
              simp
            · rw [(State.roundFrame_offerOne h t c).onHeader, (State.offerOne_chan_eq (.inl hd)).1]
          rw [hgain, hasking]
          rw [State.hasRoom, hframe.viewCount, hframe.headerLimit, hasking] at hroom
          omega
        · rw [State.offerOne_of_not fun h' => hroom h'.2.2, hasking]
          rw [State.hasRoom, hframe.viewCount, hframe.headerLimit, hasking] at hroom
          omega
      · have hcount : ¬ (s.onHeader c h && (s.chan c).wantsDraw) = true := by simpa using hwaits
        rw [if_neg hcount, Nat.add_zero, State.offerOne_of_not, hasking]
        rw [hframe.onHeader, hc.1]
        exact fun h' => hwaits ⟨h'.1, h'.2.1⟩
    · have hdl : d ∉ l := fun hm => hd (List.mem_append_left _ hm)
      have hdc : d ≠ c := fun hm => hd (by simp [hm])
      obtain ⟨h1, h2⟩ := State.offerOne_chan_eq (s := t) (h := h) (.inl hdc)
      exact ⟨h1.trans (hsame d hdl).1, h2.trans (hsame d hdl).2⟩

/-- A round offers a channel of its header exactly where the count, the asking channels and the waiters before it leave room
(R89). -/
theorem State.offerRound_at (hview : s.view.resync = none) (hon : s.onHeader c h = true) (hwants : (s.chan c).wantsDraw = true) :
    (s.viewCount h + s.asking h + s.waitersBelow h c < s.headerLimit h →
      (s.offerRound h).chan c = { s.chan c with draw := .asked } ∧
      (s.noticeAt (.draw c) = none → (s.offerRound h).noticeAt (.draw c) = some ⟨.draw true c h, false⟩)) ∧
    (s.headerLimit h ≤ s.viewCount h + s.asking h + s.waitersBelow h c →
      (s.offerRound h).chan c = s.chan c ∧ (s.offerRound h).noticeAt (.draw c) = s.noticeAt (.draw c)) := by
  have hnodup := ChanId.nodup_all
  rw [ChanId.all_split c] at hnodup
  obtain ⟨hbefore, hrest, hapart⟩ := List.nodup_append.1 hnodup
  obtain ⟨hcafter, hafter⟩ := List.nodup_cons.1 hrest
  have hcbefore : c ∉ ChanId.all.take c.index := fun hc => hapart c hc c (by simp) rfl
  obtain ⟨t, ht⟩ : ∃ t, t = (ChanId.all.take c.index).foldl (State.offerOne h) s := ⟨_, rfl⟩
  have hframe : State.RoundFrame s t := ht ▸ State.roundFrame_foldl (State.roundFrame_offerOne h) _ s
  obtain ⟨hasking, hsame⟩ := State.asking_foldl (h := h) hview _ hbefore
  rw [← ht, ← State.waitersBelow_eq] at hasking
  rw [← ht] at hsame
  obtain ⟨v, hv⟩ : ∃ v, v = State.offerOne h t c := ⟨_, rfl⟩
  have hround : s.offerRound h = (ChanId.all.drop (c.index + 1)).foldl (State.offerOne h) v :=
    calc s.offerRound h
      _ = (ChanId.all.take c.index ++ c :: ChanId.all.drop (c.index + 1)).foldl (State.offerOne h) s :=
        congrArg (fun l => l.foldl (State.offerOne h) s) (ChanId.all_split c)
      _ = (ChanId.all.drop (c.index + 1)).foldl (State.offerOne h) v := by
        rw [List.foldl_append, List.foldl_cons, ← ht, ← hv]
  have hvview : v.view.resync = none := by
    rw [hv, (State.roundFrame_offerOne h t c).view, hframe.view]
    exact hview
  obtain ⟨-, hlast⟩ := State.asking_foldl (h := h) hvview _ hafter
  obtain ⟨hchan, hnotice⟩ := hlast c hcafter
  rw [← hround] at hchan hnotice
  obtain ⟨hchan', hnotice'⟩ := hsame c hcbefore
  have hroom : t.hasRoom h ↔ s.viewCount h + s.asking h + s.waitersBelow h c < s.headerLimit h := by
    rw [State.hasRoom, hframe.viewCount, hframe.headerLimit, hasking]
    omega
  rw [hchan, hnotice, hv]
  refine ⟨fun hlt => ?_, fun hge => ?_⟩
  · rw [State.offerOne_of (by rw [hframe.view]; exact hview) (by rw [hframe.onHeader]; exact hon) (by rw [hchan']; exact hwants)
      (hroom.2 hlt)]
    refine ⟨by simp [hchan'], fun hnone => ?_⟩
    show (t.queueNotice (.draw true c h)).noticeAt (.draw c) = _
    rw [State.noticeAt_queueNotice, if_pos ⟨rfl, hnotice'.trans hnone⟩]
  · rw [State.offerOne_of_not fun h' => Nat.not_lt.2 hge (hroom.1 h'.2.2)]
    exact ⟨hchan', hnotice'⟩

/-! ### The rounds of every header (R166) -/

/-- A round leaves the channels of other headers alone. -/
theorem State.offerRound_off (hoff : s.onHeader d h = false) :
    (s.offerRound h).chan d = s.chan d ∧ (s.offerRound h).noticeAt (.draw d) = s.noticeAt (.draw d) := by
  have hfold (l : List ChanId) (u : State) (hu : u.onHeader d h = false) :
      (l.foldl (State.offerOne h) u).chan d = u.chan d ∧
        (l.foldl (State.offerOne h) u).noticeAt (.draw d) = u.noticeAt (.draw d) := by
    induction l generalizing u with
    | nil => exact ⟨rfl, rfl⟩
    | cons c l ih =>
      obtain ⟨h1, h2⟩ := State.offerOne_chan_eq (s := u) (c := c) (.inr hu)
      obtain ⟨h3, h4⟩ := ih (State.offerOne h u c) (by rw [(State.roundFrame_offerOne h u c).onHeader]; exact hu)
      exact ⟨h3.trans h1, h4.trans h2⟩
  exact hfold _ s hoff

theorem State.roundFrame_offerRound (s : State) (h : Nat) : State.RoundFrame s (s.offerRound h) :=
  State.roundFrame_foldl (State.roundFrame_offerOne h) _ s

theorem State.onHeader_unique {h' : Nat} (hon : s.onHeader d h = true) (hne : h' ≠ h) : s.onHeader d h' = false := by
  unfold State.onHeader at hon ⊢
  split at hon
  · rw [beq_iff_eq] at hon
    simp [hon, hne.symm]
  · exact Bool.noConfusion hon

/-- Rounds of other headers leave a header's channels alone. -/
theorem State.offerRounds_off (l : List Nat) (hl : h ∉ l) (s : State) :
    ∀ d, s.onHeader d h = true → (l.foldl State.offerRound s).chan d = s.chan d ∧
      (l.foldl State.offerRound s).noticeAt (.draw d) = s.noticeAt (.draw d) := by
  induction l generalizing s with
  | nil => exact fun _ _ => ⟨rfl, rfl⟩
  | cons k l ih =>
    intro d hon
    have hk : k ≠ h := fun hk => hl (hk ▸ List.mem_cons_self)
    obtain ⟨h1, h2⟩ := State.offerRound_off (State.onHeader_unique hon hk)
    obtain ⟨h3, h4⟩ := ih (fun hm => hl (List.mem_cons_of_mem _ hm)) (s.offerRound k) d
      (by rw [(s.roundFrame_offerRound k).onHeader]; exact hon)
    exact ⟨h3.trans h1, h4.trans h2⟩

theorem State.asking_congr (hf : State.RoundFrame s t) (hsame : ∀ d, s.onHeader d h = true → t.chan d = s.chan d) :
    t.asking h = s.asking h ∧ t.waitersBelow h c = s.waitersBelow h c := by
  refine ⟨List.countP_congr fun d _ => ?_, List.countP_congr fun d _ => ?_⟩
  · rw [hf.onHeader]
    cases hon : s.onHeader d h with
    | false => simp
    | true => rw [hsame d hon]
  · rw [hf.onHeader]
    cases hon : s.onHeader d h with
    | false => simp
    | true => rw [hsame d hon]

theorem mem_headersAll (hle : h ≤ 7) : h ∈ headersAll := by
  unfold headersAll
  simp only [List.mem_cons]
  omega

/-- What the rounds of every header make of a channel in WAIT (R89, R166). -/
theorem State.offerRounds_at (hview : s.view.resync = none) (hle : h ≤ 7) (hon : s.onHeader c h = true)
    (hwants : (s.chan c).wantsDraw = true) :
    (s.viewCount h + s.asking h + s.waitersBelow h c < s.headerLimit h →
      (headersAll.foldl State.offerRound s).chan c = { s.chan c with draw := .asked } ∧
      (s.noticeAt (.draw c) = none →
        (headersAll.foldl State.offerRound s).noticeAt (.draw c) = some ⟨.draw true c h, false⟩)) ∧
    (s.headerLimit h ≤ s.viewCount h + s.asking h + s.waitersBelow h c →
      (headersAll.foldl State.offerRound s).chan c = s.chan c ∧
      (headersAll.foldl State.offerRound s).noticeAt (.draw c) = s.noticeAt (.draw c)) := by
  have hnodup : headersAll.Nodup := by decide
  obtain ⟨before, after, hsplit⟩ := List.append_of_mem (mem_headersAll hle)
  rw [hsplit] at hnodup ⊢
  obtain ⟨-, hrest, hapart⟩ := List.nodup_append.1 hnodup
  obtain ⟨hafter, -⟩ := List.nodup_cons.1 hrest
  have hbefore : h ∉ before := fun hm => hapart h hm h (by simp) rfl
  rw [List.foldl_append, List.foldl_cons]
  obtain ⟨t, ht⟩ : ∃ t, t = before.foldl State.offerRound s := ⟨_, rfl⟩
  have hframe : State.RoundFrame s t := ht ▸ State.roundFrame_foldl State.roundFrame_offerRound before s
  have hsame := State.offerRounds_off before hbefore s
  rw [← ht] at hsame ⊢
  obtain ⟨hchan, hnotice⟩ := hsame c hon
  obtain ⟨hasking, hbelow⟩ := State.asking_congr (c := c) hframe fun d hd => (hsame d hd).1
  have honT : t.onHeader c h = true := by rw [hframe.onHeader]; exact hon
  have hround := State.offerRound_at (s := t) (by rw [hframe.view]; exact hview) honT (by rw [hchan]; exact hwants)
  rw [hframe.viewCount, hasking, hbelow, hframe.headerLimit, hchan, hnotice] at hround
  obtain ⟨h1, h2⟩ := State.offerRounds_off after hafter (t.offerRound h) c
    (by rw [(t.roundFrame_offerRound h).onHeader]; exact honT)
  rw [h1, h2]
  exact hround

theorem sendQueueOnly_foldl {ι : Type} {f : State → ι → State} (hf : ∀ t i, sendQueueOnly t (f t i)) (l : List ι) (s : State) :
    sendQueueOnly s (l.foldl f s) := by
  induction l generalizing s with
  | nil => exact .refl s
  | cons i l ih => exact (hf s i).trans (ih _)

theorem sendQueueOnly_offerOne (h : Nat) (s : State) (c : ChanId) : sendQueueOnly s (State.offerOne h s c) := by
  unfold State.offerOne
  split
  · exact sendQueueOnly_queueNotice ..
  · exact .refl s

/-! ### The claims that wait (R10) -/

theorem State.testClaim_of {c : Claim} (hprogress : (s.lane ℓ).progress? = some c) (hstep : c.step = .waiting)
    (hview : s.view.resync = none) (hrelease : s.releaseWaiting ℓ = false) (hbegun : s.begunAt (.claim ℓ) = false) :
    s.testClaim ℓ = (s.queueNotice (.claim ℓ (s.lane ℓ).claim.isNone c.driver (s.lane ℓ).vehicle)).modLane ℓ
      (fun l => l.modProgress (fun c => { c with step := .queued })) := by
  simp [State.testClaim, hprogress, hstep, hview, hrelease, hbegun]

theorem State.testClaim_of_not (h : ∀ c, (s.lane ℓ).progress? = some c →
    c.step ≠ .waiting ∨ s.releaseWaiting ℓ = true ∨ s.begunAt (.claim ℓ) = true) : s.testClaim ℓ = s := by
  unfold State.testClaim
  split
  · rfl
  · rename_i c hc
    rw [if_neg]
    rintro ⟨h1, -, h2, h3⟩
    rcases h c hc with h | h | h
    · exact h h1
    · exact h2 h
    · exact h3 h

theorem noticesKept_testClaim (s : State) (ℓ : LaneId) : noticesKept (· = .claim ℓ) s (s.testClaim ℓ) := by
  unfold State.testClaim
  split
  · exact .refl _ s
  · split
    · exact (noticesKept_queueNotice s (.claim ℓ _ _ _)).trans (noticesKept_of_line rfl)
    · exact .refl _ s

theorem sendQueueOnly_testClaim (s : State) (ℓ : LaneId) : sendQueueOnly s (s.testClaim ℓ) := by
  unfold State.testClaim
  split
  · exact .refl s
  · split
    · exact sendQueueOnly_queueNotice ..
    · exact .refl s

/-- What the test of a claim makes of its lane, seen from a state with the same lane and the same notices of it (R10). -/
theorem State.claimTested (hlane : t.lane ℓ = s.lane ℓ) (hview : t.view.resync = none)
    (hrelease : t.noticeAt (.release ℓ) = s.noticeAt (.release ℓ)) (hclaim : t.noticeAt (.claim ℓ) = s.noticeAt (.claim ℓ)) :
    (∀ c, (s.lane ℓ).progress? = some c → c.step = .waiting → s.releaseWaiting ℓ = false → s.begunAt (.claim ℓ) = false →
      (t.testClaim ℓ).lane ℓ = (s.lane ℓ).modProgress (fun x => { x with step := .queued }) ∧
      (s.noticeAt (.claim ℓ) = none → (t.testClaim ℓ).noticeAt (.claim ℓ) =
        some ⟨.claim ℓ (s.lane ℓ).claim.isNone c.driver (s.lane ℓ).vehicle, false⟩)) ∧
    ((∀ c, (s.lane ℓ).progress? = some c →
      c.step ≠ .waiting ∨ s.releaseWaiting ℓ = true ∨ s.begunAt (.claim ℓ) = true) → (t.testClaim ℓ).lane ℓ = s.lane ℓ) := by
  have hwaits : t.releaseWaiting ℓ = s.releaseWaiting ℓ := by simp [State.releaseWaiting, hrelease, hlane]
  have hbegun : t.begunAt (.claim ℓ) = s.begunAt (.claim ℓ) := State.begunAt_congr hclaim
  refine ⟨fun c hc hstep hfree hnot => ?_, fun h => ?_⟩
  · rw [State.testClaim_of (s := t) (c := c) (by rw [hlane]; exact hc) hstep hview (hwaits.trans hfree) (hbegun.trans hnot), hlane]
    refine ⟨by simp [hlane], fun hnone => ?_⟩
    show (t.queueNotice (.claim ℓ (s.lane ℓ).claim.isNone c.driver (s.lane ℓ).vehicle)).noticeAt (.claim ℓ) = _
    rw [State.noticeAt_queueNotice, if_pos ⟨rfl, hclaim.trans hnone⟩]
  · rw [State.testClaim_of_not (by rw [hlane, hwaits, hbegun]; exact h)]
    exact hlane

/-- Settles O49. -/
theorem resyncEndsWithRoundsAndClaims : Obligations.ResyncEndsWithRoundsAndClaims := by
  intro s hreset hresync
  obtain ⟨u, hu⟩ : ∃ u, u = s.setView { s.view with resync := none } := ⟨_, rfl⟩
  obtain ⟨v, hv⟩ : ∃ v, v = headersAll.foldl State.offerRound u := ⟨_, rfl⟩
  obtain ⟨w, hw⟩ : ∃ w, w = v.testClaim .a := ⟨_, rfl⟩
  have hexec : exec .resyncTimerExpiry s = .next (w.testClaim .b) := by
    show Host.Outcome.next (if s.inReset ∨ s.view.resync.isNone then s else _) = _
    rw [if_neg (by simp [hreset, hresync]), hw, hv, hu]
  have hframe : State.RoundFrame u v := hv ▸ State.roundFrame_foldl State.roundFrame_offerRound _ u
  have hoffers : u.Offers v := hv ▸ State.Offers.foldl (fun t x => .offerRound x t) _ u
  have hviewU : u.view.resync = none := by rw [hu]; rfl
  have hviewV : v.view.resync = none := by rw [hframe.view]; exact hviewU
  have hlaneV (ℓ : LaneId) : v.lane ℓ = s.lane ℓ := by
    rw [State.lane, hframe.lanes, hu]
    rfl
  have hkeptV : noticesKept isDrawPlace s v := noticesKept.trans (noticesKept_of_line (by rw [hu]; rfl)) hoffers.kept
  have hnotice (p : Place) (hp : ¬ isDrawPlace p) : v.noticeAt p = s.noticeAt p := hkeptV p hp
  have hkeptA := noticesKept_testClaim v .a
  have hkeptB := noticesKept_testClaim w .b
  have hopA := (State.LaneOp.refl .a v).testClaim
  have hopB := (State.LaneOp.refl .b w).testClaim
  rw [← hw] at hkeptA hopA
  have htestA := State.claimTested (s := s) (t := v) (ℓ := .a) (hlaneV .a) hviewV (hnotice _ fun ⟨_, h⟩ => by cases h)
    (hnotice _ fun ⟨_, h⟩ => by cases h)
  have htestB := State.claimTested (s := s) (t := w) (ℓ := .b) (hopA.other.trans (hlaneV .b)) (by rw [hw]; simpa using hviewV)
    ((hkeptA (.release .b) nofun).trans (hnotice _ fun ⟨_, h⟩ => by cases h))
    ((hkeptA (.claim .b) nofun).trans (hnotice _ fun ⟨_, h⟩ => by cases h))
  rw [← hw] at htestA
  have hafterA : (w.testClaim .b).lane .a = w.lane .a := hopB.other
  have hclaimA : (w.testClaim .b).noticeAt (.claim .a) = w.noticeAt (.claim .a) := hkeptB (.claim .a) nofun
  rw [← hafterA, ← hclaimA] at htestA
  have hchannels : (w.testClaim .b).channels = v.channels := by simp [hw]
  have hchan (c : ChanId) : (w.testClaim .b).chan c = v.chan c := by rw [State.chan, hchannels]; rfl
  have hdraw (c : ChanId) : (w.testClaim .b).noticeAt (.draw c) = v.noticeAt (.draw c) :=
    (hkeptB (.draw c) nofun).trans (hkeptA (.draw c) nofun)
  have hsame {β : Type} (π : State → β) (hπ : ∀ t x, π (t.offerRound x) = π t) : π v = π u := hv ▸ foldl_keep π _ _ _ hπ
  refine ⟨_, hexec, ?_, fun d _ => ?_, fun c cfg hcfg hheader hwants => ?_, fun ℓ => ?_, fun ℓ => ?_, ?_, fun p hp => ?_,
    ?_, ?_, ?_, ?_, ?_⟩
  · simp [hw, hframe.view, hu]
  · rw [hchan]
    have hd := hoffers.chan d
    rw [hu] at hd
    exact hd
  · have hon : u.onHeader c cfg.header = true := by
      rw [hu]
      show s.onHeader c cfg.header = true
      simp [State.onHeader, hcfg]
    have h := State.offerRounds_at (s := u) hviewU hheader hon (by rw [hu]; exact hwants)
    rw [hchan, hdraw, hv]
    rw [hu] at h ⊢
    exact h
  · cases ℓ with
    | a => exact htestA.1
    | b => exact htestB.1
  · cases ℓ with
    | a => exact htestA.2
    | b => exact htestB.2
  · have hline : sendQueueOnly u v := by
      rw [hv]
      exact sendQueueOnly_foldl (fun t x => sendQueueOnly_foldl (sendQueueOnly_offerOne x) _ t) _ u
    have hfirst : sendQueueOnly s u := .of_line_eq (by rw [hu]; rfl)
    have hthird : sendQueueOnly v w := hw ▸ sendQueueOnly_testClaim v .a
    exact ((hfirst.trans hline).trans hthird).trans (sendQueueOnly_testClaim w .b)
  · exact (hkeptB p fun h => hp (.inr ⟨_, h⟩)).trans ((hkeptA p fun h => hp (.inr ⟨_, h⟩)).trans
      (hkeptV p fun h => hp (.inl h)))
  · simp [hw, hsame (·.lists) (by simp), hu]
  · simp [hw, hsame (·.log) (by simp), hu]
  · simp [hw, hsame (·.port) (by simp), hu]
  · simp [hw, hsame (·.attention) (by simp), hu]
  · simp [hw, sameStation, hsame (·.pending) (by simp), hsame (·.pins) (by simp), hsame (·.unit) (by simp),
      hsame (·.released) (by simp), hsame (·.freeCount) (by simp), hu]

end Rounds

end Sys2Proof.Machine

namespace Sys2Proof.Machine

/-! ## Proofs: reception and its losses (chapter 6) -/

section Reception

variable {s t u : State} {ℓ : LaneId}

/-! ### A loss reaches the claims (R10, R141, R164) -/

/-- A loss takes the claim back: SENT, or QUEUED and not begun on entering resync. -/
def State.losesClaim (s : State) (entering : Bool) (ℓ : LaneId) (c : Claim) : Prop :=
  c.step = .sent ∨ (c.step = .queued ∧ entering = true ∧ s.begunAt (.claim ℓ) = false)

/-- What a loss makes of a lane's claim and of its CLAIM. -/
structure State.ClaimLosesStep (ℓ : LaneId) (entering : Bool) (s t : State) : Prop where
  back : ∀ c, (s.lane ℓ).progress? = some c → s.losesClaim entering ℓ c →
    t.lane ℓ = (s.lane ℓ).modProgress (fun x => { x with step := .waiting })
  stays : (∀ c, (s.lane ℓ).progress? = some c → ¬ s.losesClaim entering ℓ c) → t.lane ℓ = s.lane ℓ
  removed : ∀ c, (s.lane ℓ).progress? = some c → c.step = .queued → entering = true → s.begunAt (.claim ℓ) = false →
    t.noticeAt (.claim ℓ) = none
  other : t.lane (otherLane ℓ) = s.lane (otherLane ℓ)
  kept : noticesKept (· = .claim ℓ) s t
  line : lineKept s t

theorem State.claimLosesStep (s : State) (entering : Bool) (ℓ : LaneId) :
    State.ClaimLosesStep ℓ entering s (State.loseClaim entering s ℓ) := by
  cases hprogress : (s.lane ℓ).progress? with
  | none =>
    have heq : State.loseClaim entering s ℓ = s := by simp [State.loseClaim, hprogress]
    rw [heq]
    exact ⟨by simp [hprogress], fun _ => rfl, by simp [hprogress], rfl, .refl _ s, .refl s⟩
  | some c =>
    by_cases hsent : c.step = .sent
    · have heq : State.loseClaim entering s ℓ =
          s.modLane ℓ (fun l => l.modProgress (fun c => { c with step := .waiting })) := by
        simp [State.loseClaim, hprogress, hsent]
      rw [heq]
      refine ⟨fun _ _ _ => by simp, fun h => (h c hprogress (.inl hsent)).elim, fun c' hc' hq => ?_, by simp,
        noticesKept_of_line rfl, lineKept_of_eq rfl⟩
      obtain rfl : c = c' := Option.some.inj (hprogress.symm.trans hc')
      simp [hsent] at hq
    · by_cases hqueued : c.step = .queued ∧ entering = true ∧ s.begunAt (.claim ℓ) = false
      · have heq : State.loseClaim entering s ℓ =
            (s.removeNotice (.claim ℓ)).modLane ℓ (fun l => l.modProgress (fun c => { c with step := .waiting })) := by
          simp [State.loseClaim, hprogress, hqueued]
        rw [heq]
        refine ⟨fun _ _ _ => by simp, fun h => (h c hprogress (.inr hqueued)).elim, fun _ _ _ _ _ => ?_, by simp, ?_, ?_⟩
        · show (s.removeNotice (.claim ℓ)).noticeAt (.claim ℓ) = none
          rw [State.noticeAt_removeNotice, if_pos ⟨rfl, hqueued.2.2⟩]
        · exact (noticesKept_removeNotice _).trans (noticesKept_of_line rfl)
        · exact (lineKept_removeNotice _).trans (lineKept_of_eq rfl)
      · have heq : State.loseClaim entering s ℓ = s := by
          simp only [State.loseClaim, hprogress, if_neg hsent]
          rw [if_neg]
          simpa using hqueued
        rw [heq]
        refine ⟨fun c' hc' h => ?_, fun _ => rfl, fun c' hc' h1 h2 h3 => ?_, rfl, .refl _ s, .refl s⟩
        · obtain rfl : c = c' := Option.some.inj (hprogress.symm.trans hc')
          exact (h.elim hsent hqueued).elim
        · obtain rfl : c = c' := Option.some.inj (hprogress.symm.trans hc')
          exact (hqueued ⟨h1, h2, h3⟩).elim

/-! ### A loss reaches its four blocks (R141, R164) -/

/-- The state before the claims are told of a loss. -/
def State.lossNoted (s : State) : State :=
  (s.attend .lineLoss).setView { s.view with resync := some (max (s.view.resync.getD 0) s.refreshMs) }

/-- The state in which both lanes have been told of a loss. -/
def State.claimsLost (s : State) : State :=
  State.loseClaim s.view.resync.isNone (State.loseClaim s.view.resync.isNone s.lossNoted .a) .b

theorem State.receiveLost_eq (s : State) :
    s.receiveLost = { s.claimsLost with channels := s.claimsLost.channels.map Channel.loseDraw } := rfl

/-- A loss of a state whose receiver and idle count alone have changed (R141). -/
theorem lossReaches_receiveLost (hlane : u.lanes = s.lanes) (hframe : u = s.setLine u.line)
    (hline : u.line = { s.line with receiver := u.line.receiver, idleCount := u.line.idleCount }) :
    lossReaches s u.receiveLost ∧ u.receiveLost.line.receiver = u.line.receiver ∧
      u.receiveLost.line.idleCount = u.line.idleCount := by
  obtain ⟨entering, hentering⟩ : ∃ entering, entering = s.view.resync.isNone := ⟨_, rfl⟩
  obtain ⟨v, hv⟩ : ∃ v, v = State.loseClaim entering u.lossNoted .a := ⟨_, rfl⟩
  obtain ⟨w, hw⟩ : ∃ w, w = State.loseClaim entering v .b := ⟨_, rfl⟩
  have hview : u.view = s.view := by rw [hframe]; rfl
  have hunit : u.unit = s.unit := by rw [hframe]; rfl
  have heq : u.receiveLost = { w with channels := w.channels.map Channel.loseDraw } := by
    rw [State.receiveLost_eq, hw, hv, hentering, ← hview]
    rfl
  have hnoticeU (p : Place) : u.lossNoted.noticeAt p = s.noticeAt p := by
    show u.line.sendQueue.find? _ = _
    rw [hline]
    rfl
  have hlaneU (ℓ : LaneId) : u.lossNoted.lane ℓ = s.lane ℓ := by
    show u.lanes.get ℓ = _
    rw [hlane]
    rfl
  have hA : State.ClaimLosesStep .a entering u.lossNoted v := hv ▸ u.lossNoted.claimLosesStep entering .a
  have hB : State.ClaimLosesStep .b entering v w := hw ▸ v.claimLosesStep entering .b
  have hlaneA : w.lane .a = v.lane .a := hB.other
  have hlaneB : v.lane .b = s.lane .b := hA.other.trans (hlaneU .b)
  have hclaimA : w.noticeAt (.claim .a) = v.noticeAt (.claim .a) := hB.kept (.claim .a) nofun
  have hclaimB : v.noticeAt (.claim .b) = s.noticeAt (.claim .b) := (hA.kept (.claim .b) nofun).trans (hnoticeU _)
  obtain ⟨hbackA, hstaysA, hremovedA, -, hkeptA, hlineA⟩ := hA
  obtain ⟨hbackB, hstaysB, hremovedB, -, hkeptB, hlineB⟩ := hB
  have hlosesA (c : Claim) : u.lossNoted.losesClaim entering .a c ↔ s.losesClaim entering .a c := by
    rw [State.losesClaim, State.begunAt_congr (hnoticeU _)]
    rfl
  have hlosesB (c : Claim) : v.losesClaim entering .b c ↔ s.losesClaim entering .b c := by
    rw [State.losesClaim, State.begunAt_congr hclaimB]
    rfl
  rw [hlaneU, ← hlaneA] at hbackA hstaysA
  rw [hlaneB] at hbackB hstaysB hremovedB
  rw [hlaneU, ← hclaimA, State.begunAt_congr (hnoticeU _)] at hremovedA
  rw [State.begunAt_congr hclaimB] at hremovedB
  simp only [hlosesA] at hbackA hstaysA
  simp only [hlosesB] at hbackB hstaysB
  have hloses (ℓ : LaneId) (c : Claim) : s.losesClaim entering ℓ c ↔
      (c.step = .sent ∨ (c.step = .queued ∧ s.view.resync = none ∧ s.begunAt (.claim ℓ) = false)) := by
    simp [State.losesClaim, hentering]
  have hkept : lineKept u w := (show lineKept u u.lossNoted from lineKept_of_eq rfl).trans (hlineA.trans hlineB)
  have hsame {β : Type} (π : State → β) (hπ : ∀ e (t : State) ℓ, π (State.loseClaim e t ℓ) = π t) : π w = π u.lossNoted := by
    rw [hw, hπ, hv, hπ]
  have hlineW : w.line = { s.line with
      transmitter := w.line.transmitter
      sendQueue := w.line.sendQueue
      receiver := u.line.receiver
      idleCount := u.line.idleCount } := by
    rw [hkept]
    dsimp only
    rw [hline]
  rw [heq]
  refine ⟨⟨?_, ?_, fun c => ?_, fun ℓ c => ?_, fun ℓ h => ?_, fun ℓ c => ?_, fun p hp => ?_, ?_, ?_, ?_, ?_, ?_, ?_, ?_, ?_,
    ?_, ?_⟩, ?_, ?_⟩
  · show w.attention = _
    rw [hsame (·.attention) (by simp)]
    show addReasonTo .lineLoss u.attention = _
    rw [hframe]
    rfl
  · show w.view = _
    rw [hsame (·.view) (by simp)]
    show { u.view with resync := some (max (u.view.resync.getD 0) u.refreshMs) } = _
    rw [hview, State.refreshMs, State.refreshMs, hunit]
  · show (w.channels.map Channel.loseDraw).get c = _
    rw [hsame (·.channels) (by simp), PerChannel.get_map, Channel.loseDraw]
    show (if (u.chan c).draw = .sent then { u.chan c with draw := .none } else u.chan c) = _
    rw [hframe]
    show (if (s.chan c).draw = .sent then { s.chan c with draw := .none } else s.chan c) = _
    split <;> rfl
  · rw [← hloses]
    cases ℓ with
    | a => exact hbackA c
    | b => exact hbackB c
  · cases ℓ with
    | a => exact hstaysA fun c hc hl => h c hc ((hloses .a c).1 hl)
    | b => exact hstaysB fun c hc hl => h c hc ((hloses .b c).1 hl)
  · intro hc hq hresync hbegun
    have hent : entering = true := by rw [hentering, hresync]; rfl
    cases ℓ with
    | a => exact hremovedA c hc hq hent hbegun
    | b => exact hremovedB c hc hq hent hbegun
  · exact (hkeptB p fun h => hp ⟨_, h⟩).trans ((hkeptA p fun h => hp ⟨_, h⟩).trans (hnoticeU p))
  · exact (congrArg RackLine.receiveQueue hlineW :)
  · exact (congrArg RackLine.abortRun hlineW :)
  · exact (congrArg RackLine.faulted hlineW :)
  · exact (hsame (·.lists) (by simp)).trans (by rw [hframe]; rfl)
  · exact (hsame (·.log) (by simp)).trans (by rw [hframe]; rfl)
  · exact (hsame (·.port) (by simp)).trans (by rw [hframe]; rfl)
  · exact (hsame (·.released) (by simp)).trans (by rw [hframe]; rfl)
  · exact (hsame (·.pins) (by simp)).trans (by rw [hframe]; rfl)
  · exact (hsame (·.unit) (by simp)).trans (by rw [hframe]; rfl)
  · exact (hsame (·.pending) (by simp)).trans (by rw [hframe]; rfl)
  · exact (congrArg RackLine.receiver hlineW :)
  · exact (congrArg RackLine.idleCount hlineW :)

/-- A loss after a change of the receiver and of the idle count (R137 to R141). -/
theorem State.lossReaches_of_line (s : State) (p : Option Partial) (n : Nat) :
    lossReaches s (s.setLine { s.line with receiver := p, idleCount := n }).receiveLost ∧
      (s.setLine { s.line with receiver := p, idleCount := n }).receiveLost.line.receiver = p ∧
      (s.setLine { s.line with receiver := p, idleCount := n }).receiveLost.line.idleCount = n :=
  lossReaches_receiveLost (u := s.setLine { s.line with receiver := p, idleCount := n }) rfl rfl rfl

/-! ### Characters and notices (R137, R139, R140) -/

theorem execNoticeReceived_eq {length : Byte} {body : List Byte} {check : CheckWord} {h : Byte} {taken : List Byte}
    (hon : s.lineOn = true) (hreceiver : s.line.receiver = some ⟨h, taken⟩) (hmore : ∃ more, taken ++ more = length :: body) :
    exec (.noticeReceived length body check) s = .next (
      if 48 < length.toNat then (s.setReceiver none).receiveLost
      else if length.toNat < body.length then s
      else if body.length < length.toNat then s.setReceiver (some ⟨h, length :: body⟩)
      else (s.setReceiver none).judge h length body check) := by
  have hprefix : taken.isPrefixOf (length :: body) = true := by
    rw [List.isPrefixOf_iff_prefix]
    exact hmore
  show execNoticeReceived length body check s = _
  simp [execNoticeReceived, hon, hreceiver, hprefix]

/-- Settles O50. -/
theorem receptionTakesNoticesOrLosesThem : Obligations.ReceptionTakesNoticesOrLosesThem := by
  refine ⟨fun h s hon => ⟨fun hfree => ?_, fun hpartial => ?_⟩, fun s hon => ?_, fun length body check s hon hfree => ?_,
    fun h length taken body check s hon hreceiver hmore => ?_, fun kind s hon hpossible => ?_⟩
  · show Host.Outcome.next (if s.lineOn = false then s else _) = _
    rw [if_neg (by simp [hon]), if_neg (by simp [hfree])]
    rfl
  · have hexec : exec (.headerCharacterReceived h) s = .next (s.setReceiver (some ⟨h, []⟩)).receiveLost := by
      show Host.Outcome.next (if s.lineOn = false then s else _) = _
      rw [if_neg (by simp [hon]), if_pos (Option.isSome_iff_ne_none.2 hpartial)]
    exact ⟨_, hexec, s.lossReaches_of_line (some ⟨h, []⟩) 0⟩
  · show Host.Outcome.next (if s.lineOn then s.setReceiver none else s) = _
    rw [if_pos hon]
    rfl
  · show execNoticeReceived length body check s = _
    unfold execNoticeReceived
    rw [if_neg (by simp [hon])]
    split
    · rfl
    · rename_i hsome
      simp [hfree] at hsome
  · have hexec := execNoticeReceived_eq (check := check) hon hreceiver hmore
    have hlost := s.lossReaches_of_line none 0
    refine ⟨fun hlong => ?_, fun hfits hshort => ?_, fun hfits hwhole => ?_⟩
    · rw [if_pos hlong] at hexec
      exact ⟨_, hexec, hlost⟩
    · rw [if_neg (Nat.not_lt.2 hfits), if_neg (Nat.not_lt.2 hshort.le), if_pos hshort] at hexec
      exact hexec
    · rw [if_neg (Nat.not_lt.2 hfits), if_neg (Nat.not_lt.2 hwhole.le), if_neg (Nat.not_lt.2 hwhole.ge)] at hexec
      rw [hexec]
      unfold State.judge
      refine ⟨fun hcheck => ?_, fun hcheck hkind => ?_, fun hcheck hkind hroom => ?_, fun hcheck hkind hfull => ?_⟩
      · rw [if_pos hcheck]
        exact ⟨_, rfl, hlost.1, hlost.2.1⟩
      · rw [if_neg (not_not.2 hcheck), if_pos (show headerKind h = 7 from hkind)]
        rfl
      · rw [if_neg (not_not.2 hcheck), if_neg (show headerKind h ≠ 7 from hkind),
          if_pos (show (s.setReceiver none).line.receiveQueue.length < Config.rxMax from hroom)]
        rfl
      · rw [if_neg (not_not.2 hcheck), if_neg (show headerKind h ≠ 7 from hkind),
          if_neg (Nat.not_lt.2 (show Config.rxMax ≤ (s.setReceiver none).line.receiveQueue.length from hfull))]
        exact ⟨_, rfl, hlost.1, hlost.2.1⟩
  · have hloss : lossPossible kind s.line.receiver.isSome = true := by
      rcases hpossible with h | h
      · rw [h]; rfl
      · rw [Option.isSome_iff_ne_none.2 h]
        cases kind <;> rfl
    have hexec : exec (.receiveLoss kind) s =
        .next (s.setLine { s.line with receiver := lossLeaves kind, idleCount := lossIdle kind }).receiveLost := by
      show Host.Outcome.next (if s.lineOn && lossPossible kind s.line.receiver.isSome then _ else s) = _
      rw [if_pos (by simp [hon, hloss])]
    obtain ⟨hreaches, hreceiver, hidle⟩ := s.lossReaches_of_line (lossLeaves kind) (lossIdle kind)
    refine ⟨_, hexec, hreaches, ?_, ?_⟩
    · rw [hreceiver]
      cases kind <;> rfl
    · rw [hidle]
      cases kind <;> rfl

end Reception

end Sys2Proof.Machine

namespace Sys2Proof.Machine

/-! ## Proofs: STOP, CONTEST and CLAIM heard (chapters 5 and 7) -/

section StopHeard

variable {s t u : State} {a : Nat} {ℓ : LaneId}

theorem listsHeard_stops_wf (a : Nat) (h : Assoc.wf StopMember.absent s.lists.stops = true) :
    Assoc.wf StopMember.absent (listsHeard s a).stops = true := by
  unfold listsHeard Lists.revive
  split
  · exact h
  · dsimp only
    split
    · exact Assoc.wf_put StopMember.absent a .live s.lists.stops h
    · exact h

theorem listsHeard_stop_ne (h : Assoc.wf StopMember.absent s.lists.stops = true) {b : Nat} (hb : b ≠ a) :
    (listsHeard s a).stop b = s.lists.stop b := by
  unfold listsHeard Lists.revive
  split
  · rfl
  · dsimp only
    split
    · exact (Lists.stop_setStop s.lists h a b .live).trans (if_neg hb)
    · rfl

/-- The stop set after a station's STOP, its lists and the causes (R93, R107). -/
structure State.StopTaken (a : Nat) (assert : Bool) (s t : State) : Prop where
  lists : t.lists = s.lists.setStop a (if assert then .live else .absent)
  causes : causesReach s t
  line : lineKept s t
  notices : noticesKept isDrawPlace s t
  stays : ∀ q, (q, false) ∈ s.attention → (q, false) ∈ t.attention

theorem State.stopTaken (s : State) (a : Nat) (assert : Bool) : State.StopTaken a assert s (s.takeStop a assert) := by
  obtain ⟨w, hw⟩ : ∃ w, w = s.setLists (s.lists.setStop a (if assert then .live else .absent)) := ⟨_, rfl⟩
  have heq : s.takeStop a assert = w.applyCauses := by rw [hw]; rfl
  have happlied := w.causesApplied
  obtain ⟨hreach, -, -⟩ := happlied.causesReach w.sameCauses_applyCauses (u := s) (by rw [hw]; rfl)
    (fun _ => by rw [hw]; rfl) (by rw [hw]; rfl) (by rw [hw]; rfl)
  rw [heq]
  refine ⟨by simp [hw], hreach, (lineKept_of_eq (by rw [hw]; rfl)).trans happlied.line,
    (noticesKept_of_line (by rw [hw]; rfl)).trans happlied.kept, fun q hq => happlied.stays q ?_⟩
  rw [hw]
  exact hq

/-- The causes that reach the channels do so seen from any state that reads as the one they are applied in. -/
theorem causesReach.congr (h : causesReach s t) (hchannels : s.channels = u.channels)
    (hnotice : ∀ c, s.noticeAt (.draw c) = u.noticeAt (.draw c)) (hunit : s.unit = u.unit)
    (hattention : s.attention = u.attention) : causesReach u t := by
  obtain ⟨hsuspends, hothers, hnew⟩ := h
  have hchan (c : ChanId) : u.chan c = s.chan c := by rw [State.chan, State.chan, hchannels]
  have hmeets (c : ChanId) : meetsCause u t c ↔ meetsCause s t c := by rw [meetsCause, meetsCause, hchan]
  refine ⟨fun c hc => ?_, fun c hc => ?_, fun p hp => ?_⟩
  · have hs := hsuspends c ((hmeets c).1 hc)
    exact hs.congr (hchan c) (hnotice c).symm hunit.symm rfl rfl hs.2.1
  · rw [hchan]
    exact hothers c (mt (hmeets c).2 hc)
  · rw [← hattention]
    exact (hnew p hp).imp_right fun ⟨c, hc, hp⟩ => ⟨c, (hmeets c).2 hc, hp⟩

/-! ### A lane that meets a notice of a driver -/

/-- A claim lost in the state before stays lost when the other lane meets the same notice. -/
theorem claimLost.trans {r : LoadRecord} (h : claimLost s t ℓ r) (hlane : u.lane ℓ = t.lane ℓ)
    (hstays : ∀ q, (q, false) ∈ t.attention → (q, false) ∈ u.attention) (hmemory : u.log.memory = t.log.memory)
    (hslot : t.log.slot r.slot = SlotEntry.free → u.log.slot r.slot = SlotEntry.free) : claimLost s u ℓ r := by
  obtain ⟨hstate, hrecord, hclaim, hholds, hresult, hdone, hfree, hkept⟩ := h
  rw [claimLost, hlane]
  exact ⟨hstate, hrecord, hclaim, hholds, hresult, hstays _ hdone, hslot hfree, hmemory.trans hkept⟩

theorem claimLost_withdrawClaim {c : Claim} {r : LoadRecord} (hclaim : (s.lane ℓ).claim = some c)
    (hrecord : (s.lane ℓ).record = some r) (hwf : Assoc.wf SlotEntry.free s.log.table = true) :
    claimLost s (s.withdrawClaim ℓ .driverElsewhere) ℓ r := by
  obtain ⟨⟨x, y, z, hlane⟩, hlog, hdone, -⟩ := State.claimWithdrawn hclaim .driverElsewhere
  have hslot : (s.lane ℓ).slotOf.1 = r.slot := by simp [Lane.slotOf, hrecord]
  rw [claimLost, hlane, hlog, hslot]
  exact ⟨rfl, rfl, rfl, rfl, rfl, hdone, by rw [DeliveryLog.slot_setSlot _ hwf, if_pos rfl], rfl⟩

/-- The log at most frees a slot. -/
def freesSlots (s t : State) : Prop := t.log = s.log ∨ ∃ p, t.log = s.log.setSlot p SlotEntry.free

theorem freesSlots.slot (h : freesSlots s t) (hwf : Assoc.wf SlotEntry.free s.log.table = true) {p : Nat}
    (hp : s.log.slot p = SlotEntry.free) : t.log.slot p = SlotEntry.free := by
  rcases h with h | ⟨q, h⟩
  · rw [h, hp]
  · rw [h, DeliveryLog.slot_setSlot _ hwf]
    split
    · rfl
    · exact hp

theorem freesSlots.wf (h : freesSlots s t) (hwf : Assoc.wf SlotEntry.free s.log.table = true) :
    Assoc.wf SlotEntry.free t.log.table = true := by
  rcases h with h | ⟨q, h⟩
  · rw [h, hwf]
  · rw [h]
    exact s.log.setSlot_wf hwf _ _

theorem freesSlots.kept (h : freesSlots s t) : t.log.memory = s.log.memory ∧ t.log.queue = s.log.queue := by
  rcases h with h | ⟨q, h⟩
  · rw [h]
    exact ⟨rfl, rfl⟩
  · rw [h]
    exact ⟨rfl, rfl⟩

theorem freesSlots_withdrawClaim (s : State) (ℓ : LaneId) (o : ResultOutcome) : freesSlots s (s.withdrawClaim ℓ o) := by
  cases hclaim : (s.lane ℓ).claim with
  | none => exact .inl (by simp [State.withdrawClaim, hclaim])
  | some c => exact .inr ⟨_, (State.claimWithdrawn hclaim o).log⟩

theorem State.failReclaim_lane (s : State) (ℓ : LaneId) : ∃ x y z, (s.failReclaim ℓ).lane ℓ = { s.lane ℓ with
    reclaim := none
    result := some (.reclaim, .driverElsewhere)
    lostClaim := x
    owedRelease := y
    owedContest := z } := by
  obtain ⟨x, y, z, h⟩ := s.endReclaim_lane ℓ
  exact ⟨x, y, z, by rw [State.failReclaim, State.lane_setResult, h]⟩

/-! ### CONTEST (R156) -/

variable {d : Nat}

/-- The driver is not in the lane's hands: neither claimed nor current nor reclaimed. -/
theorem Lane.not_of_holdsDriver {l : Lane} (h : l.holdsDriver d = false) :
    l.driver? ≠ some d ∧ ∀ rc, l.reclaim = some rc → rc.claim.driver ≠ d := by
  simp only [Lane.holdsDriver, Bool.or_eq_false_iff, beq_eq_false_iff_ne] at h
  exact ⟨h.1, fun rc hrc hd => h.2 (by simp [hrc, hd])⟩

theorem State.contestLane_of_claim {c : Claim} (hclaim : (s.lane ℓ).claim = some c) (hd : c.driver = d) :
    State.contestLane d s ℓ = s.withdrawClaim ℓ .driverElsewhere := by
  simp only [State.contestLane, hclaim, hd, if_true]

/-- The reclaim of a lane without claim meets the CONTEST first (R21, R156). -/
def State.reclaimContested (s : State) (ℓ : LaneId) (d : Nat) : State :=
  match (s.lane ℓ).reclaim with
  | some r => if r.claim.driver = d then s.failReclaim ℓ else s
  | none => s

theorem State.contestLane_of_no_claim (hclaim : (s.lane ℓ).claim = none) : State.contestLane d s ℓ =
    if ((s.reclaimContested ℓ d).lane ℓ).driver? = some d then
      (s.reclaimContested ℓ d).setHold ℓ .duplicate duplicateFinding else s.reclaimContested ℓ d := by
  unfold State.contestLane
  rw [hclaim]
  rfl

theorem State.reclaimContested_of {rc : Reclaim} (hreclaim : (s.lane ℓ).reclaim = some rc) (hd : rc.claim.driver = d) :
    s.reclaimContested ℓ d = s.failReclaim ℓ := by
  unfold State.reclaimContested
  rw [hreclaim]
  exact if_pos hd

theorem State.reclaimContested_of_not (h : ∀ rc, (s.lane ℓ).reclaim = some rc → rc.claim.driver ≠ d) :
    s.reclaimContested ℓ d = s := by
  unfold State.reclaimContested
  split
  · exact if_neg (h _ ‹_›)
  · rfl

/-- A contested reclaim leaves the state, the record and the hold set of the lane as they were (R21). -/
theorem State.reclaimContested_keeps (s : State) (ℓ : LaneId) (d : Nat) :
    ((s.reclaimContested ℓ d).lane ℓ).state = (s.lane ℓ).state ∧
    ((s.reclaimContested ℓ d).lane ℓ).record = (s.lane ℓ).record ∧
    ((s.reclaimContested ℓ d).lane ℓ).holds = (s.lane ℓ).holds := by
  unfold State.reclaimContested
  split
  · split
    · obtain ⟨x, y, z, h⟩ := s.failReclaim_lane ℓ
      rw [h]
      exact ⟨rfl, rfl, rfl⟩
    · exact ⟨rfl, rfl, rfl⟩
  · exact ⟨rfl, rfl, rfl⟩

theorem State.reclaimContested_laneOp (s : State) (ℓ : LaneId) (d : Nat) : s.LaneOp ℓ (s.reclaimContested ℓ d) := by
  unfold State.reclaimContested
  split
  · split
    · exact (State.LaneOp.refl ℓ s).failReclaim
    · exact .refl ℓ s
  · exact .refl ℓ s

theorem State.reclaimContested_frame (s : State) (ℓ : LaneId) (d : Nat) :
    (s.reclaimContested ℓ d).channels = s.channels ∧ (s.reclaimContested ℓ d).log = s.log := by
  unfold State.reclaimContested
  split
  · split <;> simp
  · simp

/-- What a CONTEST for a driver makes of a lane (R13, R21, R156). -/
structure State.Contested (d : Nat) (ℓ : LaneId) (s t : State) : Prop where
  op : s.LaneOp ℓ t
  channels : t.channels = s.channels
  log : freesSlots s t
  lost : ∀ c r, (s.lane ℓ).claim = some c → (s.lane ℓ).record = some r → c.driver = d →
    Assoc.wf SlotEntry.free s.log.table = true → claimLost s t ℓ r
  failed : ∀ rc, (s.lane ℓ).claim = none → (s.lane ℓ).reclaim = some rc → rc.claim.driver = d →
    (t.lane ℓ).reclaim = none ∧ (t.lane ℓ).result = some (.reclaim, .driverElsewhere) ∧
    (t.lane ℓ).state = (s.lane ℓ).state
  duplicate : (s.lane ℓ).claim = none → (s.lane ℓ).driver? = some d →
    ((s.lane ℓ).state = .opened ∨ (s.lane ℓ).state = .loading) → (t.lane ℓ).holds.duplicate = true
  stays : (∀ c, (s.lane ℓ).claim = some c → c.driver ≠ d) → (s.lane ℓ).holdsDriver d = false → t = s

theorem State.contested_of_claim {c : Claim} (hclaim : (s.lane ℓ).claim = some c) :
    State.Contested d ℓ s (State.contestLane d s ℓ) := by
  by_cases hd : c.driver = d
  · rw [State.contestLane_of_claim hclaim hd]
    refine ⟨(State.LaneOp.refl ℓ s).withdrawClaim _, by simp, freesSlots_withdrawClaim .., fun c' r hclaim' hrecord _ hwf => ?_,
      fun rc hnone => by simp [hclaim] at hnone, fun hnone => by simp [hclaim] at hnone, fun hnot => (hnot c hclaim hd).elim⟩
    exact claimLost_withdrawClaim hclaim' hrecord hwf
  · have heq : State.contestLane d s ℓ = s := by simp only [State.contestLane, hclaim, hd, if_false]
    rw [heq]
    refine ⟨.refl ℓ s, rfl, .inl rfl, fun c' r hclaim' _ hd' => ?_, fun rc hnone => by simp [hclaim] at hnone,
      fun hnone => by simp [hclaim] at hnone, fun _ _ => rfl⟩
    cases hclaim.symm.trans hclaim'
    exact (hd hd').elim

theorem State.contested_of_no_claim (hclaim : (s.lane ℓ).claim = none) :
    State.Contested d ℓ s (State.contestLane d s ℓ) := by
  obtain ⟨v, hv⟩ : ∃ v, v = s.reclaimContested ℓ d := ⟨_, rfl⟩
  have heq := State.contestLane_of_no_claim (d := d) hclaim
  obtain ⟨hstate, hrecord, hholds⟩ := s.reclaimContested_keeps ℓ d
  obtain ⟨hchannels, hlog⟩ := s.reclaimContested_frame ℓ d
  have hop := s.reclaimContested_laneOp ℓ d
  rw [← hv] at heq hstate hrecord hholds hchannels hlog hop
  have hdriver : (v.lane ℓ).driver? = (s.lane ℓ).driver? := by rw [Lane.driver?, Lane.driver?, hrecord]
  rw [heq]
  refine ⟨?_, ?_, ?_, fun c r hsome => by simp [hclaim] at hsome, fun rc _ hreclaim hd => ?_, fun _ hcurrent hopen => ?_,
    fun _ hholds => ?_⟩
  · split
    · exact hop.setHold _ _
    · exact hop
  · split
    · simp [hchannels]
    · exact hchannels
  · refine .inl ?_
    split
    · simp [hlog]
    · exact hlog
  · have hfail : v = s.failReclaim ℓ := hv.trans (State.reclaimContested_of hreclaim hd)
    obtain ⟨x, y, z, hlane⟩ := s.failReclaim_lane ℓ
    rw [← hfail] at hlane
    split
    · rw [State.lane_setHold]
      split
      · rw [hlane]
        exact ⟨rfl, rfl, rfl⟩
      · rw [hlane]
        exact ⟨rfl, rfl, rfl⟩
    · rw [hlane]
      exact ⟨rfl, rfl, rfl⟩
  · rw [if_pos (hdriver.trans hcurrent), State.setHold_holds]
    · rfl
    · rw [hstate]
      rcases hopen with h | h <;> rw [h] <;> rfl
  · obtain ⟨hcurrent, hreclaim⟩ := Lane.not_of_holdsDriver hholds
    rw [if_neg fun h => hcurrent (hdriver.symm.trans h), hv, State.reclaimContested_of_not hreclaim]

theorem State.contested (s : State) (d : Nat) (ℓ : LaneId) : State.Contested d ℓ s (State.contestLane d s ℓ) := by
  cases hclaim : (s.lane ℓ).claim with
  | none => exact State.contested_of_no_claim hclaim
  | some c => exact State.contested_of_claim hclaim

/-! ### Both lanes meet the notice -/

/-- Where a notice meets both lanes in turn, a lane meets it as the other has left the station: its own lane and places as
before, and the slots at most freed. -/
structure State.MeetsInTurn (f : State → LaneId → State) (ℓ : LaneId) (s p t : State) : Prop where
  before : p.lane ℓ = s.lane ℓ
  after : t.lane ℓ = (f p ℓ).lane ℓ
  frees : freesSlots s p
  freesAfter : freesSlots (f p ℓ) t
  stays : ∀ q, (q, false) ∈ (f p ℓ).attention → (q, false) ∈ t.attention
  contest : p.noticeAt (.contest ℓ) = s.noticeAt (.contest ℓ)
  contestAfter : t.noticeAt (.contest ℓ) = (f p ℓ).noticeAt (.contest ℓ)

theorem lanePlace_other {ℓ : LaneId} (ℓ' : LaneId) (h : ℓ' ≠ ℓ) : ¬ (lanePlace ℓ' (.contest ℓ) ∨ isDrawPlace (.contest ℓ)) := by
  rintro ((h' | h' | h') | ⟨_, h'⟩)
  · cases h'
  · cases h'
  · cases h'
    exact h rfl
  · cases h'

theorem State.meetsInTurn {f : State → LaneId → State} (hop : ∀ (s : State) ℓ, s.LaneOp ℓ (f s ℓ)) (hlog : ∀ s ℓ, freesSlots s (f s ℓ))
    (s : State) (ℓ : LaneId) : ∃ p, State.MeetsInTurn f ℓ s p (f (f s .a) .b) := by
  have ha := hop s .a
  have hb := hop (f s .a) .b
  cases ℓ with
  | a => exact ⟨s, rfl, hb.other, .inl rfl, hlog _ _, hb.stays, rfl, hb.notices _ (lanePlace_other .b nofun)⟩
  | b => exact ⟨f s .a, ha.other, rfl, hlog _ _, .inl rfl, fun _ => id, ha.notices _ (lanePlace_other .a nofun), rfl⟩

theorem freesSlots.memory_eq (h : freesSlots s t) : t.log.memory = s.log.memory := h.kept.1

/-- A claim that the notice takes from a lane is lost, whichever lane meets the notice first (R14). -/
theorem State.MeetsInTurn.lost {f : State → LaneId → State} {p v : State} {r : LoadRecord} (h : State.MeetsInTurn f ℓ v p t)
    (hv : v.log = s.log) (hwf : Assoc.wf SlotEntry.free s.log.table = true)
    (hlost : Assoc.wf SlotEntry.free p.log.table = true → claimLost p (f p ℓ) ℓ r) (hfrees : freesSlots p (f p ℓ)) :
    claimLost s t ℓ r := by
  have hpwf : Assoc.wf SlotEntry.free p.log.table = true := h.frees.wf (hv ▸ hwf)
  obtain ⟨hstate, hrecord, hclaim, hholds, hresult, hdone, hfree, hkept⟩ := (hlost hpwf).trans h.after h.stays
    h.freesAfter.memory_eq (h.freesAfter.slot (hfrees.wf hpwf))
  exact ⟨hstate, hrecord, hclaim, hholds, hresult, hdone, hfree, by rw [hkept, h.frees.memory_eq, hv]⟩

end StopHeard

section SettleStops

/-- Settles O51. -/
theorem stopsAndContestsHeard : Obligations.StopsAndContestsHeard := by
  refine ⟨fun s a body assert hhears hparse => ⟨fun ha => ?_, fun ha hwf => ?_⟩,
    fun s a d body hhears hparse => ⟨fun ha => ?_, fun ha hwf => ?_⟩⟩
  · subst ha
    exact congrArg Host.Outcome.next (State.hear_of_echo actStop hhears hparse)
  · obtain ⟨v, hv⟩ : ∃ v, v = (s.heardFrom a).modRow a (fun r => { r with stop := assert }) := ⟨_, rfl⟩
    have hexec : exec .stopHeard s = .next (v.takeStop a assert) := by
      rw [hv]
      exact congrArg Host.Outcome.next (State.hear_of_hears actStop hhears hparse ha)
    obtain ⟨hlists, hcauses, hline, hnotices, -⟩ := v.stopTaken a assert
    obtain ⟨hrow, hrows⟩ := s.heardFrom_modRow a (f := fun r => { r with stop := assert }) rfl
    rw [← hv] at hrow hrows
    have hvlists : v.lists = listsHeard s a := by rw [hv, ← s.heardFrom_lists]; simp
    have hvline : v.line = (s.heardFrom a).line := by simp [hv]
    have hvnotice (p : Place) : v.noticeAt p = s.noticeAt p := by
      rw [← s.noticeAt_heardFrom a p, State.noticeAt, State.noticeAt, hvline]
    refine ⟨_, hexec, by simpa using hrow, hrows.congr (by simp), fun b => ?_, ?_, ?_, ?_, ?_, by simp [hv, sameStation]⟩
    · rw [hlists, Lists.stop_setStop _ (by rw [hvlists]; exact listsHeard_stops_wf a hwf), hvlists]
      split
      · rfl
      · exact listsHeard_stop_ne hwf ‹_›
    · rw [hlists, hvlists]
      rfl
    · exact hcauses.congr (by simp [hv]) (fun c => hvnotice (.draw c)) (by simp [hv]) (by simp [hv])
    · exact lineHeard_of_lineKept (a := a) ((lineKept_of_eq hvline).trans hline)
    · have hkept : noticesKept isDrawPlace s v := fun p _ => hvnotice p
      exact hkept.trans hnotices
  · subst ha
    exact congrArg Host.Outcome.next (State.hear_of_echo actContest hhears hparse)
  · obtain ⟨v, hv⟩ : ∃ v, v = s.heardFrom a := ⟨_, rfl⟩
    obtain ⟨w, hw⟩ : ∃ w, w = State.contestLane d v .a := ⟨_, rfl⟩
    have hexec : exec .contestHeard s = .next (State.contestLane d w .b) := by
      rw [hw, hv]
      exact congrArg Host.Outcome.next (State.hear_of_hears actContest hhears hparse ha)
    have ha' := v.contested d .a
    rw [← hw] at ha'
    have hb' := w.contested d .b
    have hturn (ℓ : LaneId) : ∃ p, State.MeetsInTurn (State.contestLane d) ℓ v p (State.contestLane d w .b) := by
      rw [hw]
      exact State.meetsInTurn (fun s ℓ => (s.contested d ℓ).op) (fun s ℓ => (s.contested d ℓ).log) v ℓ
    have hlane (ℓ : LaneId) : v.lane ℓ = s.lane ℓ := by simp [hv]
    have hvlog : v.log = s.log := by simp [hv]
    refine ⟨_, hexec, ?_, ?_, ?_, fun ℓ c r hclaim hrecord hd => ?_, fun ℓ rc hclaim hreclaim hd => ?_,
      fun ℓ hclaim hcurrent hopen => ?_, fun ℓ hclaim hholds => ?_, ?_, ?_, ?_, ?_, by simp [hw, hv], ?_⟩
    · simp [hw, hv, s.heardFrom_row]
    · exact (rowsKept_heardFrom s a).congr (by simp [hw, hv])
    · simp [hw, hv, s.heardFrom_lists]
    · obtain ⟨p, hp⟩ := hturn ℓ
      have hc := p.contested d ℓ
      have hplane := hp.before.trans (hlane ℓ)
      exact hp.lost hvlog hwf (hc.lost c r (by rw [hplane, hclaim]) (by rw [hplane, hrecord]) hd) hc.log
    · obtain ⟨p, hp⟩ := hturn ℓ
      have hplane := hp.before.trans (hlane ℓ)
      have := (p.contested d ℓ).failed rc
      rw [← hp.after, hplane] at this
      exact this hclaim hreclaim hd
    · obtain ⟨p, hp⟩ := hturn ℓ
      have hplane := hp.before.trans (hlane ℓ)
      have := (p.contested d ℓ).duplicate
      rw [← hp.after, hplane] at this
      exact this hclaim hcurrent hopen
    · obtain ⟨p, hp⟩ := hturn ℓ
      have hplane := hp.before.trans (hlane ℓ)
      rw [hp.after, (p.contested d ℓ).stays (by rw [hplane]; exact hclaim) (by rw [hplane]; exact hholds), hplane]
    · rw [hb'.channels, ha'.channels, hv]
      simp
    · refine lineHeard_of_lineKept (a := a) ?_
      rw [← hv]
      exact ha'.op.line.trans hb'.op.line
    · rw [hb'.log.memory_eq, ha'.log.memory_eq, hvlog]
    · rw [hb'.log.kept.2, ha'.log.kept.2, hvlog]
    · simp [sameStation, hw, hv]

end SettleStops

end Sys2Proof.Machine

namespace Sys2Proof.Machine

/-! ## Proofs: CLAIM heard and its echo (chapter 7) -/

section ClaimHeard

variable {s t u : State} {a d : Nat} {ℓ : LaneId}

theorem State.queueContest_of_free (h : s.noticeAt (.contest ℓ) = none) : s.queueContest ℓ d = s.placeContest ℓ d := by
  have hnone : s.contestDriver ℓ = none := by simp [State.contestDriver, h]
  rw [State.queueContest, hnone]

/-- A CONTEST into a free place leaves the lane as it was, and its form is fixed then (R155). -/
theorem State.contested_of_free (h : s.noticeAt (.contest ℓ) = none) : (s.queueContest ℓ d).lane ℓ = s.lane ℓ ∧
    (s.queueContest ℓ d).noticeAt (.contest ℓ) = some ⟨.contest ℓ d ((s.lane ℓ).holdingForm d), false⟩ := by
  rw [State.queueContest_of_free h, State.placeContest]
  exact ⟨State.lane_queueNotice .., by rw [State.noticeAt_queueNotice, if_pos ⟨rfl, h⟩]⟩

theorem State.queueContest_lane (s : State) (ℓ : LaneId) (d : Nat) :
    ∃ x, (s.queueContest ℓ d).lane ℓ = { s.lane ℓ with owedContest := x } := by
  unfold State.queueContest
  split
  · exact ⟨(s.lane ℓ).owedContest, State.lane_queueNotice ..⟩
  · split
    · exact ⟨(s.lane ℓ).owedContest, rfl⟩
    · exact ⟨some d, State.lane_modLane_same ..⟩

theorem Lane.holdingForm_of_claiming {l : Lane} (h : l.state = .claiming) : l.holdingForm d = .claimWindow := if_pos h

theorem Lane.holdingForm_of_not_claiming {l : Lane} (h : l.state ≠ .claiming) :
    l.holdingForm d = if l.driver? = some d then .settled else .reclaimWindow := if_neg h

theorem State.LaneOp.contestSettled (h : s.LaneOp ℓ t) (d : Nat) : s.LaneOp ℓ (t.contestSettled ℓ d) := by
  unfold State.contestSettled
  split
  · exact h.queueContest d
  · exact h

theorem State.contestSettled_lane (s : State) (ℓ : LaneId) (d : Nat) :
    ∃ x, (s.contestSettled ℓ d).lane ℓ = { s.lane ℓ with owedContest := x } := by
  unfold State.contestSettled
  split
  · exact s.queueContest_lane ℓ d
  · exact ⟨(s.lane ℓ).owedContest, rfl⟩

/-! ### A lane meets the CLAIM (R11, R12, R21, R153) -/

theorem State.claimLane_of_claim_not {c : Claim} (hclaim : (s.lane ℓ).claim = some c) (hd : c.driver ≠ d) :
    State.claimLane d s ℓ = s := by
  simp only [State.claimLane, hclaim, ne_eq, hd, not_false_eq_true, if_true]

theorem State.claimLane_of_claim_heard {c : Claim} (hclaim : (s.lane ℓ).claim = some c) (hd : c.driver = d)
    (hstep : c.step = .heard) : State.claimLane d s ℓ = s.queueContest ℓ d := by
  simp only [State.claimLane, hclaim, ne_eq, hd, not_true_eq_false, if_false, hstep, if_true]

theorem State.claimLane_of_claim_open {c : Claim} (hclaim : (s.lane ℓ).claim = some c) (hd : c.driver = d)
    (hstep : c.step ≠ .heard) : State.claimLane d s ℓ = s.withdrawClaim ℓ .driverElsewhere := by
  simp only [State.claimLane, hclaim, ne_eq, hd, not_true_eq_false, if_false, hstep]

theorem State.claimLane_of_settled (hclaim : (s.lane ℓ).claim = none)
    (h : ∀ rc, (s.lane ℓ).reclaim = some rc → rc.claim.driver ≠ d) : State.claimLane d s ℓ = s.contestSettled ℓ d := by
  cases hreclaim : (s.lane ℓ).reclaim with
  | none => simp only [State.claimLane, hclaim, hreclaim]
  | some rc => simp only [State.claimLane, hclaim, hreclaim, ne_eq, h rc hreclaim, not_false_eq_true, if_true]

theorem State.claimLane_of_reclaim_heard {rc : Reclaim} (hclaim : (s.lane ℓ).claim = none)
    (hreclaim : (s.lane ℓ).reclaim = some rc) (hd : rc.claim.driver = d) (hstep : rc.claim.step = .heard) :
    State.claimLane d s ℓ = s.queueContest ℓ d := by
  simp only [State.claimLane, hclaim, hreclaim, ne_eq, hd, not_true_eq_false, if_false, hstep, if_true]

theorem State.claimLane_of_reclaim_open {rc : Reclaim} (hclaim : (s.lane ℓ).claim = none)
    (hreclaim : (s.lane ℓ).reclaim = some rc) (hd : rc.claim.driver = d) (hstep : rc.claim.step ≠ .heard) :
    State.claimLane d s ℓ = (s.failReclaim ℓ).contestSettled ℓ d := by
  simp only [State.claimLane, hclaim, hreclaim, ne_eq, hd, not_true_eq_false, if_false, hstep]

/-- What holds of a lane's meeting with a CLAIM in every case. -/
theorem State.claimLane_op (s : State) (d : Nat) (ℓ : LaneId) :
    s.LaneOp ℓ (State.claimLane d s ℓ) ∧ freesSlots s (State.claimLane d s ℓ) := by
  unfold State.claimLane
  split
  · split
    · exact ⟨.refl ℓ s, .inl rfl⟩
    · split
      · exact ⟨(State.LaneOp.refl ℓ s).queueContest d, .inl (by simp)⟩
      · exact ⟨(State.LaneOp.refl ℓ s).withdrawClaim _, freesSlots_withdrawClaim ..⟩
  · split
    · split
      · exact ⟨(State.LaneOp.refl ℓ s).contestSettled d, .inl (by simp)⟩
      · split
        · exact ⟨(State.LaneOp.refl ℓ s).queueContest d, .inl (by simp)⟩
        · exact ⟨(State.LaneOp.refl ℓ s).failReclaim.contestSettled d, .inl (by simp)⟩
    · exact ⟨(State.LaneOp.refl ℓ s).contestSettled d, .inl (by simp)⟩

/-- A lane that does not hold the driver meets the CLAIM unchanged. -/
theorem State.claimLane_of_not_held (hclaim : ∀ c, (s.lane ℓ).claim = some c → c.driver ≠ d)
    (hholds : (s.lane ℓ).holdsDriver d = false) : State.claimLane d s ℓ = s := by
  obtain ⟨hcurrent, hreclaim⟩ := Lane.not_of_holdsDriver hholds
  cases h : (s.lane ℓ).claim with
  | some c => exact State.claimLane_of_claim_not h (hclaim c h)
  | none => rw [State.claimLane_of_settled h hreclaim, State.contestSettled, if_neg hcurrent]

/-- A lane settled with the driver contests the CLAIM (R153). -/
theorem State.claimLane_settled (hclaim : (s.lane ℓ).claim = none) (hreclaim : (s.lane ℓ).reclaim = none)
    (hcurrent : (s.lane ℓ).driver? = some d) (hstate : (s.lane ℓ).state ≠ .claiming)
    (hfree : s.noticeAt (.contest ℓ) = none) : (State.claimLane d s ℓ).lane ℓ = s.lane ℓ ∧
      (State.claimLane d s ℓ).noticeAt (.contest ℓ) = some ⟨.contest ℓ d .settled, false⟩ := by
  rw [State.claimLane_of_settled hclaim (fun rc h => by simp [hreclaim] at h), State.contestSettled, if_pos hcurrent]
  have h := State.contested_of_free (d := d) hfree
  rw [Lane.holdingForm_of_not_claiming hstate, if_pos hcurrent] at h
  exact h

/-- A pending reclaim that has not been heard fails at another station's CLAIM (R21). -/
theorem State.claimLane_fails {rc : Reclaim} (hclaim : (s.lane ℓ).claim = none) (hreclaim : (s.lane ℓ).reclaim = some rc)
    (hd : rc.claim.driver = d) (hstep : rc.claim.step ≠ .heard) : ((State.claimLane d s ℓ).lane ℓ).reclaim = none ∧
      ((State.claimLane d s ℓ).lane ℓ).result = some (.reclaim, .driverElsewhere) ∧
      ((State.claimLane d s ℓ).lane ℓ).record = (s.lane ℓ).record := by
  rw [State.claimLane_of_reclaim_open hclaim hreclaim hd hstep]
  obtain ⟨x, y, z, hlane⟩ := s.failReclaim_lane ℓ
  obtain ⟨w, hw⟩ := (s.failReclaim ℓ).contestSettled_lane ℓ d
  rw [hw, hlane]
  exact ⟨rfl, rfl, rfl⟩

/-! ### The row of the sender (R152) -/

theorem PeerRow.valid_setLane (r : PeerRow) (x : LaneId) (y : PeerLane) : (r.setLane x y).valid = r.valid := by
  cases x <;> rfl

theorem PeerRow.lane_setLane (r : PeerRow) (x : LaneId) (y : PeerLane) : (r.setLane x y).lane x = y := by
  cases x <;> rfl

/-! ### The window of the own claim (R11, R154) -/

theorem Claim.takesEcho_iff {c : Claim} : c.takesEcho d = true ↔ c.driver = d ∧
    (c.step = .sent ∨ ((c.step = .waiting ∨ c.step = .queued) ∧ c.announced = true)) := by
  simp [Claim.takesEcho]

end ClaimHeard

section SettleClaims

theorem State.claimEcho_taken {s : State} {d v : Nat} {ℓ : LaneId} {re : Bool} {body : List Byte} {c : Claim}
    (hhears : hears s 2 s.unit.address body) (hparse : parseClaim body = some (ℓ, re, d, v))
    (hprogress : (s.lane ℓ).progress? = some c) (htakes : c.takesEcho d = true) :
    ∃ t, exec .claimEcho s = .next t ∧
      t.lane ℓ = (s.lane ℓ).modProgress (fun y => { y with step := .heard, timer := some s.windowMs }) ∧
      (s.begunAt (.claim ℓ) = false → t.noticeAt (.claim ℓ) = none) ∧
      (s.begunAt (.claim ℓ) = true → t.noticeAt (.claim ℓ) = s.noticeAt (.claim ℓ)) ∧
      t.lane (otherLane ℓ) = s.lane (otherLane ℓ) ∧ t.channels = s.channels ∧ lineHeard s t ∧
      noticesKept (· = .claim ℓ) s t ∧ t.lists = s.lists ∧ t.view = s.view ∧ t.log = s.log ∧ t.port = s.port ∧
      t.attention = s.attention ∧ sameStation s t := by
  obtain ⟨v, hv⟩ : ∃ v, v = s.dropFront.removeNotice (.claim ℓ) := ⟨_, rfl⟩
  have hexec : exec .claimEcho s = .next (v.modLane ℓ (fun l =>
      l.modProgress (fun y => { y with step := .heard, timer := some s.windowMs }))) := by
    refine congrArg Host.Outcome.next ((State.hearEcho_of_hears actClaimEcho hhears hparse).trans ?_)
    have hdrop : (s.dropFront.lane ℓ).progress? = some c := hprogress
    rw [actClaimEcho, hdrop, hv]
    exact if_pos htakes
  have hnotice (p : Place) : v.noticeAt p = if p = .claim ℓ ∧ s.begunAt (.claim ℓ) = false then none else s.noticeAt p := by
    rw [hv]
    exact State.noticeAt_removeNotice ..
  refine ⟨_, hexec, ?_, fun hbegun => (hnotice _).trans (if_pos ⟨rfl, hbegun⟩), fun hbegun => (hnotice _).trans (if_neg ?_),
    ?_, by simp [hv], ?_, fun p hp => (hnotice p).trans (if_neg fun h => hp h.1), by simp [hv], by simp [hv], by simp [hv],
    by simp [hv], by simp [hv], by simp [hv, sameStation]⟩
  · rw [State.lane_modLane_same, hv, State.lane_removeNotice]
    rfl
  · simp [hbegun]
  · rw [State.lane_modLane_other, hv, State.lane_removeNotice]
    rfl
  · have hline : lineKept s.dropFront v := hv ▸ lineKept_removeNotice (.claim ℓ)
    exact hline

theorem State.claimEcho_ignored {s : State} {d v : Nat} {ℓ : LaneId} {re : Bool} {body : List Byte}
    (hhears : hears s 2 s.unit.address body) (hparse : parseClaim body = some (ℓ, re, d, v))
    (h : ∀ c, (s.lane ℓ).progress? = some c → ¬ c.takesEcho d = true) :
    exec .claimEcho s = .next (s.setLine { s.line with receiveQueue := s.line.receiveQueue.drop 1 }) := by
  refine congrArg Host.Outcome.next ((State.hearEcho_of_hears actClaimEcho hhears hparse).trans ?_)
  show actClaimEcho (ℓ, re, d, v) s.dropFront = s.dropFront
  have hdrop : (s.dropFront.lane ℓ).progress? = (s.lane ℓ).progress? := rfl
  rw [actClaimEcho, hdrop]
  cases hc : (s.lane ℓ).progress? with
  | none => rfl
  | some c => exact if_neg (h c hc)

/-- Settles O52. -/
theorem claimsHeardSettleOnTheLine : Obligations.ClaimsHeardSettleOnTheLine := by
  refine ⟨fun s a d v x re body hhears hparse ha hwf => ?_, fun s d v ℓ re body hhears hparse => ⟨fun c hprogress hd hstep =>
    State.claimEcho_taken hhears hparse hprogress (Claim.takesEcho_iff.2 ⟨hd, hstep⟩),
    fun h => State.claimEcho_ignored hhears hparse fun c hc htakes => h c hc (Claim.takesEcho_iff.1 htakes)⟩⟩
  obtain ⟨f, hf⟩ : ∃ f : PeerRow → PeerRow, f = fun r => r.setLane x ((r.lane x).claimed re d v) := ⟨_, rfl⟩
  obtain ⟨p, hp⟩ : ∃ p, p = (s.heardFrom a).modRow a f := ⟨_, rfl⟩
  obtain ⟨w, hw⟩ : ∃ w, w = State.claimLane d p .a := ⟨_, rfl⟩
  obtain ⟨u, hu⟩ : ∃ u, u = State.claimLane d w .b := ⟨_, rfl⟩
  have hexec : exec .claimHeard s = .next (u.matchWatch d (some v) ⟨a, x, .claim, s.minute⟩) := by
    refine congrArg Host.Outcome.next ((State.hearOther_of_hears actClaim hhears hparse ha).trans ?_)
    have hminute : (s.heardFrom a).minute = s.minute := by simp [State.minute]
    rw [hu, hw, hp, hf, ← hminute]
    rfl
  have hvalid : (f (rowHeard s a)).valid = true := by rw [hf, PeerRow.valid_setLane, rowHeard_valid]
  obtain ⟨hrow, hrows⟩ := s.heardFrom_modRow a hvalid
  rw [← hp] at hrow hrows
  obtain ⟨t, ht⟩ : ∃ t, t = u.matchWatch d (some v) ⟨a, x, .claim, s.minute⟩ := ⟨_, rfl⟩
  have htview : t.view = p.view := by rw [ht, hu, hw]; simp
  have hnew : (t.view.row a).lane x = ((rowHeard s a).lane x).claimed re d v := by
    rw [htview, hrow, hf, PeerRow.lane_setLane]
  rw [← ht] at hexec
  have hwatch := watchMatched_matchWatch u d (some v) ⟨a, x, .claim, s.minute⟩
  rw [← ht] at hwatch
  have hop := (State.LaneOp.refl .a u).matchWatch d (some v) ⟨a, x, .claim, s.minute⟩
  have htlane (ℓ : LaneId) : t.lane ℓ = u.lane ℓ := by rw [ht, State.lane_matchWatch]
  have htlog : t.log = u.log := by rw [ht]; simp
  have htline : t.line = u.line := by rw [ht]; simp
  rw [← ht] at hop
  have hplane (ℓ : LaneId) : p.lane ℓ = s.lane ℓ := by rw [hp]; simp [State.lane]
  have hpnotice (q : Place) : p.noticeAt q = s.noticeAt q := by
    have hline : p.line = (s.heardFrom a).line := by rw [hp]; simp
    rw [← s.noticeAt_heardFrom a q, State.noticeAt, State.noticeAt, hline]
  have hplog : p.log = s.log := by rw [hp]; simp
  obtain ⟨hopa, hfreea⟩ := p.claimLane_op d .a
  obtain ⟨hopb, hfreeb⟩ := w.claimLane_op d .b
  rw [← hw] at hopa hfreea
  rw [← hu] at hopb hfreeb
  have hturn (ℓ : LaneId) : ∃ q, q.lane ℓ = s.lane ℓ ∧ q.noticeAt (.contest ℓ) = s.noticeAt (.contest ℓ) ∧
      State.MeetsInTurn (State.claimLane d) ℓ p q u ∧ t.lane ℓ = (State.claimLane d q ℓ).lane ℓ ∧
      t.noticeAt (.contest ℓ) = (State.claimLane d q ℓ).noticeAt (.contest ℓ) := by
    obtain ⟨q, hq⟩ := State.meetsInTurn (fun s ℓ => (s.claimLane_op d ℓ).1) (fun s ℓ => (s.claimLane_op d ℓ).2) p ℓ
    rw [← hw, ← hu] at hq
    exact ⟨q, hq.before.trans (hplane ℓ), hq.contest.trans (hpnotice _), hq, (htlane ℓ).trans hq.after,
      (noticesKept_of_line (touched := fun _ => False) htline _ id).trans hq.contestAfter⟩
  refine ⟨t, (rowHeard s a).lane x, (t.view.row a).lane x, hexec, rfl, rfl, fun hre => ?_, fun hre hold => ?_,
    fun hre hold => ?_, fun hre hold => ?_, ?_, ?_, fun ℓ c r hclaim hrecord hd hstep => ?_,
    fun ℓ c hclaim hd hstep hstate hfree => ?_, fun ℓ hclaim hreclaim hcurrent hstate hfree => ?_,
    fun ℓ rc hclaim hreclaim hd => ⟨fun hstep => ?_, fun hstep hstate hfree => ?_⟩, fun ℓ hclaim hholds => ?_, ?_, ?_, ?_, ?_,
    ?_, ?_, ?_⟩
  · rw [hnew, hre]
    rfl
  · rw [hnew, hre]
    rcases hold with h | h <;> simp [PeerLane.claimed, h]
  · rw [hnew, hre]
    simp [PeerLane.claimed, hold]
  · rw [hnew, hre]
    simp [PeerLane.claimed, hold]
  · rw [hnew, htview, hrow, hf]
  · exact hrows.congr htview
  · obtain ⟨q, hqlane, -, hq, -, -⟩ := hturn ℓ
    have hlost := hq.lost (s := s) (r := r) hplog hwf (fun hqwf => by
      rw [State.claimLane_of_claim_open (by rw [hqlane, hclaim]) hd hstep]
      exact claimLost_withdrawClaim (by rw [hqlane, hclaim]) (by rw [hqlane, hrecord]) hqwf) (q.claimLane_op d ℓ).2
    exact hlost.trans (htlane ℓ) hop.stays (by rw [htlog]) (by rw [htlog]; exact id)
  · obtain ⟨q, hqlane, hqfree, -, hlane, hnotice⟩ := hturn ℓ
    rw [hlane, hnotice, State.claimLane_of_claim_heard (by rw [hqlane, hclaim]) hd hstep, ← hqlane]
    have h := State.contested_of_free (d := d) (hqfree.trans hfree)
    rw [Lane.holdingForm_of_claiming (by rw [hqlane, hstate])] at h
    exact h
  · obtain ⟨q, hqlane, hqfree, -, hlane, hnotice⟩ := hturn ℓ
    rw [hlane, hnotice, ← hqlane]
    rw [← hqlane] at hclaim hreclaim hcurrent hstate
    exact State.claimLane_settled hclaim hreclaim hcurrent hstate (hqfree.trans hfree)
  · obtain ⟨q, hqlane, -, -, hlane, -⟩ := hturn ℓ
    rw [hlane, ← hqlane]
    rw [← hqlane] at hclaim hreclaim
    exact State.claimLane_fails hclaim hreclaim hd hstep
  · obtain ⟨q, hqlane, hqfree, -, hlane, hnotice⟩ := hturn ℓ
    rw [hlane, hnotice, State.claimLane_of_reclaim_heard (by rw [hqlane, hclaim]) (by rw [hqlane, hreclaim]) hd hstep, ← hqlane]
    have h := State.contested_of_free (d := d) (hqfree.trans hfree)
    rw [Lane.holdingForm_of_not_claiming (by rw [hqlane]; exact hstate)] at h
    exact h
  · obtain ⟨q, hqlane, hqfree, -, hlane, hnotice⟩ := hturn ℓ
    rw [hlane, hnotice, State.claimLane_of_not_held (by rw [hqlane]; exact hclaim) (by rw [hqlane]; exact hholds)]
    exact ⟨hqlane, hqfree⟩
  · have hulists : u.lists = listsHeard s a := by rw [hu, hw, hp, ← s.heardFrom_lists a]; simp
    rw [← hulists]
    exact hwatch
  · rw [ht, hu, hw, hp]
    simp
  · refine lineHeard_of_lineKept (a := a) ?_
    have hline : lineKept (s.heardFrom a) p := lineKept_of_eq (by rw [hp]; simp)
    exact ((hline.trans hopa.line).trans hopb.line).trans hop.line
  · rw [htlog, hfreeb.memory_eq, hfreea.memory_eq, hplog]
  · rw [htlog, hfreeb.kept.2, hfreea.kept.2, hplog]
  · rw [ht, hu, hw, hp]
    simp
  · rw [ht, hu, hw, hp]
    simp [sameStation]

end SettleClaims

end Sys2Proof.Machine

namespace Sys2Proof.Machine

/-! ## Proofs: DRAW heard and its echo (chapter 7) -/

section Draws

variable {s t u : State} {a h : Nat} {c : ChanId} {f g : PeerRow → PeerRow}

/-! ### A row written twice, and its share of the peer draws (R142, R145) -/

theorem Assoc.insert_insert {α : Type} (k : Nat) (x y : α) (m : Assoc α) :
    Assoc.insert k y (Assoc.insert k x m) = Assoc.insert k y m := by
  induction m with
  | nil => simp [Assoc.insert]
  | cons p m ih =>
    obtain ⟨i, v⟩ := p
    simp only [Assoc.insert]
    split
    · simp [Assoc.insert]
    · split
      · simp [Assoc.insert]
      · rename_i hlt hne
        rw [Assoc.insert, if_neg hlt, if_neg hne, ih]

/-- The sum over a table with a value listed is that value's share and a rest that does not depend on it. -/
theorem Assoc.sum_insert {α : Type} (w : α → Nat) (k : Nat) (m : Assoc α) :
    ∃ rest, ∀ x, ((Assoc.insert k x m).map (fun p => w p.2)).sum = rest + w x := by
  induction m with
  | nil => exact ⟨0, fun x => by simp [Assoc.insert]⟩
  | cons p m ih =>
    obtain ⟨i, v⟩ := p
    obtain ⟨rest, hrest⟩ := ih
    by_cases hlt : k < i
    · refine ⟨w v + (m.map fun p => w p.2).sum, fun x => ?_⟩
      rw [Assoc.insert, if_pos hlt, List.map_cons, List.map_cons, List.sum_cons, List.sum_cons, Nat.add_comm]
    · by_cases heq : k = i
      · refine ⟨(m.map fun p => w p.2).sum, fun x => ?_⟩
        rw [Assoc.insert, if_neg hlt, if_pos heq, List.map_cons, List.sum_cons, Nat.add_comm]
      · refine ⟨w v + rest, fun x => ?_⟩
        rw [Assoc.insert, if_neg hlt, if_neg heq, List.map_cons, List.sum_cons, hrest, Nat.add_assoc]

theorem Assoc.countP_insert_le {α : Type} (q : Nat × α → Bool) (k : Nat) (x : α) (m : Assoc α) :
    (Assoc.insert k x m).countP q ≤ m.countP q + 1 := by
  induction m with
  | nil =>
    rw [Assoc.insert]
    exact List.countP_le_length
  | cons p m ih =>
    obtain ⟨i, v⟩ := p
    rw [Assoc.insert]
    split
    · rw [List.countP_cons (a := (k, x))]
      split <;> omega
    · split
      · rw [List.countP_cons, List.countP_cons]
        split <;> omega
      · rw [List.countP_cons, List.countP_cons]
        omega

theorem PeerRow.ne_reset_of_valid {r : PeerRow} (hr : r.valid = true) : r ≠ PeerRow.reset :=
  fun hreset => by simp [hreset, PeerRow.reset] at hr

theorem PeerView.setRow_of_valid (v : PeerView) (a : Nat) {r : PeerRow} (hr : r.valid = true) :
    v.setRow a r = { v with rows := Assoc.insert a r v.rows } := by
  rw [PeerView.setRow, Assoc.put, if_neg (PeerRow.ne_reset_of_valid hr)]

theorem PeerView.setRow_setRow (v : PeerView) (a : Nat) {r r' : PeerRow} (hr : r.valid = true) (hr' : r'.valid = true) :
    (v.setRow a r).setRow a r' = v.setRow a r' := by
  rw [PeerView.setRow_of_valid _ _ hr', PeerView.setRow_of_valid _ _ hr, PeerView.setRow_of_valid _ _ hr',
    Assoc.insert_insert]

theorem State.heardFrom_modRow_view (s : State) (a : Nat) (hf : (f (rowHeard s a)).valid = true) :
    ((s.heardFrom a).modRow a f).view = s.view.setRow a (f (rowHeard s a)) := by
  have hself : (s.heardFrom a).view.row a = rowHeard s a := by rw [s.heardFrom_row, if_pos rfl]
  rw [State.modRow, hself, s.heardFrom_view]
  exact PeerView.setRow_setRow _ _ (rowHeard_valid s a) hf

/-- The row of the sender changed twice is changed once. -/
theorem State.heardFrom_modRow_modRow (s : State) (a : Nat) (hf : (f (rowHeard s a)).valid = true)
    (hg : (g (f (rowHeard s a))).valid = true) :
    ((s.heardFrom a).modRow a f).modRow a g = (s.heardFrom a).modRow a (g ∘ f) := by
  have hview : (((s.heardFrom a).modRow a f).modRow a g).view = ((s.heardFrom a).modRow a (g ∘ f)).view := by
    rw [s.heardFrom_modRow_view a (f := g ∘ f) hg]
    show (State.view ((s.heardFrom a).modRow a f)).setRow a (g _) = _
    rw [(s.heardFrom_modRow a hf).1, s.heardFrom_modRow_view a hf]
    exact PeerView.setRow_setRow _ _ hf hg
  show { s.heardFrom a with view := (((s.heardFrom a).modRow a f).modRow a g).view } = _
  rw [hview]
  rfl

/-- The peer draws after a change of the sender's row are its row's and a rest that the change does not touch (R145). -/
theorem State.peerDraws_modRow (s : State) (a h : Nat) : ∃ rest, ∀ f : PeerRow → PeerRow, (f (rowHeard s a)).valid = true →
    ((s.heardFrom a).modRow a f).view.peerDraws h = rest + (f (rowHeard s a)).drawsOn h := by
  obtain ⟨rest, hrest⟩ := Assoc.sum_insert (fun r : PeerRow => if r.valid then r.drawsOn h else 0) a s.view.rows
  refine ⟨rest, fun f hf => ?_⟩
  rw [s.heardFrom_modRow_view a hf, PeerView.setRow_of_valid _ _ hf]
  exact (hrest _).trans (by rw [if_pos hf])

/-! ### The judgement of a heard draw (R159, R161) -/

theorem PeerRow.draws_dropDraw (r : PeerRow) (hwf : Assoc.wf none r.draws = true) (c : ChanId) (i : Nat) :
    Assoc.get none i (r.dropDraw c).draws = if i = c.index then none else Assoc.get none i r.draws :=
  Assoc.get_put none c.index i none r.draws hwf

theorem PeerRow.draws_addDraw (r : PeerRow) (c : ChanId) (h i : Nat) :
    Assoc.get none i (r.addDraw c h).draws = if i = c.index then some h else Assoc.get none i r.draws := by
  rw [PeerRow.addDraw, Assoc.put, if_neg nofun]
  exact Assoc.get_insert ..

theorem PeerRow.drawsOn_addDraw_le (r : PeerRow) (c : ChanId) (h : Nat) : (r.addDraw c h).drawsOn h ≤ r.drawsOn h + 1 := by
  rw [PeerRow.addDraw, Assoc.put, if_neg nofun]
  exact Assoc.countP_insert_le ..

theorem rowHeard_draws_wf (a : Nat) (hwf : Assoc.wf none (s.view.row a).draws = true) :
    Assoc.wf none (rowHeard s a).draws = true := by
  unfold rowHeard
  split
  · exact hwf
  · rfl

/-- A change of the sender's row as one of its draw set alone, the falls of the count reported (R145, R159, R161). -/
structure State.DrawsHeard (a : Nat) (f : PeerRow → PeerRow) (s t : State) : Prop where
  row : t.view.row a = f (rowHeard s a)
  rows : rowsKept s t a
  lists : t.lists = listsHeard s a
  asks : othersAsk (fun _ => False) s t
  line : lineHeard s t
  notices : noticesKept isDrawPlace s t
  rest : t.lanes = s.lanes ∧ t.log = s.log ∧ t.port = s.port ∧ t.attention = s.attention ∧ sameStation s t
  count : ∀ h, t.viewCount h = ((s.heardFrom a).modRow a f).viewCount h

theorem State.roundFrame_reportFalls (s t : State) : State.RoundFrame t (State.reportFalls s t) :=
  State.roundFrame_foldl (fun u h => by
    split
    · exact State.roundFrame_offerRound u h
    · exact .refl u) _ t

theorem State.drawsHeard (s : State) (a : Nat) (hf : (f (rowHeard s a)).valid = true) :
    State.DrawsHeard a f s (State.reportFalls (s.heardFrom a) ((s.heardFrom a).modRow a f)) := by
  obtain ⟨v, hv⟩ : ∃ v, v = (s.heardFrom a).modRow a f := ⟨_, rfl⟩
  obtain ⟨hrow, hrows⟩ := s.heardFrom_modRow a hf
  have ho := State.Offers.reportFalls (s.heardFrom a) v
  have hframe := State.roundFrame_reportFalls (s.heardFrom a) v
  have hline : v.line = (s.heardFrom a).line := by simp [hv]
  have hchan (c : ChanId) : v.chan c = s.chan c := by simp [hv, State.chan]
  rw [← hv] at hrow hrows ⊢
  refine ⟨by rw [hframe.view, hrow], hrows.congr hframe.view, ?_, fun c _ => hchan c ▸ ho.chan c, ?_, ?_, ?_, fun h => ?_⟩
  · simp [hv, s.heardFrom_lists a]
  · exact lineHeard_of_lineKept (a := a) ((lineKept_of_eq hline).trans ho.line)
  · have hkept : noticesKept isDrawPlace s v := fun p _ => by
      rw [← s.noticeAt_heardFrom a p, State.noticeAt, State.noticeAt, hline]
    exact hkept.trans ho.kept
  · simp [hv, sameStation]
  · rw [hframe.viewCount, hv]

theorem parseDrawDir_of_parse {body : List Byte} {on : Bool} {x : ChanId × Nat} (hparse : parseDraw body = some (on, x))
    (b : Bool) : (parseDrawDir b body).isSome = (on == b) := by
  unfold parseDrawDir
  rw [hparse]
  cases on <;> cases b <;> rfl

theorem State.headerLimit_heardFrom (s : State) (a h : Nat) : (s.heardFrom a).headerLimit h = s.headerLimit h := by
  simp [State.headerLimit]

/-- The row after a DRAW-ON: the channel's pair is in it exactly where the count without it lies below the limit (R159). -/
def PeerRow.judged (room : Bool) (c : ChanId) (h : Nat) (r : PeerRow) : PeerRow :=
  if room then (r.dropDraw c).addDraw c h else r.dropDraw c

theorem State.actDraw_on (s : State) (a h : Nat) (c : ChanId) : actDraw a (true, c, h) (s.heardFrom a) =
    State.reportFalls (s.heardFrom a) ((s.heardFrom a).modRow a (PeerRow.judged
      (decide (((s.heardFrom a).modRow a (fun r => r.dropDraw c)).viewCount h < s.headerLimit h)) c h)) := by
  show State.reportFalls (s.heardFrom a) (if (true && decide (_ < (s.heardFrom a).headerLimit h)) = true then _ else _) = _
  rw [State.headerLimit_heardFrom, Bool.true_and]
  cases hroom : decide (((s.heardFrom a).modRow a (fun r => r.dropDraw c)).viewCount h < s.headerLimit h) with
  | false => rfl
  | true =>
    rw [if_pos rfl, s.heardFrom_modRow_modRow a (f := fun r => r.dropDraw c) (g := fun r => r.addDraw c h) rfl rfl]
    rfl

theorem State.drawOnHeard {s : State} {a h : Nat} {c : ChanId} {body : List Byte} (hhears : hears s 3 a body)
    (hparse : parseDraw body = some (true, c, h)) (ha : a ≠ s.unit.address)
    (hwf : Assoc.wf none (s.view.row a).draws = true) : ∃ t, exec .drawOnHeard s = .next t ∧
      ((Assoc.get none c.index (t.view.row a).draws = some h ∧ t.viewCount h ≤ s.headerLimit h) ∨
        (Assoc.get none c.index (t.view.row a).draws = none ∧ s.headerLimit h ≤ t.viewCount h)) ∧
      (∀ i, i ≠ c.index →
        Assoc.get none i (t.view.row a).draws = Assoc.get none i (rowHeard s a).draws) ∧
      t.view.row a = { rowHeard s a with draws := (t.view.row a).draws } ∧ ∃ f, State.DrawsHeard a f s t := by
  obtain ⟨room, hroom⟩ : ∃ room, room =
    decide (((s.heardFrom a).modRow a (fun r => r.dropDraw c)).viewCount h < s.headerLimit h) := ⟨_, rfl⟩
  have hexec : exec .drawOnHeard s = .next (State.reportFalls (s.heardFrom a)
      ((s.heardFrom a).modRow a (PeerRow.judged room c h))) := by
    show Host.Outcome.next _ = _
    rw [State.frontIs_of_hears hhears, parseDrawDir_of_parse hparse, if_neg (by simp),
      State.hearOther_of_hears actDraw hhears hparse ha, State.actDraw_on, ← hroom]
  have hvalid : (PeerRow.judged room c h (rowHeard s a)).valid = true := by
    unfold PeerRow.judged
    split <;> rfl
  have hd := s.drawsHeard a hvalid
  have hdraws := PeerRow.draws_dropDraw (rowHeard s a) (rowHeard_draws_wf a hwf) c
  obtain ⟨t, ht⟩ : ∃ t, t = State.reportFalls (s.heardFrom a) ((s.heardFrom a).modRow a (PeerRow.judged room c h)) :=
    ⟨_, rfl⟩
  rw [← ht] at hexec hd
  refine ⟨t, hexec, ?_, fun i hi => ?_, ?_, _, hd⟩
  · rw [hd.row, hd.count]
    obtain ⟨rest, hrest⟩ := s.peerDraws_modRow a h
    have hdrop := hrest (fun r => r.dropDraw c) rfl
    cases hr : room with
    | false =>
      have hfull : ¬ ((s.heardFrom a).modRow a (fun r => r.dropDraw c)).viewCount h < s.headerLimit h :=
        of_decide_eq_false (hroom.symm.trans hr)
      exact .inr ⟨(hdraws _).trans (if_pos rfl), Nat.not_lt.1 hfull⟩
    | true =>
      have hfree : ((s.heardFrom a).modRow a (fun r => r.dropDraw c)).viewCount h < s.headerLimit h :=
        of_decide_eq_true (hroom.symm.trans hr)
      refine .inl ⟨(PeerRow.draws_addDraw ..).trans (if_pos rfl), ?_⟩
      have hadd := hrest (PeerRow.judged true c h) rfl
      have hle : ((rowHeard s a).judged true c h).drawsOn h ≤ ((rowHeard s a).dropDraw c).drawsOn h + 1 :=
        PeerRow.drawsOn_addDraw_le ..
      have hown : ((s.heardFrom a).modRow a (PeerRow.judged true c h)).ownGrants h =
        ((s.heardFrom a).modRow a (fun r => r.dropDraw c)).ownGrants h := rfl
      unfold State.viewCount at hfree ⊢
      omega
  · rw [hd.row]
    unfold PeerRow.judged
    split
    · rw [PeerRow.draws_addDraw, if_neg hi, hdraws, if_neg hi]
    · rw [hdraws, if_neg hi]
  · rw [hd.row]
    unfold PeerRow.judged
    split <;> rfl

theorem State.drawOffHeard {s : State} {a h : Nat} {c : ChanId} {body : List Byte} (hhears : hears s 3 a body)
    (hparse : parseDraw body = some (false, c, h)) (ha : a ≠ s.unit.address) :
    ∃ t, exec .drawOffHeard s = .next t ∧ State.DrawsHeard a (fun r => r.dropDraw c) s t := by
  refine ⟨_, ?_, s.drawsHeard a (f := fun r => r.dropDraw c) rfl⟩
  show Host.Outcome.next _ = _
  rw [State.frontIs_of_hears hhears, parseDrawDir_of_parse hparse, if_neg (by simp),
    State.hear_of_hears actDraw hhears hparse ha]
  rfl

/-! ### The judgement of the own draw (R90, R160) -/

theorem State.OnlyDraw.grant (h : State.OnlyDraw c s t) : State.OnlyDraw c s (t.grant c) := by
  unfold State.grant
  split
  · split
    · exact h
    · exact h.removeNotice.modChan _
  · split
    · exact h.returnDraw
    · exact h

theorem State.OnlyDraw.void (h : State.OnlyDraw c s t) : State.OnlyDraw c s (t.void c) := by
  unfold State.void
  split
  · exact h.modChan _
  · exact h

/-- The channel waits for its grant: POURING in WAIT. -/
def Channel.waits (ch : Channel) : Prop := ch.state = .pouring ∧ ch.phase = some .wait

theorem Channel.waits_iff {ch : Channel} : (ch.state == .pouring && ch.phase == some .wait) = true ↔ ch.waits := by
  simp [Channel.waits]

theorem State.grant_of_waits (hw : (s.chan c).waits) (hret : (s.chan c).draw ≠ .returning) : s.grant c =
    (s.removeNotice (.draw c)).modChan c (fun ch => { ch with draw := .granted, phase := some .full, permit := .high }) := by
  exact (if_pos hw).trans (if_neg hret)

theorem State.grant_of_not_waits (hw : ¬ (s.chan c).waits) (hnone : (s.chan c).draw = .none) :
    s.grant c = s.returnDraw c := by
  exact (if_neg hw).trans (if_pos hnone)

theorem State.grant_of_returning (hret : (s.chan c).draw = .returning) : s.grant c = s := by
  rw [State.grant, if_pos hret, hret]
  split
  · rfl
  · exact if_neg nofun

theorem State.void_of_waits (hw : (s.chan c).waits) (hret : (s.chan c).draw ≠ .returning) :
    s.void c = s.modChan c (fun ch => { ch with draw := .none }) := by
  rw [State.void, if_pos ⟨hw.1, hw.2, hret⟩]

theorem State.void_of_not (h : ¬ ((s.chan c).waits ∧ (s.chan c).draw ≠ .returning)) : s.void c = s := by
  rw [State.void, if_neg fun h' => h ⟨⟨h'.1, h'.2.1⟩, h'.2.2⟩]

theorem State.chan_returnDraw (s : State) (c : ChanId) : (s.returnDraw c).chan c = { s.chan c with draw := .returning } := by
  unfold State.returnDraw
  dsimp only
  split
  · exact State.chan_modChan_same ..
  · rw [State.chan_queueNotice, State.chan_removeNotice, State.chan_modChan_same]

theorem State.noticeAt_returnDraw (hbegun : s.begunAt (.draw c) = false) :
    (s.returnDraw c).noticeAt (.draw c) = some ⟨.draw false c (s.headerOf c), false⟩ := by
  unfold State.returnDraw
  dsimp only
  rw [if_neg (by simp [hbegun]), State.noticeAt_queueNotice]
  exact if_pos ⟨rfl, (State.noticeAt_removeNotice ..).trans (if_pos ⟨rfl, hbegun⟩)⟩

/-- The own DRAW-ON's echo, judged in the state that has taken it (R160). -/
theorem State.drawOnEcho {body : List Byte} (hhears : hears s 3 s.unit.address body)
    (hparse : parseDraw body = some (true, c, h)) : exec .drawOnEcho s = .next (actDrawEcho (true, c, h) s.dropFront) := by
  show Host.Outcome.next _ = _
  rw [State.frontIs_of_hears hhears, parseDrawDir_of_parse hparse, if_neg (by simp), State.hearEcho_of_hears _ hhears hparse]

theorem State.OnlyDraw.actDrawEcho (s : State) (on : Bool) (c : ChanId) (h : Nat) :
    State.OnlyDraw c s (Machine.actDrawEcho (on, c, h) s) := by
  unfold Machine.actDrawEcho
  split
  · exact .refl c s
  · split
    · exact (State.OnlyDraw.refl c s).grant
    · exact (State.OnlyDraw.refl c s).void

theorem actDrawEcho_frame (s : State) (x : Bool × ChanId × Nat) :
    (actDrawEcho x s).lanes = s.lanes ∧ (actDrawEcho x s).lists = s.lists ∧ (actDrawEcho x s).view = s.view ∧
    (actDrawEcho x s).log = s.log ∧ (actDrawEcho x s).port = s.port ∧ (actDrawEcho x s).attention = s.attention ∧
    (actDrawEcho x s).pending = s.pending ∧ (actDrawEcho x s).pins = s.pins ∧ (actDrawEcho x s).unit = s.unit ∧
    (actDrawEcho x s).released = s.released ∧ (actDrawEcho x s).freeCount = s.freeCount := by
  unfold actDrawEcho
  split
  · simp
  · split <;> simp

theorem actDrawEcho_of_granted (hd : (s.chan c).draw = .granted) (on : Bool) : actDrawEcho (on, c, h) s = s :=
  if_pos (by simp [Channel.grant, hd])

theorem actDrawEcho_of_room (hd : (s.chan c).draw ≠ .granted) (hroom : s.viewCount h < s.headerLimit h) (on : Bool) :
    actDrawEcho (on, c, h) s = s.grant c :=
  (if_neg (by simp [Channel.grant, hd])).trans (if_pos hroom)

theorem actDrawEcho_of_full (hd : (s.chan c).draw ≠ .granted) (hfull : s.headerLimit h ≤ s.viewCount h) (on : Bool) :
    actDrawEcho (on, c, h) s = s.void c :=
  (if_neg (by simp [Channel.grant, hd])).trans (if_neg (Nat.not_lt.2 hfull))

/-- A grant raises the own count of its header by one (R145). -/
theorem State.ownGrants_grant (hw : (s.chan c).waits) (hg : (s.chan c).draw ≠ .granted) (hret : (s.chan c).draw ≠ .returning)
    (hon : s.onHeader c h = true) : (s.grant c).ownGrants h = s.ownGrants h + 1 := by
  have hother (d : ChanId) : (s.grant c).onHeader d h = s.onHeader d h := by simp [State.onHeader, State.chanCfg]
  refine countP_gains (c := c) ChanId.nodup_all (ChanId.mem_all c) ?_ ?_ fun d hd => ?_
  · simp [Channel.grant, hg]
  · rw [hother, hon, State.grant_of_waits hw hret, State.chan_modChan_same]
    rfl
  · rw [hother, ((State.OnlyDraw.refl c s).grant).chan d hd]

end Draws

section SettleDraws

/-- Settles O53. -/
theorem drawsAreJudgedByTheCount : Obligations.DrawsAreJudgedByTheCount := by
  refine ⟨fun s a h c body hhears hparse ha hwf => ?_, fun s a h c body hhears hparse => ⟨fun ha => ?_, fun ha hwf => ?_⟩,
    fun s h c body waits hhears hparse hwaits => ?_⟩
  · obtain ⟨t, hexec, hplace, hothers, hrow, f, hd⟩ := State.drawOnHeard hhears hparse ha hwf
    exact ⟨t, hexec, hplace, hothers, hrow, hd.rows, hd.lists, hd.asks, hd.line, hd.notices, hd.rest⟩
  · subst ha
    show Host.Outcome.next _ = _
    rw [State.frontIs_of_hears hhears, parseDrawDir_of_parse hparse, if_neg (by simp), State.hear_of_echo actDraw hhears hparse]
    rfl
  · obtain ⟨t, hexec, hd⟩ := State.drawOffHeard hhears hparse ha
    refine ⟨t, hexec, fun i => ?_, ?_, hd.rows, hd.lists, hd.asks, hd.line, hd.notices, hd.rest⟩
    · rw [hd.row]
      exact PeerRow.draws_dropDraw _ (rowHeard_draws_wf a hwf) c i
    · rw [hd.row]
      rfl
  · obtain ⟨v, hv⟩ : ∃ v, v = s.dropFront := ⟨_, rfl⟩
    have hchan (d : ChanId) : v.chan d = s.chan d := by rw [hv]; rfl
    have hwaitsv : waits = true ↔ (v.chan c).waits := by rw [hwaits, hchan]; exact Channel.waits_iff
    have hcount : v.viewCount h = s.viewCount h := by rw [hv]; rfl
    have hlimit : v.headerLimit h = s.headerLimit h := by rw [hv]; rfl
    have hbegun : v.begunAt (.draw c) = s.begunAt (.draw c) := by rw [hv]; rfl
    have honly := State.OnlyDraw.actDrawEcho v true c h
    have hexec := State.drawOnEcho hhears hparse
    rw [← hv] at hexec
    have hwait (hw : waits = true) : (v.chan c).waits := hwaitsv.1 hw
    have hnowait (hw : waits = false) : ¬ (v.chan c).waits := fun h' => by simp [hwaitsv.2 h'] at hw
    refine ⟨_, hexec, fun hheld => ?_, fun hg hret hroom hw => ?_, fun hnone hroom hw => ?_, fun hg hret hfull hw => ?_,
      fun hfull hw => ?_, fun d hd => (honly.chan d hd).trans (hchan d), ?_, fun p hp => ?_, ?_⟩
    · rcases hheld with hgranted | hret
      · rw [actDrawEcho_of_granted (by rw [hchan, hgranted]), hchan]
      · rw [← hchan] at hret
        rcases Nat.lt_or_ge (v.viewCount h) (v.headerLimit h) with hroom | hfull
        · rw [actDrawEcho_of_room (by simp [hret]) hroom, State.grant_of_returning hret, hchan]
        · rw [actDrawEcho_of_full (by simp [hret]) hfull, State.void_of_not (fun h' => h'.2 hret), hchan]
    · rw [← hchan] at hg hret
      rw [← hcount, ← hlimit] at hroom
      rw [actDrawEcho_of_room hg hroom]
      refine ⟨?_, fun hb => ?_, fun hon => ?_⟩
      · rw [State.grant_of_waits (hwait hw) hret, State.chan_modChan_same, State.chan_removeNotice, hchan]
      · rw [State.grant_of_waits (hwait hw) hret]
        exact (State.noticeAt_removeNotice ..).trans (if_pos ⟨rfl, hbegun.trans hb⟩)
      · have hown : v.ownGrants h = s.ownGrants h := by rw [hv]; rfl
        rw [State.ownGrants_grant (hwait hw) hg hret (by rw [hv]; exact hon), ← hown, ← hlimit]
        refine ⟨rfl, ?_⟩
        unfold State.viewCount at hroom
        omega
    · rw [← hchan] at hnone
      rw [← hcount, ← hlimit] at hroom
      rw [actDrawEcho_of_room (by simp [hnone]) hroom, State.grant_of_not_waits (hnowait hw) hnone, State.chan_returnDraw, hchan]
      refine ⟨rfl, fun hb => ?_⟩
      rw [State.noticeAt_returnDraw (hbegun.trans hb), State.headerOf_congr (s := s) (t := v) (by simp [hv])]
    · rw [← hchan] at hg hret
      rw [← hcount, ← hlimit] at hfull
      rw [actDrawEcho_of_full hg hfull, State.void_of_waits (hwait hw) hret, State.chan_modChan_same, hchan]
    · rw [← hcount, ← hlimit] at hfull
      by_cases hg : (v.chan c).draw = .granted
      · rw [actDrawEcho_of_granted hg, hchan]
      · rw [actDrawEcho_of_full hg hfull, State.void_of_not (fun h' => hnowait hw h'.1), hchan]
    · have hline := honly.line
      rw [hv] at hline ⊢
      exact hline
    · rw [honly.kept p hp, hv]
      rfl
    · simp [actDrawEcho_frame, hv, sameStation]

end SettleDraws

end Sys2Proof.Machine

namespace Sys2Proof.Machine

/-! ## Proofs: RELEASE and STATUS heard (chapters 3 and 7) -/

section Releases

variable {s t u : State} {a d : Nat} {f : FigureSet}

/-! ### The Released-Driver Table (R58, R59) -/

/-- The order in which a full table gives its entries up: the earlier stamp first, and the lower driver of one stamp (R59). -/
def givenUpBefore (x y : Nat × FigureSet) : Prop := x.2.stamp < y.2.stamp ∨ (x.2.stamp = y.2.stamp ∧ x.1 ≤ y.1)

theorem givenUpBefore.trans {x y z : Nat × FigureSet} (h : givenUpBefore x y) (h' : givenUpBefore y z) : givenUpBefore x z := by
  unfold givenUpBefore at *
  omega

theorem givenUpBefore_of_displaced {x y : Nat × FigureSet} (h : displacedBefore x y = true) : givenUpBefore x y := by
  simp only [displacedBefore, Bool.or_eq_true, Bool.and_eq_true, decide_eq_true_iff, beq_iff_eq] at h
  unfold givenUpBefore
  omega

theorem givenUpBefore_of_not_displaced {x y : Nat × FigureSet} (h : ¬ displacedBefore x y = true) : givenUpBefore y x := by
  simp only [displacedBefore, Bool.or_eq_true, Bool.and_eq_true, decide_eq_true_iff, beq_iff_eq] at h
  unfold givenUpBefore
  omega

theorem givenUpBefore_refl (x : Nat × FigureSet) : givenUpBefore x x := .inr ⟨rfl, Nat.le_refl _⟩

/-- A full table gives up an entry of its own, and none before it. -/
theorem earliest_spec (first : Nat × FigureSet) (rest : List (Nat × FigureSet)) :
    earliest first rest ∈ first :: rest ∧ ∀ e ∈ first :: rest, givenUpBefore (earliest first rest) e := by
  induction rest generalizing first with
  | nil => exact ⟨List.mem_cons_self, fun e he => by rw [List.mem_singleton.1 he]; exact givenUpBefore_refl first⟩
  | cons x rest ih =>
    obtain ⟨best, hbest⟩ : ∃ best, best = if displacedBefore x first then x else first := ⟨_, rfl⟩
    have heq : earliest first (x :: rest) = earliest best rest := by rw [hbest]; rfl
    obtain ⟨hmem, hbefore⟩ := ih best
    have hin : best = x ∨ best = first := by
      rw [hbest]
      split
      · exact .inl rfl
      · exact .inr rfl
    have hpair : givenUpBefore best x ∧ givenUpBefore best first := by
      rw [hbest]
      split
      · exact ⟨givenUpBefore_refl x, givenUpBefore_of_displaced ‹_›⟩
      · exact ⟨givenUpBefore_of_not_displaced ‹_›, givenUpBefore_refl first⟩
    have hfrom := hbefore best List.mem_cons_self
    rw [heq]
    refine ⟨?_, fun e he => ?_⟩
    · rcases List.mem_cons.1 hmem with h | h
      · rw [h]
        rcases hin with h' | h' <;> rw [h'] <;> simp
      · exact List.mem_cons_of_mem _ (List.mem_cons_of_mem _ h)
    · rcases List.mem_cons.1 he with rfl | he
      · exact hfrom.trans hpair.2
      · rcases List.mem_cons.1 he with rfl | he
        · exact hfrom.trans hpair.1
        · exact hbefore e (List.mem_cons_of_mem _ he)

theorem figuresStored_storeReleased (d : Nat) (f : FigureSet) (table : List (Nat × FigureSet)) :
    figuresStored table (storeReleased d f table) d f := by
  have hany : table.any (fun e => e.1 == d) = true ↔ ∃ e ∈ table, e.1 = d := by simp
  have hnone (h : ∀ e ∈ table, e.1 ≠ d) : ¬ table.any (fun e => e.1 == d) = true :=
    fun h' => by
      obtain ⟨e, he, hd⟩ := hany.1 h'
      exact h e he hd
  refine ⟨fun h => if_pos (hany.2 h), fun h hroom => (if_neg (hnone h)).trans (if_pos hroom), fun h hfull => ?_⟩
  cases table with
  | nil => exact absurd hfull (by decide)
  | cons e rest =>
    obtain ⟨hmem, hbefore⟩ := earliest_spec e rest
    exact ⟨earliest e rest, hmem, hbefore, (if_neg (hnone h)).trans (if_neg (Nat.not_lt.2 hfull))⟩

theorem State.storeFigures_released (s : State) (d : Nat) (f : Option FigureSet) :
    (f = none → (s.storeFigures d f).released = s.released) ∧
    (∀ g, f = some g → figuresStored s.released (s.storeFigures d f).released d g) := by
  refine ⟨fun h => by rw [h]; rfl, fun g h => ?_⟩
  rw [h]
  exact figuresStored_storeReleased d g s.released

/-- Settles O54. -/
theorem releasesHeardStoreFigures : Obligations.ReleasesHeardStoreFigures := by
  refine ⟨fun s a d x form f body hhears hparse ha => ?_, fun s d x form f body hhears hparse => ?_⟩
  · obtain ⟨g, hg⟩ : ∃ g : PeerRow → PeerRow, g = fun r => r.setLane x ((r.lane x).released form d) := ⟨_, rfl⟩
    obtain ⟨p, hp⟩ : ∃ p, p = (s.heardFrom a).modRow a g := ⟨_, rfl⟩
    obtain ⟨w, hw⟩ : ∃ w, w = p.storeFigures d f := ⟨_, rfl⟩
    have hexec : exec .releaseHeard s = .next (w.matchWatch d none ⟨a, x, .release, s.minute⟩) := by
      refine congrArg Host.Outcome.next ((State.hearOther_of_hears actRelease hhears hparse ha).trans ?_)
      have hminute : (s.heardFrom a).minute = s.minute := by simp [State.minute]
      rw [hw, hp, hg, ← hminute]
      rfl
    have hvalid : (g (rowHeard s a)).valid = true := by rw [hg, PeerRow.valid_setLane, rowHeard_valid]
    obtain ⟨hrow, hrows⟩ := s.heardFrom_modRow a hvalid
    rw [← hp] at hrow hrows
    obtain ⟨t, ht⟩ : ∃ t, t = w.matchWatch d none ⟨a, x, .release, s.minute⟩ := ⟨_, rfl⟩
    rw [← ht] at hexec
    have hview : t.view = p.view := by rw [ht, hw]; simp
    have hnew : (t.view.row a).lane x = ((rowHeard s a).lane x).released form d := by
      rw [hview, hrow, hg, PeerRow.lane_setLane]
    have hline : t.line = (s.heardFrom a).line := by rw [ht, hw, hp]; simp
    have hreleased : t.released = w.released := by rw [ht]; simp
    have hbefore : p.released = s.released := by rw [hp]; simp
    obtain ⟨hnone, hsome⟩ := p.storeFigures_released d f
    rw [← hw, ← hreleased, hbefore] at hnone hsome
    refine ⟨t, (rowHeard s a).lane x, (t.view.row a).lane x, hexec, rfl, rfl, fun hform => ?_, fun hform y hy => ?_,
      fun hform hreclaim hdriver => ?_, fun hform hreclaim hdriver => ?_, fun hform hstate hdriver => ?_, fun hform hnot => ?_,
      ?_, hrows.congr hview, hnone, hsome, ?_, ?_, ?_, ?_, ?_, ?_⟩
    · rw [hnew, hform]
      rfl
    · rw [hnew, hform]
      simp only [PeerLane.released, hy]
    · rw [hnew, hform]
      simp only [PeerLane.released, hreclaim, if_pos hdriver]
    · rw [hnew, hform]
      simp only [PeerLane.released, hreclaim, if_neg hdriver]
    · rw [hnew, hform]
      exact if_pos ⟨hstate, hdriver⟩
    · rw [hnew, hform]
      exact if_neg hnot
    · rw [hnew, hview, hrow, hg]
    · have hlists : w.lists = listsHeard s a := by rw [hw, hp, ← s.heardFrom_lists a]; simp
      rw [ht, ← hlists]
      exact watchMatched_matchWatch ..
    · simp [ht, hw, hp]
    · simp [ht, hw, hp]
    · exact lineHeard_of_lineKept (a := a) (lineKept_of_eq hline)
    · rw [hline, s.heardFrom_line]
    · simp [ht, hw, hp]
  · obtain ⟨hnone, hsome⟩ := s.dropFront.storeFigures_released d f
    refine ⟨(s.dropFront.storeFigures d f).released, ?_, hnone, hsome⟩
    refine congrArg Host.Outcome.next ((State.hearEcho_of_hears _ hhears hparse).trans ?_)
    cases f with
    | none => rfl
    | some g => rfl

end Releases

section Status

variable {s t u : State} {a : Nat} {c : ChanId} {ℓ : LaneId} {x : StatusReport}

/-! ### Duplicates (R151) -/

/-- A STATUS reports the driver settled in a lane of its sender (R151). -/
def StatusReport.settled (x : StatusReport) (d : Nat) : Prop :=
  ∃ y, (y = x.laneA ∨ y = x.laneB) ∧ (y.state = .opened ∨ y.state = .loading) ∧ y.driver = some d

theorem StatusReport.settled_iff {d : Nat} : x.settled d ↔ x.laneA.settles d = true ∨ x.laneB.settles d = true := by
  have hsettles (y : PeerLane) : y.settles d = true ↔ (y.state = .opened ∨ y.state = .loading) ∧ y.driver = some d := by
    simp [PeerLane.settles]
  simp [StatusReport.settled, hsettles, or_and_right, exists_or]

/-- What the test for a duplicate does to a lane (R151). -/
structure State.DuplicateTested (x : StatusReport) (ℓ : LaneId) (s t : State) : Prop where
  op : s.LaneOp ℓ t
  channels : t.channels = s.channels
  line : t.line = s.line
  found : ∀ r, (s.lane ℓ).record = some r → ((s.lane ℓ).state = .opened ∨ (s.lane ℓ).state = .loading) →
    x.settled r.current.driver →
    ∃ f, t.lane ℓ = { s.lane ℓ with
      holds := { (s.lane ℓ).holds with duplicate := true }
      record := some { r with findings := f } }
  stays : (∀ r, (s.lane ℓ).record = some r →
      ¬ (((s.lane ℓ).state = .opened ∨ (s.lane ℓ).state = .loading) ∧ x.settled r.current.driver)) → t.lane ℓ = s.lane ℓ
  suspends : (t.lane ℓ).holds.suspends = (s.lane ℓ).holds.suspends

theorem State.DuplicateTested.of_not (h : ∀ r, (s.lane ℓ).record = some r →
    ¬ (((s.lane ℓ).state = .opened ∨ (s.lane ℓ).state = .loading) ∧ x.settled r.current.driver)) :
    State.DuplicateTested x ℓ s s :=
  ⟨.refl ℓ s, rfl, rfl, fun r hrecord hopen hsettled => (h r hrecord ⟨hopen, hsettled⟩).elim, fun _ => rfl, rfl⟩

theorem State.duplicateTested (s : State) (x : StatusReport) (ℓ : LaneId) :
    State.DuplicateTested x ℓ s (State.duplicateTest x s ℓ) := by
  unfold State.duplicateTest
  cases hrecord : (s.lane ℓ).record with
  | none =>
    rw [Lane.driver?, hrecord]
    exact .of_not fun r hr => by simp [hrecord] at hr
  | some r =>
    rw [Lane.driver?, hrecord]
    by_cases hopen : ((s.lane ℓ).state = .opened ∨ (s.lane ℓ).state = .loading) ∧ x.settled r.current.driver
    · have hif : ((s.lane ℓ).state = .opened ∨ (s.lane ℓ).state = .loading) ∧
          (x.laneA.settles r.current.driver = true ∨ x.laneB.settles r.current.driver = true) :=
        ⟨hopen.1, StatusReport.settled_iff.1 hopen.2⟩
      have hadmits : (s.lane ℓ).state.admitsMember .duplicate = true := by
        rcases hopen.1 with h | h <;> rw [h] <;> rfl
      have hholds := State.setHold_holds (ℓ := ℓ) duplicateFinding hadmits
      obtain ⟨f, hf⟩ := State.setHold_lane .duplicate duplicateFinding hrecord
      rw [hholds] at hf
      simp only [Option.map_some]
      rw [if_pos hif]
      refine ⟨(State.LaneOp.refl ℓ s).setHold _ _, by simp, by simp, fun r' hr' _ _ => ⟨f, ?_⟩, fun hnot => ?_, ?_⟩
      · cases hrecord.symm.trans hr'
        exact hf
      · exact (hnot r hrecord hopen).elim
      · rw [hholds]
        rfl
    · simp only [Option.map_some]
      rw [if_neg fun hif => hopen ⟨hif.1, StatusReport.settled_iff.2 hif.2⟩]
      refine .of_not fun r' hr' => ?_
      cases hrecord.symm.trans hr'
      exact hopen

theorem State.causes_of_suspends (hchannels : t.channels = s.channels) (hstops : t.lists.stops = s.lists.stops)
    (hunit : t.unit = s.unit) (hpins : t.pins = s.pins)
    (hholds : ∀ ℓ, (t.lane ℓ).holds.suspends = (s.lane ℓ).holds.suspends) (c : ChanId) : t.causes c = s.causes c := by
  have hground (ℓ : LaneId) : t.ground ℓ = s.ground ℓ := by cases ℓ <;> simp [State.ground, hpins]
  simp [State.causes, State.stopStands, State.joined, State.chan, hchannels, hstops, hunit, hpins, hholds, hground]

theorem drawGivenUp_ne_granted (s : State) (c : ChanId) : drawGivenUp s c ≠ .granted := by
  unfold drawGivenUp
  split
  · exact nofun
  · exact nofun
  · split <;> exact nofun
  · exact nofun
  · exact nofun

/-! ### The state in which the duplicates are tested -/

/-- The row that a STATUS leaves, in two steps: what it draws first, then its stop and its resync (R150). -/
def PeerRow.drawsReported (x : StatusReport) : PeerRow → PeerRow := fun r =>
  { r with
    laneA := x.laneA
    laneB := x.laneB
    draws := x.draws }

def PeerRow.stopReported (x : StatusReport) : PeerRow → PeerRow := fun r => { r with stop := x.stop, resync := x.resync }

/-- The row replaced and the falls of the view count reported (R145, R150). -/
def State.rowReported (s : State) (a : Nat) (x : StatusReport) : State :=
  (State.reportFalls (s.heardFrom a) ((s.heardFrom a).modRow a (PeerRow.drawsReported x))).modRow a (PeerRow.stopReported x)

/-- The stop taken and the hold entries one period older (R107, R113). -/
def State.statusTaken (s : State) (a : Nat) (x : StatusReport) : State :=
  let v := (s.rowReported a x).takeStop a x.stop
  v.setLists { v.lists with holds := v.lists.holds.map (HoldEntry.age a) }

theorem actStatus_eq (s : State) (a : Nat) (x : StatusReport) : actStatus a x (s.heardFrom a) =
    State.duplicateTest x (State.duplicateTest x (s.statusTaken a x) .a) .b := by
  unfold actStatus State.statusTaken State.rowReported PeerRow.drawsReported PeerRow.stopReported
  rfl

/-- What replacing the row leaves of the station (R150). -/
structure State.RowReported (a : Nat) (x : StatusReport) (s t : State) : Prop where
  row : t.view.row a = ⟨true, 0, s.unit.clock, x.laneA, x.laneB, x.draws, x.stop, x.resync⟩
  rows : rowsKept s t a
  lists : t.lists = listsHeard s a
  asks : ∀ c, t.chan c = s.chan c ∨ ((s.chan c).wantsDraw = true ∧ t.chan c = { s.chan c with draw := .asked })
  line : lineHeard s t
  notices : noticesKept isDrawPlace s t
  rest : t.lanes = s.lanes ∧ t.log = s.log ∧ t.port = s.port ∧ t.attention = s.attention ∧ sameStation s t

theorem State.rowReported_spec (s : State) (a : Nat) (x : StatusReport) : State.RowReported a x s (s.rowReported a x) := by
  have hd := s.drawsHeard a (f := PeerRow.drawsReported x) rfl
  obtain ⟨v, hv⟩ : ∃ v, v = State.reportFalls (s.heardFrom a) ((s.heardFrom a).modRow a (PeerRow.drawsReported x)) :=
    ⟨_, rfl⟩
  obtain ⟨w, hw⟩ : ∃ w, w = v.modRow a (PeerRow.stopReported x) := ⟨_, rfl⟩
  have heq : s.rowReported a x = w := by rw [hw, hv]; rfl
  rw [← hv] at hd
  have hrow (b : Nat) : w.view.row b = if b = a then PeerRow.stopReported x (PeerRow.drawsReported x (rowHeard s a))
      else v.view.row b := by
    rw [hw, ← hd.row]
    exact PeerView.row_setRow _ _ _ (by rw [hd.row]; rfl)
  obtain ⟨hrows, hresync, hjoining, hrefresh⟩ := hd.rows
  obtain ⟨hlanes, hlog, hport, hattention, hstation⟩ := hd.rest
  have hchan (c : ChanId) : w.chan c = v.chan c := by rw [hw]; simp [State.chan]
  rw [heq]
  refine ⟨(hrow a).trans (if_pos rfl), ⟨fun b hb => ?_, ?_, ?_, ?_⟩, ?_, fun c => ?_, ?_, ?_, ?_⟩
  · rw [hrow, if_neg hb, hrows b hb]
  · rw [← hresync, hw]
    rfl
  · rw [← hjoining, hw]
    rfl
  · rw [← hrefresh, hw]
    rfl
  · rw [hw, ← hd.lists]
    rfl
  · rw [hchan]
    exact hd.asks c id
  · rw [hw]
    exact hd.line
  · rw [hw]
    exact hd.notices
  · rw [hw]
    exact ⟨hlanes, hlog, hport, hattention, hstation⟩

end Status

section SettleStatus

/-- Settles O55. -/
theorem statusHeardReplacesTheRow : Obligations.StatusHeardReplacesTheRow := by
  refine fun s a body x hhears hparse => ⟨fun ha => ?_, fun ha hwf => ?_⟩
  · subst ha
    exact congrArg Host.Outcome.next (State.hear_of_echo actStatus hhears hparse)
  obtain ⟨p, hp⟩ : ∃ p, p = s.rowReported a x := ⟨_, rfl⟩
  obtain ⟨q, hq⟩ : ∃ q, q = p.takeStop a x.stop := ⟨_, rfl⟩
  obtain ⟨v, hv⟩ : ∃ v, v = s.statusTaken a x := ⟨_, rfl⟩
  have hvq : v = q.setLists { q.lists with holds := q.lists.holds.map (HoldEntry.age a) } := by
    rw [hv, hq, hp]
    rfl
  obtain ⟨w, hw⟩ : ∃ w, w = State.duplicateTest x v .a := ⟨_, rfl⟩
  obtain ⟨t, ht⟩ : ∃ t, t = State.duplicateTest x w .b := ⟨_, rfl⟩
  have hexec : exec .statusHeard s = .next t := by
    rw [ht, hw, hv, ← actStatus_eq]
    exact congrArg Host.Outcome.next (State.hear_of_hears actStatus hhears hparse ha)
  have hrow := s.rowReported_spec a x
  rw [← hp] at hrow
  obtain ⟨hlanes, hlog, hport, hattention, hstation⟩ := hrow.rest
  have hstop := p.stopTaken a x.stop
  rw [← hq] at hstop
  have htested := v.duplicateTested x .a
  rw [← hw] at htested
  have htested' := w.duplicateTested x .b
  rw [← ht] at htested'
  have hvlane (ℓ : LaneId) : v.lane ℓ = s.lane ℓ := by
    have : v.lanes = s.lanes := by rw [hvq, ← hlanes, hq]; simp
    rw [State.lane, State.lane, this]
  have hlane (ℓ : LaneId) : ∃ u u', u.lane ℓ = s.lane ℓ ∧ t.lane ℓ = u'.lane ℓ ∧ State.DuplicateTested x ℓ u u' := by
    cases ℓ with
    | a => exact ⟨v, w, hvlane .a, htested'.op.other, htested⟩
    | b => exact ⟨w, t, htested.op.other.trans (hvlane .b), rfl, htested'⟩
  have hchannels : t.channels = q.channels := by rw [htested'.channels, htested.channels, hvq]; rfl
  have hlists : t.lists = v.lists := by rw [ht, hw]; simp
  have hview : t.view = p.view := by rw [ht, hw, hvq, hq]; simp
  have hline : t.line = q.line := by rw [htested'.line, htested.line, hvq]; rfl
  have hstops : t.lists.stops = (p.lists.setStop a (if x.stop then .live else .absent)).stops := by
    rw [hlists, hvq, ← hstop.lists]
    rfl
  have hcauses (c : ChanId) : t.causes c = q.causes c := by
    refine State.causes_of_suspends hchannels (by rw [hlists, hvq]; rfl) (by rw [ht, hw, hvq]; simp)
      (by rw [ht, hw, hvq]; simp) (fun ℓ => ?_) c
    obtain ⟨u, u', hu, hu', htest⟩ := hlane ℓ
    have hqlane : q.lane ℓ = s.lane ℓ := by rw [← hvlane ℓ, hvq]; rfl
    rw [hu', htest.suspends, hu, hqlane]
  have hchan (c : ChanId) : t.chan c = q.chan c := by rw [State.chan, State.chan, hchannels]
  obtain ⟨hsuspends, hothers, -⟩ := hstop.causes
  refine ⟨t, hexec, by rw [hview]; exact hrow.row, hrow.rows.congr hview, fun b => ?_, ?_, fun c hc => ?_, fun c hc => ?_,
    fun ℓ r hrecord hopen hsettled => ?_, fun ℓ hnot => ?_, ?_, ?_, ?_, ?_, ?_⟩
  · have hpwf : Assoc.wf StopMember.absent p.lists.stops = true := by
      rw [hrow.lists]
      exact listsHeard_stops_wf a hwf
    rw [Lists.stop, hstops]
    refine (Lists.stop_setStop _ hpwf a b _).trans ?_
    split
    · rfl
    · rw [hrow.lists]
      exact listsHeard_stop_ne hwf ‹_›
  · rw [hlists, hvq]
    show ({ q.lists with holds := q.lists.holds.map (HoldEntry.age a) } : Lists) = _
    rw [hstop.lists, hrow.lists]
    rfl
  · obtain ⟨hpouring, hany⟩ := hc
    have hmeets : meetsCause p q c := by
      refine ⟨?_, by rw [← hcauses]; exact hany⟩
      rcases hrow.asks c with h | ⟨-, h⟩ <;> rw [h] <;> exact hpouring
    obtain ⟨-, hreason, hafter⟩ := hsuspends c hmeets
    rw [hchan, hafter]
    refine ⟨rfl, rfl, rfl, rfl, drawGivenUp_ne_granted p c, htested'.op.stays _ (htested.op.stays _ ?_)⟩
    rw [hvq]
    exact hreason
  · have hp : p.chan c = s.chan c := (hrow.asks c).resolve_right fun h => by
      have hwants := h.1
      simp [Channel.wantsDraw, hc] at hwants
    have hnot : (p.chan c).state ≠ .pouring := by rw [hp]; exact hc
    rw [hchan, ← hp]
    refine (hothers c fun h => hnot h.1).resolve_right fun h => ?_
    have hwants := h.1
    simp [Channel.wantsDraw, hnot] at hwants
  · obtain ⟨u, u', hu, hu', htest⟩ := hlane ℓ
    rw [hu', ← hu]
    rw [← hu] at hrecord hopen
    exact htest.found r hrecord hopen hsettled
  · obtain ⟨u, u', hu, hu', htest⟩ := hlane ℓ
    rw [hu', ← hu]
    rw [← hu] at hnot
    exact htest.stays hnot
  · have hrest : lineKept p t := by rw [lineKept, hline]; exact hstop.line
    have hheard := hrow.line
    rw [lineKept] at hrest
    rw [lineHeard] at hheard ⊢
    rw [hrest, hheard]
  · have hkept : noticesKept isDrawPlace p t := fun y hy => by
      rw [← hstop.notices y hy, State.noticeAt, State.noticeAt, hline]
    exact hrow.notices.trans hkept
  · rw [← hlog, ht, hw, hvq, hq]
    simp
  · rw [← hport, ht, hw, hvq, hq]
    simp
  · rw [sameStation] at hstation ⊢
    rw [ht, hw, hvq, hq]
    simpa using hstation

end SettleStatus

end Sys2Proof.Machine

namespace Sys2Proof.Machine

/-! ## Proofs: sending and the end of a notice (chapter 6) -/

section Sending

theorem State.mayStartNotice_iff {s : State} : s.mayStartNotice = true ↔ s.lineOn = true ∧ s.line.transmitter = none ∧
    s.line.breakLeft = 0 ∧ 12 ≤ s.line.idleCount := by
  simp [State.mayStartNotice, and_assoc]
  exact fun _ _ _ => Iff.rfl

theorem State.transmitStart_of {s : State} {e : SendEntry} {rest : List SendEntry} (hqueue : s.line.sendQueue = e :: rest) :
    exec .transmitStart s = .next (if s.mayStartNotice then
      s.setLine { s.line with transmitter := some ⟨e.notice.place, s.levelsOf e.notice, false⟩, idleCount := 0 } else s) := by
  show execTransmitStart s = _
  rw [execTransmitStart, hqueue]

theorem dataLevels_eq (b : Byte) : dataLevels b =
    [7, 6, 5, 4, 3, 2, 1, 0].map (fun i => if b.getLsbD i then Level.recessive else .dominant) := by
  rfl

/-- The abort run after one more abort, and FAULTED from the eighth on (R134). -/
theorem State.countAbort_line (s : State) : s.countAbort.line = { s.line with
    abortRun := min (s.line.abortRun + 1) 8
    faulted := s.line.faulted || decide (s.line.abortRun = 7) } ∧
    s.countAbort.attention = if s.line.abortRun = 7 then addReasonTo .lineFault s.attention else s.attention := by
  have hmax : s.line.abortRun + 1 = Config.abortMax ↔ s.line.abortRun = 7 := Nat.succ_inj
  by_cases h : s.line.abortRun = 7
  · rw [State.countAbort, if_pos (hmax.2 h), if_pos h, h]
    simp [State.attend, Config.abortMax]
  · rw [State.countAbort, if_neg (mt hmax.1 h), if_neg h]
    simp [h, Config.abortMax]

/-- Settles O56. -/
theorem sendingGoesOn : Obligations.SendingGoesOn := by
  refine ⟨fun s e rest hqueue hon htransmitter hbreak hidle => ?_, fun s hnot => ?_, fun h rest => rfl, fun mark b => ?_,
    fun s x hreset hx hwon => ?_, fun s x hreset hx hwon => ?_, fun s x hreset hx => ?_⟩
  · rw [State.transmitStart_of hqueue, if_pos (State.mayStartNotice_iff.2 ⟨hon, htransmitter, hbreak, hidle⟩)]
    rfl
  · cases hqueue : s.line.sendQueue with
    | nil =>
      show execTransmitStart s = _
      rw [execTransmitStart, hqueue]
    | cons e rest =>
      rw [State.transmitStart_of hqueue, if_neg]
      intro hmay
      obtain ⟨hon, htransmitter, hbreak, hidle⟩ := State.mayStartNotice_iff.1 hmay
      rcases hnot with h | h | h | h | h
      · simp [hqueue] at h
      · simp [hon] at h
      · exact h htransmitter
      · exact h hbreak
      · omega
  · rw [characterLevels, dataLevels_eq]
    cases mark <;> rfl
  · show execArbitrationLost s = _
    rw [execArbitrationLost, hx]
    simp only [hwon, hreset, Bool.false_eq_true, or_self, if_false]
    rfl
  · show execNoticeBegun s = _
    rw [execNoticeBegun, hx]
    simp only [hwon, hreset, Bool.false_eq_true, or_self, if_false]
    rfl
  · obtain ⟨v, hv⟩ : ∃ v, v = s.setLine { s.line with
        transmitter := none
        breakLeft := Config.breakBits
        receiver := none
        idleCount := 0 } := ⟨_, rfl⟩
    have hexec : exec .abort s = .next v.countAbort := by
      show execAbort s = _
      rw [execAbort, hx, hv]
      simp only [hreset, Bool.false_eq_true, if_false]
    obtain ⟨hline, hattention⟩ := v.countAbort_line
    refine ⟨_, hexec, ?_, ?_, ?_⟩
    · rw [hline, hv]
      rfl
    · rw [hattention, hv]
      rfl
    · simp [hv, sameStation]

end Sending

end Sys2Proof.Machine

namespace Sys2Proof.Machine

/-! ## Proofs: a notice sent whole (chapter 6) -/

section SendQueueAlone

variable {s t u : State} {ℓ : LaneId} {c : ChanId}

/-! ### What the owner does to the line: its Send Queue alone -/

theorem sendQueueOnly_takeNotice (s : State) (p : Place) : sendQueueOnly s (s.takeNotice p) := rfl

theorem State.driving_of_idle (h : s.line.transmitter = none) (p : Place) : s.driving p = false := by
  simp [State.driving, h]

/-- While nothing is driven, a notice that leaves its place changes the Send Queue alone. -/
theorem sendQueueOnly_removeNotice (h : s.line.transmitter = none) (p : Place) : sendQueueOnly s (s.removeNotice p) := by
  unfold State.removeNotice
  rw [State.driving_of_idle h]
  split
  · exact .refl s
  · exact sendQueueOnly_takeNotice s p

theorem sendQueueOnly.transmitter (h : sendQueueOnly s t) : t.line.transmitter = s.line.transmitter := by
  rw [show t.line = _ from h]

theorem sendQueueOnly_queueWithdrawn (s : State) (ℓ : LaneId) (d : Nat) : sendQueueOnly s (s.queueWithdrawn ℓ d) := by
  unfold State.queueWithdrawn
  split
  · exact .of_line_eq rfl
  · exact sendQueueOnly_queueNotice s _

theorem sendQueueOnly_queueOwedContest (s : State) (ℓ : LaneId) : sendQueueOnly s (s.queueOwedContest ℓ) := by
  unfold State.queueOwedContest
  split
  · exact .refl s
  · split
    · exact .refl s
    · dsimp only
      split
      · exact sendQueueOnly_queueNotice (s.modLane ℓ _) _
      · exact .of_line_eq rfl

theorem sendQueueOnly_dropContest (h : s.line.transmitter = none) (ℓ : LaneId) (d : Nat) :
    sendQueueOnly s (s.dropContest ℓ d) := by
  unfold State.dropContest
  split
  · exact .refl s
  · dsimp only
    split
    · exact (sendQueueOnly_removeNotice h (.contest ℓ)).trans
        ((sendQueueOnly.of_line_eq rfl).trans (sendQueueOnly_queueOwedContest _ ℓ))
    · exact (sendQueueOnly.of_line_eq rfl).trans (sendQueueOnly_queueOwedContest _ ℓ)

theorem State.handVoided_line (s : State) (ℓ : LaneId) : (s.handVoided ℓ).line = s.line := by
  unfold State.handVoided
  split
  · split
    · simp
    · rfl
  · rfl

/-- The state in which a lane that leaves CLOSING has only its contest to drop. -/
theorem State.leaveClosing_eq (s : State) (ℓ : LaneId) (c : Closing) (r : LoadRecord) :
    ∃ v w : State, v.line = s.line ∧ w.line = (v.queueNotice (.release ℓ .endOfLoad r.current.driver c.figures)).line ∧
      s.leaveClosing ℓ c r = w.dropContest ℓ r.current.driver := by
  unfold State.leaveClosing
  dsimp only
  split
  · exact ⟨s.modLane ℓ (fun l => { l with dispatch := true, pulse := some Config.pulseMs }), _, rfl, by simp, rfl⟩
  · exact ⟨s, _, rfl, by simp, rfl⟩

theorem sendQueueOnly_leaveClosing (h : s.line.transmitter = none) (ℓ : LaneId) (c : Closing) (r : LoadRecord) :
    sendQueueOnly s (s.leaveClosing ℓ c r) := by
  obtain ⟨v, w, hv, hw, heq⟩ := s.leaveClosing_eq ℓ c r
  have hqueue : sendQueueOnly s w := (sendQueueOnly.of_line_eq hv).trans
    ((sendQueueOnly_queueNotice v _).trans (.of_line_eq hw))
  rw [heq]
  exact hqueue.trans (sendQueueOnly_dropContest (hqueue.transmitter.trans h) ℓ _)

theorem noticesKept_leaveClosing (s : State) (ℓ : LaneId) (c : Closing) (r : LoadRecord) :
    noticesKept (lanePlace ℓ) s (s.leaveClosing ℓ c r) := by
  obtain ⟨v, w, hv, hw, heq⟩ := s.leaveClosing_eq ℓ c r
  rw [heq]
  have hqueue := noticesKept_queueNotice v (.release ℓ .endOfLoad r.current.driver c.figures)
  have hdrop := noticesKept_dropContest w ℓ r.current.driver
  exact (noticesKept_of_line hv).trans ((hqueue.mono fun _ h => .inl h).trans
    ((noticesKept_of_line hw).trans (hdrop.mono fun _ h => .inr (.inr h))))

theorem sendQueueOnly_testClosing (h : s.line.transmitter = none) (ℓ : LaneId) : sendQueueOnly s (s.testClosing ℓ) := by
  have hhand : sendQueueOnly s (s.handVoided ℓ) := .of_line_eq (s.handVoided_line ℓ)
  unfold State.testClosing
  dsimp only
  split
  · split
    · exact hhand.trans (sendQueueOnly_leaveClosing (hhand.transmitter.trans h) ..)
    · exact hhand
  · exact hhand

theorem noticesKept_testClosing (s : State) (ℓ : LaneId) : noticesKept (lanePlace ℓ) s (s.testClosing ℓ) := by
  have hhand : noticesKept (lanePlace ℓ) s (s.handVoided ℓ) := noticesKept_of_line (s.handVoided_line ℓ)
  unfold State.testClosing
  dsimp only
  split
  · split
    · exact hhand.trans (noticesKept_leaveClosing _ ℓ _ _)
    · exact hhand
  · exact hhand

/-! ### The frame of each owner's act -/

/-- What the owner of a notice sent whole leaves alone (R135). -/
structure State.OwnerTold (n : Notice) (s t : State) : Prop where
  line : s.line.transmitter = none → sendQueueOnly s t
  lanes : ∀ ℓ, noticeLane n ≠ some ℓ → t.lane ℓ = s.lane ℓ
  asks : othersAsk (fun c => ∃ on h, n = .draw on c h) s t
  channels : (∀ on c h, n ≠ .draw on c h) → t.channels = s.channels
  notices : noticesKept (noticeTouches n) s t
  rest : n.kind ≠ 4 → t.log = s.log ∧ t.attention = s.attention
  lists : n.kind ≠ 0 → n.kind ≠ 5 → t.lists = s.lists
  memory : t.log.memory = s.log.memory

theorem othersAsk_of_channels {changed : ChanId → Prop} (h : t.channels = s.channels) : othersAsk changed s t :=
  fun d _ => .inl (by rw [State.chan, State.chan, h])

/-- The owner's act is a lane's own, and the channels are not in it. -/
theorem State.OwnerTold.of_laneOp {n : Notice} (hn : noticeLane n = some ℓ) (hop : s.LaneOp ℓ t)
    (hline : s.line.transmitter = none → sendQueueOnly s t) (hchannels : t.channels = s.channels)
    (hnotices : noticesKept (noticeTouches n) s t) (hrest : n.kind ≠ 4 → t.log = s.log ∧ t.attention = s.attention)
    (hlists : t.lists = s.lists) : State.OwnerTold n s t where
  line := hline
  lanes ℓ' h := by
    have hne : ℓ' ≠ ℓ := fun heq => h (heq ▸ hn)
    have hother : ℓ' = otherLane ℓ := by
      cases ℓ <;> cases ℓ' <;> first | rfl | exact (hne rfl).elim
    rw [hother]
    exact hop.other
  asks := othersAsk_of_channels hchannels
  channels _ := hchannels
  notices := hnotices
  rest := hrest
  lists _ _ := hlists
  memory := hop.memory

/-- The owner's act changes neither lanes nor channels. -/
theorem State.OwnerTold.of_frame {n : Notice} (hlanes : t.lanes = s.lanes) (hchannels : t.channels = s.channels)
    (hlog : t.log = s.log) (hattention : t.attention = s.attention) (hline : sendQueueOnly s t)
    (hnotices : noticesKept (noticeTouches n) s t) (hlists : n.kind ≠ 0 → n.kind ≠ 5 → t.lists = s.lists) :
    State.OwnerTold n s t where
  line _ := hline
  lanes ℓ _ := by rw [State.lane, State.lane, hlanes]
  asks := othersAsk_of_channels hchannels
  channels _ := hchannels
  notices := hnotices
  rest _ := ⟨hlog, hattention⟩
  lists := hlists
  memory := by rw [hlog]

theorem State.LaneOp.claimSent (h : s.LaneOp ℓ t) : s.LaneOp ℓ (t.claimSent ℓ) := by
  unfold State.claimSent State.lostClaimSent
  dsimp only
  split
  · split
    · exact (h.modLane _).testClaim
    · exact ((h.modLane _).queueWithdrawn _).testClaim
  · exact (h.modLane _).testClaim

theorem State.LaneOp.releaseSent (h : s.LaneOp ℓ t) : s.LaneOp ℓ (t.releaseSent ℓ) := by
  unfold State.releaseSent
  dsimp only
  split
  · exact ((h.modLane _).queueNotice (.inl rfl)).testClaim.testClosing
  · exact h.testClaim.testClosing

/-- The state in which a lane's claim is tested after its CLAIM was sent whole. -/
def State.claimTold (s : State) (ℓ : LaneId) : State :=
  match (s.lane ℓ).lostClaim with
  | some lc => s.lostClaimSent ℓ lc
  | none => s.modLane ℓ (fun l => l.modProgress Claim.sentWhole)

theorem State.claimTold_line (s : State) (ℓ : LaneId) : sendQueueOnly s (s.claimTold ℓ) ∧
    noticesKept (· = .release ℓ) s (s.claimTold ℓ) := by
  unfold State.claimTold State.lostClaimSent
  split
  · dsimp only
    split
    · exact ⟨.of_line_eq rfl, noticesKept_of_line rfl⟩
    · exact ⟨(sendQueueOnly.of_line_eq rfl).trans (sendQueueOnly_queueWithdrawn _ ℓ _),
        noticesKept.trans (noticesKept_of_line rfl) (noticesKept_queueWithdrawn _ ℓ _)⟩
  · exact ⟨.of_line_eq rfl, noticesKept_of_line rfl⟩

/-- The state in which a lane's claim and way out are tested after its RELEASE was sent whole. -/
def State.releaseTold (s : State) (ℓ : LaneId) : State :=
  match (s.lane ℓ).owedRelease with
  | some d => (s.modLane ℓ (fun l => { l with owedRelease := none })).queueNotice (.release ℓ .withdrawn d none)
  | none => s

theorem State.releaseTold_line (s : State) (ℓ : LaneId) : sendQueueOnly s (s.releaseTold ℓ) ∧
    noticesKept (· = .release ℓ) s (s.releaseTold ℓ) := by
  unfold State.releaseTold
  split
  · refine ⟨(sendQueueOnly.of_line_eq rfl).trans (sendQueueOnly_queueNotice _ _), noticesKept.trans (noticesKept_of_line rfl) ?_⟩
    exact noticesKept_queueNotice (s.modLane ℓ (fun l => { l with owedRelease := none })) (.release ℓ .withdrawn _ none)
  · exact ⟨.refl s, .refl _ s⟩

theorem State.ownerTold_contest (s : State) (ℓ : LaneId) (d : Nat) (f : HoldingForm) :
    State.OwnerTold (.contest ℓ d f) s (s.tellOwner (.contest ℓ d f)) :=
  .of_laneOp rfl (State.LaneOp.refl ℓ s).queueOwedContest (fun _ => sendQueueOnly_queueOwedContest s ℓ)
    (State.queueOwedContest_frame ..).2.2.2.1 (noticesKept_queueOwedContest s ℓ) (fun _ => by simp [State.tellOwner])
    (by simp [State.tellOwner])

theorem State.ownerTold_claim (s : State) (ℓ : LaneId) (re : Bool) (d v : Nat) :
    State.OwnerTold (.claim ℓ re d v) s (s.tellOwner (.claim ℓ re d v)) := by
  obtain ⟨hline, hkept⟩ := s.claimTold_line ℓ
  refine .of_laneOp rfl (State.LaneOp.refl ℓ s).claimSent (fun _ => hline.trans (sendQueueOnly_testClaim _ ℓ))
    (by simp [State.tellOwner]) ?_ (fun _ => by simp [State.tellOwner]) (by simp [State.tellOwner])
  have htest := noticesKept_testClaim (s.claimTold ℓ) ℓ
  exact (hkept.mono fun _ h => .inr h).trans (htest.mono fun _ h => .inl h)

theorem State.ownerTold_release (s : State) (ℓ : LaneId) (form : ReleaseForm) (d : Nat) (f : Option FigureSet) :
    State.OwnerTold (.release ℓ form d f) s (s.tellOwner (.release ℓ form d f)) := by
  obtain ⟨hline, hkept⟩ := s.releaseTold_line ℓ
  have htest := noticesKept_testClaim (s.releaseTold ℓ) ℓ
  have hclosing := noticesKept_testClosing ((s.releaseTold ℓ).testClaim ℓ) ℓ
  have hqueue : sendQueueOnly s ((s.releaseTold ℓ).testClaim ℓ) := hline.trans (sendQueueOnly_testClaim _ ℓ)
  refine .of_laneOp rfl (State.LaneOp.refl ℓ s).releaseSent
    (fun h => hqueue.trans (sendQueueOnly_testClosing (hqueue.transmitter.trans h) ℓ)) (by simp [State.tellOwner]) ?_
    (fun h => (h rfl).elim) (by simp [State.tellOwner])
  exact ((hkept.mono fun _ h => .inl h).trans (htest.mono fun _ h => .inr (.inl h))).trans hclosing

theorem State.ownerTold_stop (s : State) (b : Bool) : State.OwnerTold (.stop b) s (s.tellOwner (.stop b)) :=
  .of_frame (by simp [State.tellOwner]) (by simp [State.tellOwner]) (by simp [State.tellOwner]) (by simp [State.tellOwner])
    ((sendQueueOnly.of_line_eq rfl).trans (sendQueueOnly_queueStop _))
    (noticesKept.trans (noticesKept_of_line rfl) (noticesKept_queueStop _)) (fun h => (h rfl).elim)

theorem State.ownerTold_hold (s : State) (issue : Bool) (n : Nat) (kind : KeyKind) (key reason : Nat) :
    State.OwnerTold (.hold issue n kind key reason) s (s.tellOwner (.hold issue n kind key reason)) := by
  cases issue with
  | false => exact .of_frame rfl rfl rfl rfl (.of_line_eq rfl) (noticesKept_of_line rfl) (fun _ h => (h rfl).elim)
  | true =>
    have hqueue : sendQueueOnly s (s.issueSent n) ∧ noticesKept (· = .hold n) s (s.issueSent n) := by
      unfold State.issueSent
      split
      · exact ⟨sendQueueOnly_queueNotice s _, noticesKept_queueNotice s (.hold false n _ _ _)⟩
      · exact ⟨.refl s, .refl _ s⟩
      · exact ⟨.refl s, .refl _ s⟩
    exact .of_frame (by simp [State.tellOwner]) (by simp [State.tellOwner]) (by simp [State.tellOwner])
      (by simp [State.tellOwner]) hqueue.1 hqueue.2 (fun _ h => (h rfl).elim)

theorem State.ownerTold_drawOn (s : State) (c : ChanId) (h : Nat) :
    State.OwnerTold (.draw true c h) s (s.tellOwner (.draw true c h)) := by
  have hacts : sendQueueOnly s (s.drawOnSent c) ∧ noticesKept isDrawPlace s (s.drawOnSent c) ∧
      ∀ d, d ≠ c → (s.drawOnSent c).chan d = s.chan d := by
    unfold State.drawOnSent
    split
    · exact ⟨.of_line_eq rfl, noticesKept_of_line rfl, fun d hd => State.chan_modChan_ne _ _ hd⟩
    · exact ⟨sendQueueOnly_queueNotice s _, (noticesKept_queueNotice s (.draw false c _)).mono fun _ hp => ⟨c, hp⟩,
        fun d _ => State.chan_queueNotice ..⟩
    · exact ⟨.refl s, .refl _ s, fun _ _ => rfl⟩
    · exact ⟨.refl s, .refl _ s, fun _ _ => rfl⟩
    · exact ⟨.refl s, .refl _ s, fun _ _ => rfl⟩
  obtain ⟨hline, hkept, hchan⟩ := hacts
  exact {
    line := fun _ => hline
    lanes := fun ℓ _ => by simp [State.tellOwner, State.lane]
    asks := fun d hd => .inl (hchan d fun heq => hd ⟨true, h, by rw [heq]⟩)
    channels := fun hnot => (hnot true c h rfl).elim
    notices := hkept
    rest := fun _ => by simp [State.tellOwner]
    lists := fun _ _ => by simp [State.tellOwner]
    memory := by simp [State.tellOwner] }

/-- The channel's place is given up, and what the round then offers (R88, R89). -/
theorem State.drawOffSent_eq (s : State) (c : ChanId) : ∃ v, v = s.modChan c (fun ch => { ch with draw := .none }) ∧
    s.drawOffSent c = if (v.chan c).wantsDraw then v.offerRound (v.headerOf c) else v := ⟨_, rfl, rfl⟩

theorem State.ownerTold_drawOff (s : State) (c : ChanId) (h : Nat) :
    State.OwnerTold (.draw false c h) s (s.tellOwner (.draw false c h)) := by
  obtain ⟨v, hv, heq⟩ := s.drawOffSent_eq c
  have hoffers : v.Offers (s.drawOffSent c) ∧ sendQueueOnly v (s.drawOffSent c) := by
    rw [heq]
    split
    · exact ⟨.offerRound _ v, sendQueueOnly_foldl (sendQueueOnly_offerOne _) _ v⟩
    · exact ⟨.refl v, .refl v⟩
  obtain ⟨hoffer, hline⟩ := hoffers
  have hchan (d : ChanId) (hd : d ≠ c) : v.chan d = s.chan d := by rw [hv]; exact State.chan_modChan_ne _ _ hd
  exact {
    line := fun _ => (sendQueueOnly.of_line_eq (by rw [hv]; rfl)).trans hline
    lanes := fun ℓ _ => by simp [State.tellOwner, State.lane]
    asks := fun d hd => hchan d (fun heq => hd ⟨false, h, by rw [heq]⟩) ▸ hoffer.chan d
    channels := fun hnot => (hnot false c h rfl).elim
    notices := noticesKept.trans (noticesKept_of_line (by rw [hv]; rfl)) hoffer.kept
    rest := fun _ => by simp [State.tellOwner]
    lists := fun _ _ => by simp [State.tellOwner]
    memory := by simp [State.tellOwner] }

theorem State.ownerTold (s : State) (n : Notice) : State.OwnerTold n s (s.tellOwner n) := by
  cases n with
  | stop b => exact s.ownerTold_stop b
  | contest ℓ d f => exact s.ownerTold_contest ℓ d f
  | claim ℓ re d v => exact s.ownerTold_claim ℓ re d v
  | draw on c h =>
    cases on with
    | true => exact s.ownerTold_drawOn c h
    | false => exact s.ownerTold_drawOff c h
  | release ℓ form d f => exact s.ownerTold_release ℓ form d f
  | hold issue n kind key reason => exact s.ownerTold_hold issue n kind key reason
  | status => exact .of_frame rfl rfl rfl rfl (.refl s) (.refl _ s) (fun _ _ => rfl)

end SendQueueAlone

end Sys2Proof.Machine

namespace Sys2Proof.Machine

/-! ## Proofs: what each owner does when its notice was sent whole (chapters 1, 4 to 7) -/

section OwnerActs

variable {s t u : State} {ℓ : LaneId} {c : ChanId}

theorem State.place_of_noticeAt {p : Place} {e : SendEntry} (h : s.noticeAt p = some e) : e.notice.place = p := by
  simpa using List.find?_some h

theorem State.noticeAt_freePlace (s : State) (p q : Place) :
    (s.freePlace p).noticeAt q = if q = p then none else s.noticeAt q := State.noticeAt_takeNotice ..

theorem State.freePlace_line (s : State) (p : Place) : (s.freePlace p).line = { s.line with
    transmitter := none
    idleCount := 0
    abortRun := 0
    faulted := false
    sendQueue := (s.freePlace p).line.sendQueue } := rfl

@[simp] theorem State.lane_freePlace (p : Place) (ℓ : LaneId) : (s.freePlace p).lane ℓ = s.lane ℓ := rfl
@[simp] theorem State.chan_freePlace (p : Place) (c : ChanId) : (s.freePlace p).chan c = s.chan c := rfl

/-! ### The claim (R10, R135) -/

theorem Lane.modProgress_congr {l : Lane} {f g : Claim → Claim} (h : ∀ c, l.progress? = some c → f c = g c) :
    l.modProgress f = l.modProgress g := by
  unfold Lane.modProgress
  unfold Lane.progress? at h
  cases hclaim : l.claim with
  | some c =>
    rw [hclaim] at h
    simp only
    rw [h c rfl]
  | none =>
    rw [hclaim] at h
    cases hreclaim : l.reclaim with
    | none => rfl
    | some r =>
      rw [hreclaim] at h
      simp only [Option.map_some]
      rw [h r.claim rfl]

theorem Lane.progress?_modProgress (l : Lane) (f : Claim → Claim) : (l.modProgress f).progress? = l.progress?.map f := by
  unfold Lane.modProgress Lane.progress?
  cases hclaim : l.claim with
  | some c => rfl
  | none =>
    simp only
    cases l.reclaim <;> rfl

/-- A CLAIM in progress sent whole is SENT and announced (R10). -/
theorem State.claimSent_of_progress {cl : Claim} (hlost : (s.lane ℓ).lostClaim = none)
    (hprogress : (s.lane ℓ).progress? = some cl) (hstep : cl.step = .queued) : (s.claimSent ℓ).lane ℓ =
      (s.lane ℓ).modProgress (fun y => { y with step := .sent, announced := true }) ∧
      (s.claimSent ℓ).line = s.line := by
  obtain ⟨v, hv⟩ : ∃ v, v = s.modLane ℓ (fun l => l.modProgress Claim.sentWhole) := ⟨_, rfl⟩
  have heq : s.claimSent ℓ = v.testClaim ℓ := by
    unfold State.claimSent
    rw [hlost, hv]
  have hsent : cl.sentWhole = { cl with step := .sent, announced := true } := if_pos hstep
  have hlane : v.lane ℓ = (s.lane ℓ).modProgress Claim.sentWhole := by rw [hv, State.lane_modLane_same]
  have htest : v.testClaim ℓ = v := State.testClaim_of_not fun c' hc' => by
    rw [hlane, Lane.progress?_modProgress, hprogress] at hc'
    cases hc'
    rw [hsent]
    exact .inl nofun
  rw [heq, htest, hlane]
  refine ⟨Lane.modProgress_congr fun c' hc' => ?_, by rw [hv]; rfl⟩
  cases hprogress.symm.trans hc'
  exact hsent

/-- A lost claim sent whole is answered by a withdrawn RELEASE (R135). -/
theorem State.claimSent_of_lost {lc : LostClaim} (hlost : (s.lane ℓ).lostClaim = some lc) (hpure : lc.pure = false)
    (hfree : s.noticeAt (.release ℓ) = none) : ((s.claimSent ℓ).lane ℓ).lostClaim = none ∧
      (s.claimSent ℓ).noticeAt (.release ℓ) = some ⟨.release ℓ .withdrawn lc.driver none, false⟩ := by
  obtain ⟨v, hv⟩ : ∃ v, v = s.modLane ℓ (fun l => { l with lostClaim := none }) := ⟨_, rfl⟩
  obtain ⟨w, hw⟩ : ∃ w, w = v.queueWithdrawn ℓ lc.driver := ⟨_, rfl⟩
  have hwaits : s.withdrawnWaits ℓ lc.driver = false := by simp [State.withdrawnWaits, hfree]
  have heq : s.claimSent ℓ = w.testClaim ℓ := by
    unfold State.claimSent State.lostClaimSent
    rw [hlost]
    dsimp only
    rw [if_neg (by simp [hwaits, hpure]), hw, hv]
  have hnotice : w.noticeAt (.release ℓ) = some ⟨.release ℓ .withdrawn lc.driver none, false⟩ := by
    rw [hw]
    exact State.noticeAt_queueWithdrawn (by rw [hv]; exact hfree)
  have htest : w.testClaim ℓ = w := State.testClaim_of_not fun _ _ => .inr (.inl (by simp [State.releaseWaiting, hnotice]))
  rw [heq, htest]
  refine ⟨?_, hnotice⟩
  obtain ⟨x, hx⟩ := v.queueWithdrawn_lane ℓ lc.driver
  rw [hw, hx, hv, State.lane_modLane_same]

/-! ### The draws (R88) -/

theorem State.drawOffSent_of_not_waits (h : ¬ (s.chan c).waits) :
    s.drawOffSent c = s.modChan c (fun ch => { ch with draw := .none }) := by
  obtain ⟨v, hv, heq⟩ := s.drawOffSent_eq c
  rw [heq, if_neg, hv]
  intro hwants
  rw [hv, State.chan_modChan_same] at hwants
  simp only [Channel.wantsDraw, Bool.and_eq_true] at hwants
  exact h (Channel.waits_iff.1 (by simpa using hwants.1))

theorem State.drawOffSent_draw (s : State) (c : ChanId) :
    ((s.drawOffSent c).chan c).draw = .none ∨ ((s.drawOffSent c).chan c).draw = .asked := by
  obtain ⟨v, hv, heq⟩ := s.drawOffSent_eq c
  have hchan : (v.chan c).draw = .none := by rw [hv, State.chan_modChan_same]
  rw [heq]
  split
  · rcases (State.Offers.offerRound (v.headerOf c) v).chan c with h | ⟨-, h⟩
    · rw [h]
      exact .inl hchan
    · rw [h]
      exact .inr rfl
  · exact .inl hchan

/-! ### The RELEASE (R27, R135) -/

theorem State.handVoided_owed (s : State) (ℓ : LaneId) :
    ((s.handVoided ℓ).lane ℓ).owedRelease = (s.lane ℓ).owedRelease := by
  unfold State.handVoided
  split
  · split
    · obtain ⟨x, hx⟩ := State.handStage_lane (s.modLane ℓ (fun l => { l with closing := some _ })) ℓ (outcomeStage _ _)
      rw [hx, State.lane_modLane_same]
    · rfl
  · rfl

/-- A lane whose RELEASE waits hands over at most; it does not leave (R27). -/
theorem State.testClosing_of_releaseWaiting (h : s.releaseWaiting ℓ = true) : s.testClosing ℓ = s.handVoided ℓ := by
  have hwaits : (s.handVoided ℓ).releaseWaiting ℓ = true := by
    have hnotice : (s.handVoided ℓ).noticeAt (.release ℓ) = s.noticeAt (.release ℓ) := by
      rw [State.noticeAt, State.noticeAt, State.handVoided_line]
    rw [State.releaseWaiting, hnotice, s.handVoided_owed]
    exact h
  unfold State.testClosing
  dsimp only
  split
  · exact if_neg fun h' => h'.2.2 hwaits
  · rfl

/-- An owed withdrawn RELEASE takes the place that the sent one has left (R135). -/
theorem State.releaseSent_of_owed {o : Nat} (howed : (s.lane ℓ).owedRelease = some o)
    (hfree : s.noticeAt (.release ℓ) = none) : ((s.releaseSent ℓ).lane ℓ).owedRelease = none ∧
      (s.releaseSent ℓ).noticeAt (.release ℓ) = some ⟨.release ℓ .withdrawn o none, false⟩ := by
  obtain ⟨v, hv⟩ : ∃ v, v = (s.modLane ℓ (fun l => { l with owedRelease := none })).queueNotice
      (.release ℓ .withdrawn o none) := ⟨_, rfl⟩
  have hnotice : v.noticeAt (.release ℓ) = some ⟨.release ℓ .withdrawn o none, false⟩ := by
    rw [hv, State.noticeAt_queueNotice, if_pos ⟨rfl, hfree⟩]
  have hwaits : v.releaseWaiting ℓ = true := by simp [State.releaseWaiting, hnotice]
  have htest : v.testClaim ℓ = v := State.testClaim_of_not fun _ _ => .inr (.inl hwaits)
  have heq : s.releaseSent ℓ = v.handVoided ℓ := by
    unfold State.releaseSent
    rw [howed]
    dsimp only
    rw [← hv, htest, State.testClosing_of_releaseWaiting hwaits]
  rw [heq]
  refine ⟨?_, ?_⟩
  · rw [State.handVoided_owed, hv, State.lane_queueNotice, State.lane_modLane_same]
  · rw [State.noticeAt, State.handVoided_line]
    exact hnotice

theorem State.releaseSent_of_none (howed : (s.lane ℓ).owedRelease = none) :
    s.releaseSent ℓ = (s.testClaim ℓ).testClosing ℓ := by
  unfold State.releaseSent
  rw [howed]

/-- A WAITING claim queues its CLAIM once the lane's RELEASE is gone (R10, R135). -/
theorem State.releaseSent_of_claim {cl : Claim} (howed : (s.lane ℓ).owedRelease = none)
    (hfree : s.noticeAt (.release ℓ) = none) (hclosing : (s.lane ℓ).closing = none)
    (hprogress : (s.lane ℓ).progress? = some cl) (hstep : cl.step = .waiting) (hresync : s.view.resync = none)
    (hbegun : s.begunAt (.claim ℓ) = false) :
    (s.releaseSent ℓ).lane ℓ = (s.lane ℓ).modProgress (fun y => { y with step := .queued }) ∧
      (s.releaseSent ℓ).noticeAt (.claim ℓ) ≠ none := by
  have hwaits : s.releaseWaiting ℓ = false := by simp [State.releaseWaiting, hfree, howed]
  have htest := State.testClaim_of hprogress hstep hresync hwaits hbegun
  have hlane : (s.testClaim ℓ).lane ℓ = (s.lane ℓ).modProgress (fun y => { y with step := .queued }) := by
    rw [htest, State.lane_modLane_same, State.lane_queueNotice]
  have hnone : ((s.testClaim ℓ).lane ℓ).closing = none := by
    rw [hlane]
    unfold Lane.modProgress
    split
    · exact hclosing
    · exact hclosing
  rw [State.releaseSent_of_none howed, State.testClosing_of_no_closing hnone]
  refine ⟨hlane, ?_⟩
  rw [htest]
  exact State.noticeAt_queueNotice_ne_none s (.claim ℓ (s.lane ℓ).claim.isNone cl.driver (s.lane ℓ).vehicle)

/-- A CLOSING lane whose outcome is on record leaves once its RELEASE is gone (R27). -/
theorem State.releaseSent_of_closing {cl : Closing} {r : LoadRecord} (howed : (s.lane ℓ).owedRelease = none)
    (hfree : s.noticeAt (.release ℓ) = none) (hprogress : (s.lane ℓ).progress? = none)
    (hclosing : (s.lane ℓ).closing = some cl) (hrecord : (s.lane ℓ).record = some r) (hbusy : s.laneBusy ℓ = false)
    (hdone : (cl.written = true ∧ (cl.outcome = .released ∨ cl.handed = true)) ∨
      (cl.outcome = .voided ∧ s.log.state = .logFault)) : s.releaseSent ℓ = s.leaveClosing ℓ cl r := by
  have htest : s.testClaim ℓ = s := State.testClaim_of_not fun c hc => by simp [hprogress] at hc
  have hhand : s.handVoided ℓ = s := by
    rw [State.handVoided_eq hclosing hrecord]
    refine if_neg fun h => ?_
    obtain ⟨hvoided, hhanded, -, hlog⟩ := h
    rcases hdone with ⟨-, h | h⟩ | ⟨-, h⟩
    · simp [h] at hvoided
    · simp [h] at hhanded
    · exact hlog h
  have houtcome : s.outcomeDone cl = true := by
    rcases hdone with ⟨h, -⟩ | ⟨h, h'⟩
    · simp [State.outcomeDone, h]
    · simp [State.outcomeDone, h, h']
  rw [State.releaseSent_of_none howed, htest, State.testClosing_eq hclosing hrecord hhand,
    if_pos ⟨by simp [hbusy], houtcome, by simp [State.releaseWaiting, hfree, howed]⟩]

/-- The slot of a lane that leaves CLOSING leaves OPEN under LOG_FAULT alone (R173). -/
theorem State.leaveClosing_slots (hwf : Assoc.wf SlotEntry.free s.log.table = true) (ℓ : LaneId) (cl : Closing)
    (r : LoadRecord) : (s.leaveClosing ℓ cl r).log = { s.log with table := (s.leaveClosing ℓ cl r).log.table } ∧
      ∀ p, (s.leaveClosing ℓ cl r).log.slot p =
        if p = r.slot ∧ s.log.state = .logFault then slotAfterFault (s.log.slot p) r.seq else s.log.slot p := by
  rw [State.leaveClosing_log]
  refine ⟨State.leaveSlot_log_eq .., fun p => ?_⟩
  by_cases hfault : s.log.state = .logFault
  · rw [State.leaveSlot_slot hwf hfault]
    simp only [hfault, and_true]
  · rw [State.leaveSlot_of_not_fault hfault, if_neg fun h => hfault h.2]

/-- An owed CONTEST takes the free place if the lane still holds its driver (R155). -/
theorem State.queueOwedContest_of_free {o : Nat} (howed : (s.lane ℓ).owedContest = some o)
    (hfree : s.noticeAt (.contest ℓ) = none) : (s.queueOwedContest ℓ).lane ℓ = { s.lane ℓ with owedContest := none } ∧
      (s.queueOwedContest ℓ).noticeAt (.contest ℓ) =
        if (s.lane ℓ).holdsDriver o then some ⟨.contest ℓ o ((s.lane ℓ).holdingForm o), false⟩ else none := by
  obtain ⟨v, hv⟩ : ∃ v, v = s.modLane ℓ (fun l => { l with owedContest := none }) := ⟨_, rfl⟩
  have hlane : v.lane ℓ = { s.lane ℓ with owedContest := none } := by rw [hv, State.lane_modLane_same]
  have hform : (v.lane ℓ).holdingForm o = (s.lane ℓ).holdingForm o := by rw [hlane]; rfl
  have hnone : v.noticeAt (.contest ℓ) = none := by rw [hv]; exact hfree
  unfold State.queueOwedContest
  rw [howed]
  dsimp only
  rw [if_neg (by simp [hfree]), ← hv]
  split
  · rw [State.placeContest, State.lane_queueNotice, hlane, State.noticeAt_queueNotice, if_pos ⟨rfl, hnone⟩, ← hform, hlane]
    exact ⟨rfl, rfl⟩
  · exact ⟨hlane, hnone⟩

end OwnerActs

section SettleSent

/-- Settles O57: each clause is its owner's act in the state that the sent notice has left. -/
theorem sentWholeTellsTheOwner : Obligations.SentWholeTellsTheOwner := by
  intro s x e hreset hx hwon hat
  obtain ⟨u, hu⟩ : ∃ u, u = s.freePlace x.place := ⟨_, rfl⟩
  have hplace : x.place = e.notice.place := (State.place_of_noticeAt hat).symm
  have hexec : exec .sentWhole s = .next (u.tellOwner e.notice) := by
    show execSentWhole s = _
    simp only [execSentWhole, hx, hat]
    rw [if_neg (by simp [hwon, hreset]), hu]
  have hnotice (q : Place) : u.noticeAt q = if q = e.notice.place then none else s.noticeAt q := by
    rw [hu, State.noticeAt_freePlace, hplace]
  have hgone (n : Notice) (hn : e.notice = n) : u.noticeAt n.place = none := (hnotice _).trans (if_pos (by rw [hn]))
  have hother (q : Place) (n : Notice) (hn : e.notice = n) (hq : q ≠ n.place) : u.noticeAt q = s.noticeAt q :=
    (hnotice q).trans (if_neg (by rw [hn]; exact hq))
  have hlane (ℓ : LaneId) : u.lane ℓ = s.lane ℓ := by rw [hu]; rfl
  have hchan (c : ChanId) : u.chan c = s.chan c := by rw [hu]; rfl
  have hlists : u.lists = s.lists := by rw [hu]; rfl
  have hlog : u.log = s.log := by rw [hu]; rfl
  have htold := u.ownerTold e.notice
  have hsend := htold.line (by rw [hu]; rfl)
  refine ⟨_, hexec, ?_, fun hn => ?_, fun b hn => ?_, fun ℓ re d v c hn hlost hprogress hstep => ?_,
    fun ℓ re d v lc hn hlost hpure hfree => ?_, fun c h hn => ⟨fun hdraw => ?_, fun hdraw => ?_, fun hdraw => ?_⟩,
    fun c h hn => ⟨fun hnot => ?_, ?_⟩, fun ℓ form d f o hn howed => ?_,
    fun ℓ form d f c hn howed hclosing hprogress hstep hresync hbegun => ?_, fun ℓ d form o hn howed => ?_,
    fun ℓ form d f c r hn howed hprogress hclosing hrecord hbusy hwf hdone => ?_, fun n kind key reason hn => ?_,
    fun n kind key reason hn hwf => ?_, fun ℓ hn => ?_, fun c hc => ?_, fun hn => ?_, fun q hq => ?_, fun hn => ?_,
    fun h0 h5 => ?_, ?_⟩
  · rw [show (u.tellOwner e.notice).line = _ from hsend, hu]
    rfl
  · rw [hn]
    exact hgone .status hn
  · rw [hn]
    show (State.queueStop _).lists = _ ∧ (State.queueStop _).noticeAt .stop = _
    rw [State.queueStop_lists, State.noticeAt_queueStop]
    refine ⟨by rw [hlists]; rfl, ?_⟩
    have hfree : u.noticeAt .stop = none := hgone (.stop b) hn
    have hpins : u.pins = s.pins := by rw [hu]; rfl
    show (if u.pins.stopChain ≠ b ∧ Place.stop = .stop ∧ u.noticeAt .stop = none then _ else u.noticeAt .stop) = _
    rw [hfree, hpins]
    by_cases h : s.pins.stopChain = b
    · rw [if_neg fun h' => h'.1 h, if_pos h]
    · rw [if_pos ⟨h, rfl, rfl⟩, if_neg h, ← hpins]
      rfl
  · rw [hn]
    rw [← hlane] at hlost hprogress ⊢
    obtain ⟨hafter, hline⟩ := State.claimSent_of_progress hlost hprogress hstep
    refine ⟨hafter, ?_⟩
    show (u.claimSent ℓ).noticeAt (.claim ℓ) = none
    rw [State.noticeAt, hline]
    exact hgone (.claim ℓ re d v) hn
  · rw [hn]
    rw [← hlane] at hlost
    exact State.claimSent_of_lost hlost hpure ((hother (.release ℓ) _ hn nofun).trans hfree)
  · rw [hn]
    rw [← hchan] at hdraw ⊢
    have heq : u.drawOnSent c = u.modChan c (fun ch => { ch with draw := .sent }) := by simp only [State.drawOnSent, hdraw]
    show (u.drawOnSent c).chan c = _ ∧ (u.drawOnSent c).noticeAt (.draw c) = none
    rw [heq, State.chan_modChan_same]
    exact ⟨rfl, hgone (.draw true c h) hn⟩
  · rw [hn]
    rw [← hchan] at hdraw ⊢
    have heq : u.drawOnSent c = u.queueNotice (.draw false c (u.headerOf c)) := by simp only [State.drawOnSent, hdraw]
    have hheader : u.headerOf c = s.headerOf c := State.headerOf_congr (by rw [hu]; rfl)
    show (u.drawOnSent c).chan c = _ ∧ (u.drawOnSent c).noticeAt (.draw c) = _
    rw [heq, State.chan_queueNotice, State.noticeAt_queueNotice, hheader]
    exact ⟨rfl, if_pos ⟨rfl, hgone (.draw true c h) hn⟩⟩
  · rw [hn]
    rw [← hchan] at hdraw ⊢
    have heq : u.drawOnSent c = u := by simp only [State.drawOnSent, hdraw]
    show (u.drawOnSent c).chan c = _ ∧ (u.drawOnSent c).noticeAt (.draw c) = none
    rw [heq]
    exact ⟨rfl, hgone (.draw true c h) hn⟩
  · rw [hn]
    rw [← hchan] at hnot ⊢
    show (u.drawOffSent c).chan c = _ ∧ (u.drawOffSent c).noticeAt (.draw c) = none
    rw [State.drawOffSent_of_not_waits hnot, State.chan_modChan_same]
    exact ⟨rfl, hgone (.draw false c h) hn⟩
  · rw [hn]
    exact u.drawOffSent_draw c
  · rw [hn]
    rw [← hlane] at howed
    exact State.releaseSent_of_owed howed (hgone (.release ℓ form d f) hn)
  · rw [hn]
    rw [← hlane] at howed hclosing hprogress ⊢
    exact State.releaseSent_of_claim howed (hgone (.release ℓ form d f) hn) hclosing hprogress hstep (by rw [hu]; exact hresync)
      ((State.begunAt_congr (hother (.claim ℓ) _ hn nofun)).trans hbegun)
  · rw [hn]
    rw [← hlane] at howed ⊢
    exact State.queueOwedContest_of_free howed (hgone (.contest ℓ d form) hn)
  · rw [hn]
    rw [← hlane] at howed hprogress hclosing hrecord
    rw [← hlog] at hwf hdone ⊢
    have hfree : u.noticeAt (.release ℓ) = none := hgone (.release ℓ form d f) hn
    have heq : u.tellOwner (.release ℓ form d f) = u.leaveClosing ℓ c r :=
      State.releaseSent_of_closing howed hfree hprogress hclosing hrecord
        ((State.laneBusy_congr (by rw [hu]; rfl)).trans hbusy) hdone
    rw [heq]
    exact ⟨(leftClosing_leaveClosing hfree c r).congr (by rw [hlane]) (by rw [hlane]), State.leaveClosing_slots hwf ℓ c r⟩
  · rw [hn]
    have hfree : u.noticeAt (.hold n) = none := hgone (.hold true n kind key reason) hn
    show (u.issueSent n).noticeAt (.hold n) = _
    rw [← hlists]
    cases horder : u.lists.order n with
    | cancelling k y w =>
      simp only [State.issueSent, horder]
      rw [State.noticeAt_queueNotice]
      exact if_pos ⟨rfl, hfree⟩
    | free =>
      simp only [State.issueSent, horder]
      exact hfree
    | active k y w =>
      simp only [State.issueSent, horder]
      exact hfree
  · rw [hn]
    refine ⟨hgone (.hold false n kind key reason) hn, fun m => ?_⟩
    show (u.lists.setOrder n .free).order m = _
    rw [hlists]
    exact Assoc.get_put OrderSlot.free n m .free s.lists.orders hwf
  · rw [htold.lanes ℓ hn, hlane]
  · rw [← hchan]
    exact htold.asks c hc
  · rw [htold.channels hn, hu]
    rfl
  · have hne : q ≠ e.notice.place := fun heq => hq (by
      rw [heq]
      cases e.notice <;> simp [noticeTouches, Notice.place])
    rw [htold.notices q hq, hnotice, if_neg hne]
  · obtain ⟨h1, h2⟩ := htold.rest hn
    rw [h1, h2, hu]
    exact ⟨rfl, rfl⟩
  · rw [htold.lists h0 h5, hlists]
  · rw [htold.memory, hlog]
    simp [hu]

end SettleSent

end Sys2Proof.Machine

namespace Sys2Proof.Machine

/-! ## Proofs: a written outcome empties its lane (chapter 1) -/

section Written

variable {s t u : State} {ℓ : LaneId} {c : Closing} {r : LoadRecord}

/-- Handing a voided load's outcome over changes of the lane its mark and its backlog alone, and the table not at all (R26). -/
theorem State.handVoided_closing (hclosing : (s.lane ℓ).closing = some c) (hrecord : (s.lane ℓ).record = some r) :
    (∃ h x, (s.handVoided ℓ).lane ℓ = { s.lane ℓ with closing := some { c with handed := h }, backlog := x }) ∧
      (s.handVoided ℓ).channels = s.channels ∧ (s.handVoided ℓ).log.table = s.log.table ∧
      (s.handVoided ℓ).log.state = s.log.state := by
  rw [State.handVoided_eq hclosing hrecord]
  split
  · obtain ⟨x, hx⟩ := State.handStage_lane (s.modLane ℓ (fun l => { l with closing := some { c with handed := true } })) ℓ
      (outcomeStage r c)
    refine ⟨⟨true, x, ?_⟩, by simp, ?_, State.handStage_log_state ..⟩
    · rw [hx, State.lane_modLane_same]
    · unfold State.handStage
      split
      · rfl
      · split <;> rfl
  · refine ⟨⟨c.handed, (s.lane ℓ).backlog, ?_⟩, rfl, rfl, rfl⟩
    rw [show some { c with handed := c.handed } = (s.lane ℓ).closing from hclosing.symm]

/-- A lane whose outcome is on record leaves CLOSING where nothing else holds it (R27). -/
theorem State.testClosing_leaves (hclosing : (s.lane ℓ).closing = some c) (hrecord : (s.lane ℓ).record = some r)
    (hbusy : s.laneBusy ℓ = false) (hwritten : c.written = true) (hwaits : s.releaseWaiting ℓ = false) :
    ∃ (v : State) (h : Bool), s.testClosing ℓ = v.leaveClosing ℓ { c with handed := h } r ∧ (v.lane ℓ).dispatch = (s.lane ℓ).dispatch ∧
      (v.lane ℓ).pulse = (s.lane ℓ).pulse ∧ v.noticeAt (.release ℓ) = none ∧ v.log.table = s.log.table ∧
      v.log.state = s.log.state := by
  obtain ⟨⟨h, x, hlane⟩, hchannels, htable, hstate⟩ := State.handVoided_closing hclosing hrecord
  obtain ⟨v, hv⟩ : ∃ v, v = s.handVoided ℓ := ⟨_, rfl⟩
  have hnotice : v.noticeAt (.release ℓ) = s.noticeAt (.release ℓ) := by
    rw [hv, State.noticeAt, State.noticeAt, State.handVoided_line]
  rw [← hv] at hlane hchannels htable hstate
  have hvclosing : (v.lane ℓ).closing = some { c with handed := h } := by rw [hlane]
  have hvrecord : (v.lane ℓ).record = some r := by rw [hlane]; exact hrecord
  have hvwaits : v.releaseWaiting ℓ = false := by
    rw [← hwaits, State.releaseWaiting, State.releaseWaiting, hnotice, hlane]
  have hfree : s.noticeAt (.release ℓ) = none := by
    simp only [State.releaseWaiting, Bool.or_eq_false_iff] at hwaits
    simpa using hwaits.1
  refine ⟨v, h, ?_, by rw [hlane], by rw [hlane], hnotice.trans hfree, htable, hstate⟩
  unfold State.testClosing
  dsimp only
  rw [← hv, hvclosing, hvrecord]
  exact if_pos ⟨by rw [State.laneBusy_congr hchannels, hbusy]; simp, by simp [State.outcomeDone, hwritten], by simp [hvwaits]⟩

/-- The log's entry for the slot of a written stage (R178). -/
theorem DeliveryLog.stored_slot (l : DeliveryLog) (w : StageWrite) (area number : Nat)
    (hne : (l.slot w.slot).written number w.stage.kind ≠ SlotEntry.free) (p : Nat) : (l.stored w area number).slot p =
      if p = w.slot then (l.slot w.slot).written number w.stage.kind else l.slot p :=
  DeliveryLog.slot_setSlot_of_ne_free l w.slot p hne

theorem State.logWriteComplete_verified {w : StageWrite} {rest : List StageWrite} {area number : Nat} {second : Bool}
    (hqueue : s.log.queue = w :: rest) (hreset : s.inReset = false)
    (hwriting : s.log.writing = some (.stage area number second)) :
    exec (.logWriteComplete true) s = .next ((s.setLog (s.log.stored w area number)).tellWritten w) := by
  show execLogWriteComplete true s = _
  simp only [execLogWriteComplete, hqueue, hwriting, hreset]
  rfl

/-- Settles O60. -/
theorem writtenOutcomeEmptiesTheLane : Obligations.WrittenOutcomeEmptiesTheLane := by
  intro s ℓ w rest area number second c r hqueue hreset hwriting howner hkind hclosing hrecord hslot hbacklog hchan hwaits
  obtain ⟨u, hu⟩ : ∃ u, u = s.setLog (s.log.stored w area number) := ⟨_, rfl⟩
  obtain ⟨v, hv⟩ : ∃ v, v = u.modLane ℓ (fun l => { l with closing := l.closing.map (fun c => { c with written := true }) }) :=
    ⟨_, rfl⟩
  have hpass : u.passBacklog ℓ = u := by
    have h : (u.lane ℓ).backlog = [] := by rw [hu]; exact hbacklog
    unfold State.passBacklog
    rw [h]
  have hexec : exec (.logWriteComplete true) s = .next (v.testClosing ℓ) := by
    rw [State.logWriteComplete_verified hqueue hreset hwriting, ← hu]
    unfold State.tellWritten
    rw [howner]
    dsimp only
    rw [if_pos hkind, hpass, hv]
    rfl
  have hlane : v.lane ℓ = { s.lane ℓ with closing := some { c with written := true } } := by
    rw [hv, State.lane_modLane_same, hu, State.lane_setLog, hclosing]
    rfl
  have hbusy : v.laneBusy ℓ = false := by
    rw [← Bool.not_eq_true, State.laneBusy_iff]
    rintro ⟨ch, hch⟩
    have hsame : v.chan ch = s.chan ch := by rw [hv, hu]; rfl
    rw [hsame, hchan ch] at hch
    cases hch
  have hwaitsv : v.releaseWaiting ℓ = false := by
    rw [← hwaits, State.releaseWaiting, State.releaseWaiting, hlane, hv, hu]
    rfl
  obtain ⟨x, h, hleaves, hdispatch, hpulse, hfree, htable, hstate⟩ := State.testClosing_leaves (s := v) (ℓ := ℓ)
    (c := { c with written := true }) (r := r) (by rw [hlane]) (by rw [hlane]; exact hrecord) hbusy rfl hwaitsv
  have hleft := (leftClosing_leaveClosing hfree { c with written := true, handed := h } r).congr (s' := s)
    (by rw [hdispatch, hlane]) (by rw [hpulse, hlane])
  rw [← hleaves] at hleft
  obtain ⟨hvacant, hnorecord, hnoclosing, -, hholds, htimer, -, hresult, hdone, hpulsed, hnot, hrelease⟩ := hleft
  have hop := (State.LaneOp.refl ℓ v).testClosing
  have hentry : v.log.slot w.slot = (s.log.slot w.slot).written number w.stage.kind := by
    rw [hv, hu]
    refine (DeliveryLog.stored_slot _ _ _ _ ?_ _).trans (if_pos rfl)
    simp [SlotEntry.written, hkind, SlotEntry.free]
  have hclosed : (v.log.slot w.slot).state = .closed := by rw [hentry, SlotEntry.written, hkind]; rfl
  have hslots : x.leaveSlot r.slot r.seq = x := by
    have hxslot : x.log.slot r.slot = v.log.slot w.slot := by rw [DeliveryLog.slot, htable, hslot]; rfl
    unfold State.leaveSlot
    rw [if_neg]
    rintro ⟨-, -, hopen⟩
    rw [hxslot, hclosed] at hopen
    cases hopen
  refine ⟨_, hexec, hvacant, hnorecord, hnoclosing, hholds, htimer, hresult, hdone, hpulsed, hnot, hrelease, ?_, ?_, ?_, ?_, ?_,
    ?_, ?_⟩
  · rw [hleaves, State.leaveClosing_log, hslots, DeliveryLog.slot, htable]
    exact hclosed
  · rw [hop.other, hv, State.lane_modLane_other, hu]
    rfl
  · simp [hv, hu]
  · simp [hv, hu]
  · simp [hv, hu]
  · simp [hv, hu]
  · simp [hv, hu, sameStation]

end Written

end Sys2Proof.Machine

namespace Sys2Proof.Machine

/-! ## LOG_FAULT reaches the lanes and the channels (chapters 1, 4 and 8) -/

section Fault

variable {s t u : State} {ℓ : LaneId} {c : Closing} {r : LoadRecord}

/-! ### A slot that leaves OPEN (R173) -/

/-- The slot is no longer OPEN for the load of a sequence number. -/
def slotLeft (e : SlotEntry) (seq : Nat) : Prop := e.state ≠ .opened ∨ e.seq ≠ some seq

theorem slotLeft_slotAfterFault (e : SlotEntry) (seq : Nat) : slotLeft (slotAfterFault e seq) seq := by
  unfold slotAfterFault slotLeft
  split
  · split
    · exact .inl nofun
    · exact .inl nofun
  · rename_i h
    by_cases hseq : e.seq = some seq
    · exact .inl fun hopen => h ⟨hseq, hopen⟩
    · exact .inr hseq

theorem slotLeft.slotAfterFault {e : SlotEntry} {seq : Nat} (h : slotLeft e seq) (seq' : Nat) :
    slotLeft (slotAfterFault e seq') seq := by
  unfold Machine.slotAfterFault
  split
  · split
    · exact .inl nofun
    · exact .inl nofun
  · exact h

/-- A slot that two loads leave has left as the first of them does, or as the second. -/
theorem slotAfterFault_slotAfterFault (e : SlotEntry) (seq seq' : Nat) :
    slotAfterFault (slotAfterFault e seq) seq' = slotAfterFault e seq ∨
      slotAfterFault (slotAfterFault e seq) seq' = slotAfterFault e seq' := by
  by_cases h : e.seq = some seq ∧ e.state = .opened
  · left
    have hleft : (slotAfterFault e seq).state ≠ .opened := by
      unfold slotAfterFault
      rw [if_pos h]
      split <;> exact nofun
    rw [slotAfterFault, if_neg fun h' => hleft h'.2]
  · right
    have hsame : slotAfterFault e seq = e := if_neg h
    rw [hsame]

/-! ### Leaving CLOSING while LOG_FAULT stands -/

/-- A lane has left CLOSING and its slot with it (R27, R173). -/
def leftUnderFault (s t : State) (ℓ : LaneId) : Prop :=
  ∃ c r, (s.lane ℓ).closing = some c ∧ (s.lane ℓ).record = some r ∧ s.outcomeDone c = true ∧ s.releaseWaiting ℓ = false ∧
    (∀ ch, (t.chan ch).atLane ℓ = false) ∧ leftClosing s t ℓ r c ∧ slotLeft (t.log.slot r.slot) r.seq

/-- From a state in LOG_FAULT the lanes have at most left CLOSING, and the channels at most their assignments. -/
structure State.LeavesAtMost (s t : State) : Prop where
  log : t.log = { s.log with table := t.log.table }
  wf : Assoc.wf SlotEntry.free t.log.table = true
  lane : ∀ ℓ, (t.lane ℓ = s.lane ℓ ∧ t.noticeAt (.release ℓ) = s.noticeAt (.release ℓ)) ∨ leftUnderFault s t ℓ
  slots : ∀ p, t.log.slot p = s.log.slot p ∨ ∃ ℓ r c, (s.lane ℓ).record = some r ∧ (s.lane ℓ).closing = some c ∧
    s.outcomeDone c = true ∧ p = r.slot ∧ t.log.slot p = slotAfterFault (s.log.slot p) r.seq
  stays : ∀ q, (q, false) ∈ s.attention → (q, false) ∈ t.attention
  chans : ∀ ch ℓ, (t.chan ch).atLane ℓ = true → (s.chan ch).atLane ℓ = true
  still : (∀ ℓ, (s.lane ℓ).closing = none) → t.line = s.line ∧ t.log.table = s.log.table

theorem State.LeavesAtMost.refl (hwf : Assoc.wf SlotEntry.free s.log.table = true) : State.LeavesAtMost s s :=
  ⟨rfl, hwf, fun _ => .inl ⟨rfl, rfl⟩, fun _ => .inl rfl, fun _ => id, fun _ _ => id, fun _ => ⟨rfl, rfl⟩⟩

theorem State.LeavesAtMost.closing_of_left (h : leftUnderFault s t ℓ) : (t.lane ℓ).closing = none := by
  obtain ⟨c, r, -, -, -, -, -, hleft, -⟩ := h
  exact hleft.2.2.1

/-- A lane still in CLOSING is as it was. -/
theorem State.LeavesAtMost.lane_eq (h : State.LeavesAtMost s t) (hclosing : (t.lane ℓ).closing = some c) :
    t.lane ℓ = s.lane ℓ ∧ t.noticeAt (.release ℓ) = s.noticeAt (.release ℓ) := by
  refine (h.lane ℓ).resolve_right fun hleft => ?_
  rw [State.LeavesAtMost.closing_of_left hleft] at hclosing
  cases hclosing

theorem State.LeavesAtMost.outcomeDone_eq (h : State.LeavesAtMost s t) (c : Closing) : t.outcomeDone c = s.outcomeDone c := by
  rw [State.outcomeDone, State.outcomeDone, h.log]

theorem leftClosing.later (h : leftClosing s t ℓ r c) (hlane : u.lane ℓ = t.lane ℓ)
    (hnotice : u.noticeAt (.release ℓ) = t.noticeAt (.release ℓ))
    (hstays : ∀ q, (q, false) ∈ t.attention → (q, false) ∈ u.attention) : leftClosing s u ℓ r c := by
  obtain ⟨h1, h2, h3, h4, h5, h6, h7, h8, hdone, h10, h11, hrelease⟩ := h
  rw [leftClosing, hlane, hnotice]
  exact ⟨h1, h2, h3, h4, h5, h6, h7, h8, hstays _ hdone, h10, h11, hrelease⟩

theorem State.LeavesAtMost.slotLeft (h : State.LeavesAtMost s t) {p seq : Nat} (hleft : slotLeft (s.log.slot p) seq) :
    Machine.slotLeft (t.log.slot p) seq := by
  rcases h.slots p with heq | ⟨ℓ, r, c, -, -, -, -, heq⟩
  · rw [heq]
    exact hleft
  · rw [heq]
    exact hleft.slotAfterFault _

theorem State.LeavesAtMost.trans (h : State.LeavesAtMost s t) (h' : State.LeavesAtMost t u) : State.LeavesAtMost s u where
  log := by rw [h'.log, h.log]
  wf := h'.wf
  lane ℓ := by
    rcases h'.lane ℓ with ⟨hlane', hnotice'⟩ | ⟨c, r, hclosing, hrecord, hdone, hwaits, hbusy, hleft, hslot⟩
    · rcases h.lane ℓ with ⟨hlane, hnotice⟩ | ⟨c, r, hclosing, hrecord, hdone, hwaits, hbusy, hleft, hslot⟩
      · exact .inl ⟨hlane'.trans hlane, hnotice'.trans hnotice⟩
      · refine .inr ⟨c, r, hclosing, hrecord, hdone, hwaits, fun ch => ?_, hleft.later hlane' hnotice' h'.stays,
          h'.slotLeft hslot⟩
        rw [← Bool.not_eq_true]
        intro hch
        have := h'.chans ch ℓ hch
        rw [hbusy ch] at this
        cases this
    · obtain ⟨hlane, hnotice⟩ := h.lane_eq hclosing
      refine .inr ⟨c, r, by rw [← hlane, hclosing], by rw [← hlane, hrecord], by rw [← h.outcomeDone_eq, hdone], ?_, hbusy,
        hleft.congr (by rw [hlane]) (by rw [hlane]), hslot⟩
      rw [← hwaits, State.releaseWaiting, State.releaseWaiting, hnotice, hlane]
  slots p := by
    rcases h'.slots p with heq' | ⟨ℓ', r', c', hrecord', hclosing', hdone', hp', heq'⟩
    · rcases h.slots p with heq | ⟨ℓ, r, c, hrecord, hclosing, hdone, hp, heq⟩
      · exact .inl (heq'.trans heq)
      · exact .inr ⟨ℓ, r, c, hrecord, hclosing, hdone, hp, heq'.trans heq⟩
    · have hlane' := (h.lane_eq hclosing').1
      rw [hlane'] at hrecord' hclosing'
      rw [h.outcomeDone_eq] at hdone'
      rcases h.slots p with heq | ⟨ℓ, r, c, hrecord, hclosing, hdone, hp, heq⟩
      · exact .inr ⟨ℓ', r', c', hrecord', hclosing', hdone', hp', by rw [heq', heq]⟩
      · rw [heq] at heq'
        rcases slotAfterFault_slotAfterFault (s.log.slot p) r.seq r'.seq with h2 | h2
        · exact .inr ⟨ℓ, r, c, hrecord, hclosing, hdone, hp, heq'.trans h2⟩
        · exact .inr ⟨ℓ', r', c', hrecord', hclosing', hdone', hp', heq'.trans h2⟩
  stays q hq := h'.stays q (h.stays q hq)
  chans ch ℓ hch := h.chans ch ℓ (h'.chans ch ℓ hch)
  still hnone := by
    obtain ⟨hline, htable⟩ := h.still hnone
    have hnone' (ℓ : LaneId) : (t.lane ℓ).closing = none := by
      rcases h.lane ℓ with ⟨hlane, -⟩ | hleft
      · rw [hlane, hnone]
      · exact State.LeavesAtMost.closing_of_left hleft
    obtain ⟨hline', htable'⟩ := h'.still hnone'
    exact ⟨hline'.trans hline, htable'.trans htable⟩

/-! ### The steps of LOG_FAULT -/

theorem State.leavesAtMost_leaveClosing (hwf : Assoc.wf SlotEntry.free s.log.table = true) (hfault : s.log.state = .logFault)
    (hclosing : (s.lane ℓ).closing = some c) (hrecord : (s.lane ℓ).record = some r) (hbusy : s.laneBusy ℓ = false)
    (hdone : s.outcomeDone c = true) (hwaits : s.releaseWaiting ℓ = false) :
    State.LeavesAtMost s (s.leaveClosing ℓ c r) := by
  have hop := (State.LaneOp.refl ℓ s).leaveClosing c r
  obtain ⟨hlog, hslots⟩ := State.leaveClosing_slots hwf ℓ c r
  have hchan (ch : ChanId) : (s.leaveClosing ℓ c r).chan ch = s.chan ch := by simp [State.chan]
  have hfree : s.noticeAt (.release ℓ) = none := by
    simp only [State.releaseWaiting, Bool.or_eq_false_iff] at hwaits
    simpa using hwaits.1
  refine ⟨hlog, ?_, fun m => ?_, fun p => ?_, hop.stays, fun ch m hch => by rw [← hchan]; exact hch,
    fun hnone => by simp [hnone] at hclosing⟩
  · rw [State.leaveClosing_log]
    unfold State.leaveSlot
    split
    · split <;> exact s.log.setSlot_wf hwf _ _
    · exact hwf
  · by_cases hm : m = ℓ
    · subst hm
      refine .inr ⟨c, r, hclosing, hrecord, hdone, hwaits, fun ch => ?_, leftClosing_leaveClosing hfree c r, ?_⟩
      · rw [hchan, ← Bool.not_eq_true]
        intro hch
        rw [State.laneBusy_iff.2 ⟨ch, hch⟩] at hbusy
        cases hbusy
      · rw [hslots, if_pos ⟨rfl, hfault⟩]
        exact slotLeft_slotAfterFault _ _
    · left
      have hother : m = otherLane ℓ := by
        cases m <;> cases ℓ
        · exact (hm rfl).elim
        · rfl
        · rfl
        · exact (hm rfl).elim
      refine ⟨hother ▸ hop.other, hop.notices _ ?_⟩
      rintro ((h | h | h) | ⟨_, h⟩)
      · cases h
        exact hm rfl
      · cases h
      · cases h
      · cases h
  · rw [hslots]
    by_cases hp : p = r.slot
    · exact .inr ⟨ℓ, r, c, hrecord, hclosing, hdone, hp, if_pos ⟨hp, hfault⟩⟩
    · exact .inl (if_neg fun h => hp h.1)

theorem State.leavesAtMost_testClosing (hwf : Assoc.wf SlotEntry.free s.log.table = true) (hfault : s.log.state = .logFault)
    (ℓ : LaneId) : State.LeavesAtMost s (s.testClosing ℓ) := by
  cases hclosing : (s.lane ℓ).closing with
  | none =>
    rw [State.testClosing_of_no_closing hclosing]
    exact .refl hwf
  | some c =>
    cases hrecord : (s.lane ℓ).record with
    | none =>
      rw [State.testClosing_of_no_record hrecord]
      exact .refl hwf
    | some r =>
      rw [State.testClosing_eq hclosing hrecord (State.handVoided_of_fault hfault)]
      split
      · rename_i h
        obtain ⟨hbusy, hdone, hwaits⟩ := h
        exact State.leavesAtMost_leaveClosing hwf hfault hclosing hrecord (by simpa using hbusy) hdone (by simpa using hwaits)
      · exact .refl hwf

theorem State.leavesAtMost_idleChannel (hwf : Assoc.wf SlotEntry.free s.log.table = true) (c : ChanId) :
    State.LeavesAtMost s (s.idleChannel c) := by
  refine ⟨by simp, by simpa using hwf, fun ℓ => .inl ⟨by simp [State.lane], by simp [State.noticeAt]⟩,
    fun p => .inl (by simp), fun q hq => by simpa using hq, fun ch ℓ hch => ?_, fun _ => by simp⟩
  by_cases hc : ch = c
  · subst hc
    rw [State.idleChannel, State.chan_modChan_same] at hch
    cases hch
  · rw [State.idleChannel, State.chan_modChan_ne _ _ hc] at hch
    exact hch

theorem State.leavesAtMost_finishIfEnded (hwf : Assoc.wf SlotEntry.free s.log.table = true) (hfault : s.log.state = .logFault)
    (c : ChanId) : State.LeavesAtMost s (s.finishIfEnded c) := by
  have hidle := State.leavesAtMost_idleChannel hwf c
  unfold State.finishIfEnded State.finishChannel
  split
  · split
    · exact hidle.trans (State.leavesAtMost_testClosing hidle.wf (by rw [hidle.log]; exact hfault) _)
    · exact hidle
  · exact .refl hwf

theorem State.leavesAtMost_foldl (hwf : Assoc.wf SlotEntry.free s.log.table = true) (hfault : s.log.state = .logFault)
    (l : List ChanId) : State.LeavesAtMost s (l.foldl State.finishIfEnded s) := by
  induction l generalizing s with
  | nil => exact .refl hwf
  | cons c l ih =>
    have hone := State.leavesAtMost_finishIfEnded hwf hfault c
    exact hone.trans (ih hone.wf (by rw [hone.log]; exact hfault))

/-! ### The channels (R100) -/

/-- A channel whose pour stage is discarded goes from ENDED to IDLE (R100). -/
def Channel.finished (ch : Channel) : Channel :=
  if ch.state = .ended then { ch with state := .idle, assigned := none, preset := none, slow := none, close := none } else ch

theorem State.chan_finishChannel (s : State) (c d : ChanId) : (s.finishChannel c).chan d = (s.idleChannel c).chan d := by
  unfold State.finishChannel
  split
  · exact State.chan_testClosing d
  · rfl

theorem State.chan_finishIfEnded (s : State) (c d : ChanId) :
    (s.finishIfEnded c).chan d = if d = c then (s.chan d).finished else s.chan d := by
  unfold State.finishIfEnded
  by_cases hd : d = c
  · subst hd
    rw [if_pos rfl, Channel.finished]
    split
    · rw [State.chan_finishChannel, State.idleChannel, State.chan_modChan_same]
    · rfl
  · rw [if_neg hd]
    split
    · rw [State.chan_finishChannel, State.idleChannel, State.chan_modChan_ne _ _ hd]
    · rfl

theorem Channel.finished_finished (ch : Channel) : ch.finished.finished = ch.finished := by
  have h : ch.finished.state ≠ .ended := by
    unfold Channel.finished
    split
    · exact nofun
    · assumption
  rw [Channel.finished, if_neg h]

theorem State.chan_foldl_finish (l : List ChanId) (s : State) (d : ChanId) :
    (l.foldl State.finishIfEnded s).chan d = if d ∈ l then (s.chan d).finished else s.chan d := by
  induction l generalizing s with
  | nil => simp
  | cons c l ih =>
    rw [List.foldl_cons, ih, State.chan_finishIfEnded]
    by_cases hd : d = c
    · subst hd
      simp [Channel.finished_finished]
    · simp [hd]

/-! ### A lane learns of LOG_FAULT (R19, R30) -/

/-- The lane's release has not been written yet, so that LOG_FAULT takes it back (R30). -/
def Lane.takenBack (l : Lane) : Prop := ∃ c, l.closing = some c ∧ c.outcome = .released ∧ c.written = false

/-- What LOG_FAULT makes of a lane at once (R19, R30). -/
structure State.LaneFaulted (ℓ : LaneId) (s t : State) : Prop where
  op : s.LaneOp ℓ t
  channels : t.channels = s.channels
  line : t.line = s.line
  log : t.log = s.log
  stays : ¬ (s.lane ℓ).takenBack → t.lane ℓ = { s.lane ℓ with backlog := [] }
  back : ∀ r, (s.lane ℓ).takenBack → (s.lane ℓ).record = some r → backToLoading s t ℓ r .logFault ∧
    (t.lane ℓ).holds.order = (s.lane ℓ).holds.order ∧ (t.lane ℓ).backlog = []
  gone : (s.lane ℓ).takenBack → (t.lane ℓ).closing = none

theorem State.laneLogFault_of_not (h : ¬ (s.lane ℓ).takenBack) :
    s.laneLogFault ℓ = s.modLane ℓ (fun l => { l with backlog := [] }) := by
  unfold State.laneLogFault
  dsimp only
  rw [State.lane_modLane_same]
  split
  · rename_i c hc
    exact if_neg fun h' => h ⟨c, hc, h'⟩
  · rfl

theorem State.laneLogFault_of (h : (s.lane ℓ).takenBack) : s.laneLogFault ℓ =
    ((s.modLane ℓ (fun l => { l with backlog := [] })).returnToLoading ℓ).setResult ℓ .close .logFault := by
  obtain ⟨c, hc, htaken⟩ := h
  unfold State.laneLogFault
  dsimp only
  rw [State.lane_modLane_same]
  rw [hc]
  exact if_pos htaken

theorem State.returnToLoading_keeps (s : State) (ℓ : LaneId) : ((s.returnToLoading ℓ).lane ℓ).closing = none ∧
    (s.returnToLoading ℓ).channels = s.channels ∧ (s.returnToLoading ℓ).line = s.line := by
  cases hrecord : (s.lane ℓ).record with
  | some r =>
    have h := State.returnedToLoading hrecord
    obtain ⟨f, hf⟩ := h.lane
    exact ⟨by rw [hf], h.channels, h.line⟩
  | none =>
    obtain ⟨v, hv⟩ : ∃ v, v = s.modLane ℓ (fun l => { l with state := .loading, closing := none }) := ⟨_, rfl⟩
    have hlane : v.lane ℓ = { s.lane ℓ with state := .loading, closing := none } := by rw [hv, State.lane_modLane_same]
    have hnone : (v.lane ℓ).record = none := by rw [hlane]; exact hrecord
    have heq : s.returnToLoading ℓ = v := by
      unfold State.returnToLoading
      dsimp only
      rw [← hv, hnone]
    rw [heq]
    exact ⟨by rw [hlane], by rw [hv]; rfl, by rw [hv]; rfl⟩

theorem State.laneFaulted (s : State) (ℓ : LaneId) : State.LaneFaulted ℓ s (s.laneLogFault ℓ) := by
  by_cases h : (s.lane ℓ).takenBack
  · obtain ⟨v, hv⟩ : ∃ v, v = s.modLane ℓ (fun l => { l with backlog := [] }) := ⟨_, rfl⟩
    have hvlane : v.lane ℓ = { s.lane ℓ with backlog := [] } := by rw [hv, State.lane_modLane_same]
    have heq := State.laneLogFault_of h
    rw [← hv] at heq
    have hop : s.LaneOp ℓ (s.laneLogFault ℓ) := by
      rw [heq, hv]
      exact ((State.LaneOp.refl ℓ s).modLane _).returnToLoading.setResult _ _
    obtain ⟨hgone, hchannels, hline⟩ := v.returnToLoading_keeps ℓ
    refine ⟨hop, ?_, ?_, by simp, fun hn => (hn h).elim, fun r _ hrecord => ?_, fun _ => ?_⟩
    · have hvchannels : v.channels = s.channels := by rw [hv]; rfl
      simp [heq, hchannels, hvchannels]
    · have hvline : v.line = s.line := by rw [hv]; rfl
      simp [heq, hline, hvline]
    · have hr := State.returnedToLoading (s := v) (ℓ := ℓ) (r := r) (by rw [hvlane]; exact hrecord)
      obtain ⟨f, hf⟩ := hr.lane
      rw [hvlane] at hf
      have hlane : (s.laneLogFault ℓ).lane ℓ = { (v.returnToLoading ℓ).lane ℓ with result := some (.close, .logFault) } := by
        rw [heq, State.lane_setResult]
      refine ⟨⟨⟨f, ?_⟩, ?_, ?_⟩, ?_, ?_⟩
      · rw [hlane, hf]
      · exact hr.rearmed.congr (by rw [hvlane]) (by rw [hv]; rfl) (by rw [hlane]) (by rw [hlane])
          (by rw [heq]; exact ((State.LaneOp.refl ℓ _).setResult _ _).stays)
      · rw [heq]
        exact State.laneDone_mem_setResult ..
      · rw [hlane, hf]
      · rw [hlane, hf]
    · rw [heq, State.lane_setResult]
      exact hgone
  · rw [State.laneLogFault_of_not h]
    exact ⟨(State.LaneOp.refl ℓ s).modLane _, rfl, rfl, rfl, fun _ => State.lane_modLane_same .., fun _ h' => (h h').elim,
      fun h' => (h h').elim⟩

/-! ### LOG_FAULT as a whole (R180) -/

/-- Both lanes have learnt of LOG_FAULT, and nothing else has moved. -/
theorem State.laneFaulted_both (s : State) (ℓ : LaneId) : ∃ u u', u.lane ℓ = s.lane ℓ ∧ u.unit = s.unit ∧
    State.LaneFaulted ℓ u u' ∧ ((s.laneLogFault .a).laneLogFault .b).lane ℓ = u'.lane ℓ ∧
    ∀ q, (q, false) ∈ u'.attention → (q, false) ∈ ((s.laneLogFault .a).laneLogFault .b).attention := by
  have ha := s.laneFaulted .a
  have hb := (s.laneLogFault .a).laneFaulted .b
  cases ℓ with
  | a => exact ⟨s, _, rfl, rfl, ha, hb.op.other, hb.op.stays⟩
  | b => exact ⟨_, _, ha.op.other, by simp, hb, rfl, fun _ => id⟩

theorem State.testClosing_empties (hfault : s.log.state = .logFault) (hclosing : (s.lane ℓ).closing = some c)
    (hrecord : (s.lane ℓ).record = some r) (hbusy : s.laneBusy ℓ = false) (hdone : s.outcomeDone c = true)
    (hwaits : s.releaseWaiting ℓ = false) : ((s.testClosing ℓ).lane ℓ).closing = none := by
  have hfree : s.noticeAt (.release ℓ) = none := by
    simp only [State.releaseWaiting, Bool.or_eq_false_iff] at hwaits
    simpa using hwaits.1
  rw [State.testClosing_eq hclosing hrecord (State.handVoided_of_fault hfault),
    if_pos ⟨by simp [hbusy], hdone, by simp [hwaits]⟩]
  obtain ⟨-, -, hnone, -⟩ := leftClosing_leaveClosing hfree c r
  exact hnone

/-- The lanes tested last, once the channels in ENDED have gone to IDLE. -/
def State.faultSettled (s : State) : State :=
  ((ChanId.all.foldl State.finishIfEnded s).testClosing .a).testClosing .b

theorem State.chan_faultSettled (s : State) (d : ChanId) : s.faultSettled.chan d = (s.chan d).finished := by
  rw [State.faultSettled, State.chan_testClosing, State.chan_testClosing, State.chan_foldl_finish, if_pos (ChanId.mem_all d)]

theorem State.LeavesAtMost.testClosing_both {s u : State} (h : State.LeavesAtMost s u)
    (hfault : u.log.state = .logFault) : State.LeavesAtMost s ((u.testClosing .a).testClosing .b) := by
  have ha := State.leavesAtMost_testClosing h.wf hfault .a
  have hb := State.leavesAtMost_testClosing ha.wf (by rw [ha.log]; exact hfault) .b
  exact h.trans (ha.trans hb)

theorem State.leavesAtMost_faultSettled (hwf : Assoc.wf SlotEntry.free s.log.table = true)
    (hfault : s.log.state = .logFault) : State.LeavesAtMost s s.faultSettled := by
  obtain ⟨u, hu⟩ : ∃ u, u = ChanId.all.foldl State.finishIfEnded s := ⟨_, rfl⟩
  have hfold : State.LeavesAtMost s u := hu ▸ State.leavesAtMost_foldl hwf hfault ChanId.all
  rw [State.faultSettled, ← hu]
  exact hfold.testClosing_both (by rw [hfold.log]; exact hfault)

/-- A lane that nothing holds any more has left (R27). -/
theorem State.faultSettled_empties (hwf : Assoc.wf SlotEntry.free s.log.table = true) (hfault : s.log.state = .logFault)
    (hclosing : (s.lane ℓ).closing = some c) (hrecord : (s.lane ℓ).record = some r) (hdone : s.outcomeDone c = true)
    (hwaits : s.releaseWaiting ℓ = false) (hended : ∀ ch, (s.chan ch).atLane ℓ = true → (s.chan ch).state = .ended) :
    leftUnderFault s s.faultSettled ℓ := by
  obtain ⟨v, hv⟩ : ∃ v, v = ChanId.all.foldl State.finishIfEnded s := ⟨_, rfl⟩
  have hfold : State.LeavesAtMost s v := hv ▸ State.leavesAtMost_foldl hwf hfault ChanId.all
  have hvfault : v.log.state = .logFault := by rw [hfold.log]; exact hfault
  have ha := State.leavesAtMost_testClosing hfold.wf hvfault .a
  have hafault : (v.testClosing .a).log.state = .logFault := by rw [ha.log]; exact hvfault
  have hb := State.leavesAtMost_testClosing ha.wf hafault .b
  have hvchan (ch : ChanId) : v.chan ch = (s.chan ch).finished := by
    rw [hv, State.chan_foldl_finish, if_pos (ChanId.mem_all ch)]
  have hfree (ch : ChanId) : (v.chan ch).atLane ℓ = false := by
    rw [hvchan, Channel.finished, ← Bool.not_eq_true]
    split
    · exact nofun
    · exact fun hch => absurd (hended ch hch) ‹_›
  have hempties (w : State) (hw : State.LeavesAtMost s w) (hwchan : ∀ ch, w.chan ch = v.chan ch) :
      ((w.testClosing ℓ).lane ℓ).closing = none := by
    have hwfault : w.log.state = .logFault := by rw [hw.log]; exact hfault
    rcases hw.lane ℓ with ⟨hlane, hnotice⟩ | hleft
    · refine State.testClosing_empties hwfault (by rw [hlane]; exact hclosing) (by rw [hlane]; exact hrecord) ?_
        (by rw [hw.outcomeDone_eq]; exact hdone) ?_
      · rw [← Bool.not_eq_true, State.laneBusy_iff]
        rintro ⟨ch, hch⟩
        rw [hwchan, hfree] at hch
        cases hch
      · rw [← hwaits, State.releaseWaiting, State.releaseWaiting, hnotice, hlane]
    · rw [State.testClosing_of_no_closing (State.LeavesAtMost.closing_of_left hleft)]
      exact State.LeavesAtMost.closing_of_left hleft
  have hnone : (s.faultSettled.lane ℓ).closing = none := by
    rw [State.faultSettled, ← hv]
    cases ℓ with
    | a =>
      have hother := (State.LaneOp.refl .b (v.testClosing .a)).testClosing.other
      exact (congrArg Lane.closing hother).trans (hempties v hfold fun _ => rfl)
    | b => exact hempties (v.testClosing .a) (hfold.trans ha) fun ch => State.chan_testClosing ch
  refine ((State.leavesAtMost_faultSettled hwf hfault).lane ℓ).resolve_left fun h => ?_
  rw [h.1, hclosing] at hnone
  cases hnone

theorem logFaultReaches_enterLogFault (hwf : Assoc.wf SlotEntry.free s.log.table = true) :
    logFaultReaches s s.enterLogFault := by
  obtain ⟨s1, hs1⟩ : ∃ s1, s1 = s.stopLog := ⟨_, rfl⟩
  obtain ⟨s2, hs2⟩ : ∃ s2, s2 = (s1.laneLogFault .a).laneLogFault .b := ⟨_, rfl⟩
  have heq : s.enterLogFault = s2.faultSettled.attend .logFault := by
    rw [s.enterLogFault_eq, State.faultSettled, ← hs1, ← hs2]
  have hlog2 : s2.log = { s.log with state := .logFault, queue := [], writing := none, pendingMark := none } := by
    rw [hs2, hs1]
    simp [State.stopLog]
  have hline2 : s2.line = s.line := by
    rw [hs2, ((s1.laneLogFault .a).laneFaulted .b).line, (s1.laneFaulted .a).line, hs1]
    rfl
  have hchannels2 : s2.channels = s.channels := by
    rw [hs2, ((s1.laneLogFault .a).laneFaulted .b).channels, (s1.laneFaulted .a).channels, hs1]
    rfl
  have hwf2 : Assoc.wf SlotEntry.free s2.log.table = true := by rw [hlog2]; exact hwf
  have hfault2 : s2.log.state = .logFault := by rw [hlog2]
  have hleaves := State.leavesAtMost_faultSettled hwf2 hfault2
  obtain ⟨t, ht⟩ : ∃ t, t = s2.faultSettled := ⟨_, rfl⟩
  rw [← ht] at heq hleaves
  have hlane (ℓ : LaneId) : s.enterLogFault.lane ℓ = t.lane ℓ := by rw [heq]; rfl
  have htlog : s.enterLogFault.log = t.log := by rw [heq]; rfl
  have hslot (p : Nat) : s.enterLogFault.log.slot p = t.log.slot p := by rw [htlog]
  have hchan2 (c : ChanId) : s2.chan c = s.chan c := by rw [State.chan, State.chan, hchannels2]
  have hchan (c : ChanId) : s.enterLogFault.chan c = (s.chan c).finished := by
    rw [heq, ← hchan2, ← s2.chan_faultSettled, ← ht]
    rfl
  have hslot2 (p : Nat) : s2.log.slot p = s.log.slot p := by rw [hlog2]; rfl
  have hstays : ∀ q, (q, false) ∈ t.attention → (q, false) ∈ s.enterLogFault.attention := fun q hq => by
    rw [heq]
    exact clear_mem_addReasonTo _ hq
  have hboth (ℓ : LaneId) : ∃ u u', u.lane ℓ = s.lane ℓ ∧ u.unit = s.unit ∧ State.LaneFaulted ℓ u u' ∧
      s2.lane ℓ = u'.lane ℓ ∧ ∀ q, (q, false) ∈ u'.attention → (q, false) ∈ s2.attention := by
    obtain ⟨u, u', h1, h2, h3, h4, h5⟩ := s1.laneFaulted_both ℓ
    exact ⟨u, u', h1.trans (by rw [hs1]; rfl), h2.trans (by rw [hs1]; rfl), h3, by rw [hs2]; exact h4, by rw [hs2]; exact h5⟩
  have hkept (ℓ : LaneId) (h : ¬ (s.lane ℓ).takenBack) : s2.lane ℓ = { s.lane ℓ with backlog := [] } := by
    obtain ⟨u, u', h1, -, h3, h4, -⟩ := hboth ℓ
    rw [h4, h3.stays (by rw [h1]; exact h), h1]
  have hgone (ℓ : LaneId) (h : (s.lane ℓ).takenBack) : (s2.lane ℓ).closing = none := by
    obtain ⟨u, u', h1, -, h3, h4, -⟩ := hboth ℓ
    rw [h4, h3.gone (by rw [h1]; exact h)]
  have hstill {ℓ : LaneId} (h : (s2.lane ℓ).closing = none) : t.lane ℓ = s2.lane ℓ := by
    rcases hleaves.lane ℓ with ⟨hsame, -⟩ | ⟨c, r, hclosing, -⟩
    · exact hsame
    · rw [h] at hclosing
      cases hclosing
  have hvoided {ℓ : LaneId} {c : Closing} (hclosing : (s.lane ℓ).closing = some c) (hv : c.outcome = .voided) :
      ¬ (s.lane ℓ).takenBack := by
    rintro ⟨c', hc', hreleased, -⟩
    cases hclosing.symm.trans hc'
    rw [hv] at hreleased
    cases hreleased
  have hnotice2 (p : Place) : s2.noticeAt p = s.noticeAt p := by rw [State.noticeAt, State.noticeAt, hline2]
  have hwaits2 {ℓ : LaneId} (h : s2.lane ℓ = { s.lane ℓ with backlog := [] }) : s2.releaseWaiting ℓ = s.releaseWaiting ℓ := by
    rw [State.releaseWaiting, State.releaseWaiting, hnotice2, h]
  have hleft {ℓ : LaneId} {r : LoadRecord} {c : Closing} (hrecord : (s.lane ℓ).record = some r)
      (hclosing : (s.lane ℓ).closing = some c) (hv : c.outcome = .voided) (hwaits : s.releaseWaiting ℓ = false)
      (hended : ∀ ch, (s.chan ch).atLane ℓ = true → (s.chan ch).state = .ended) :
      leftClosing s t ℓ r c ∧ slotLeft (t.log.slot r.slot) r.seq := by
    have hsame := hkept ℓ (hvoided hclosing hv)
    have hrecord2 : (s2.lane ℓ).record = some r := by rw [hsame]; exact hrecord
    have hclosing2 : (s2.lane ℓ).closing = some c := by rw [hsame]; exact hclosing
    obtain ⟨c', r', hc', hr', -, -, -, h1, h2⟩ := State.faultSettled_empties hwf2 hfault2 hclosing2 hrecord2
      (by simp [State.outcomeDone, hv, hfault2]) ((hwaits2 hsame).trans hwaits)
      (fun ch hch => by rw [hchan2] at hch ⊢; exact hended ch hch)
    cases hclosing2.symm.trans hc'
    cases hrecord2.symm.trans hr'
    rw [← ht] at h1 h2
    exact ⟨h1.congr (by rw [hsame]) (by rw [hsame]), h2⟩
  refine ⟨?_, ?_, ?_, ?_, ?_, fun c hc => ?_, fun c hc => ?_, fun ℓ hclosing => ?_, fun ℓ r c hrecord hclosing hout hwritten => ?_,
    fun ℓ r c hrecord hclosing hv => ⟨fun hwaits hended => ?_, fun hheld => ?_⟩, fun p => ?_,
    fun ℓ r c hrecord hclosing hv hwaits hended => ?_, fun hnone => ?_, ?_⟩
  · rw [htlog, hleaves.log, hlog2]
  · rw [htlog, hleaves.log, hlog2]
  · rw [htlog, hleaves.log, hlog2]
  · rw [htlog, hleaves.log, hlog2]
  · rw [heq]
    exact mem_addReasonTo_self ..
  · rw [hchan, Channel.finished, if_pos hc]
    exact ⟨rfl, rfl⟩
  · rw [hchan, Channel.finished, if_neg hc]
  · have hnot : ¬ (s.lane ℓ).takenBack := fun ⟨c, hc, _⟩ => by
      rw [hclosing] at hc
      cases hc
    rw [hlane, hstill (by rw [hkept ℓ hnot]; exact hclosing), hkept ℓ hnot]
  · have htaken : (s.lane ℓ).takenBack := ⟨c, hclosing, hout, hwritten⟩
    have hsame : s.enterLogFault.lane ℓ = s2.lane ℓ := (hlane ℓ).trans (hstill (hgone ℓ htaken))
    obtain ⟨u, u', h1, h2, h3, h4, h5⟩ := hboth ℓ
    obtain ⟨hback, horder, hbacklog⟩ := h3.back r (by rw [h1]; exact htaken) (by rw [h1]; exact hrecord)
    rw [hsame, h4]
    refine ⟨hback.congr h1.symm h2.symm (hsame.trans h4) fun q hq => hstays q (hleaves.stays q (h5 q hq)), ?_, hbacklog⟩
    rw [horder, h1]
  · exact (hleft hrecord hclosing hv hwaits hended).1.later (hlane ℓ) (by rw [heq]; rfl) hstays
  · rw [hlane]
    have hsame := hkept ℓ (hvoided hclosing hv)
    rcases hleaves.lane ℓ with ⟨h, -⟩ | ⟨c', r', -, -, -, hwaits', hbusy, -⟩
    · rw [h, hsame]
    · exfalso
      rcases hheld with hwaits | ⟨ch, hch, hnot⟩
      · rw [hwaits2 hsame, hwaits] at hwaits'
        cases hwaits'
      · have hstay := hbusy ch
        rw [ht, s2.chan_faultSettled, hchan2, Channel.finished, if_neg hnot, hch] at hstay
        cases hstay
  · rw [hslot]
    rcases hleaves.slots p with h | ⟨ℓ, r, c, hrecord, hclosing, hdone, hp, h⟩
    · exact .inl (h.trans (hslot2 p))
    · right
      have hnot : ¬ (s.lane ℓ).takenBack := fun htaken => by
        rw [hgone ℓ htaken] at hclosing
        cases hclosing
      rw [hkept ℓ hnot] at hrecord hclosing
      rw [hslot2] at h
      refine ⟨ℓ, r, c, hrecord, hclosing, ?_, hp, h⟩
      simp only [State.outcomeDone, Bool.or_eq_true, Bool.and_eq_true, beq_iff_eq] at hdone
      exact hdone.elim .inr fun h' => .inl h'.1
  · rw [hslot]
    exact (hleft hrecord hclosing hv hwaits hended).2
  · have hnone2 (ℓ : LaneId) : (s2.lane ℓ).closing = none := by
      rw [hkept ℓ fun ⟨c, hc, _⟩ => by rw [hnone] at hc; cases hc]
      exact hnone ℓ
    obtain ⟨hline, htable⟩ := hleaves.still hnone2
    refine ⟨?_, ?_⟩
    · rw [heq]
      exact hline.trans hline2
    · rw [heq]
      exact htable.trans (by rw [hlog2])
  · simp

end Fault

end Sys2Proof.Machine

namespace Sys2Proof.Machine

/-! ## Proofs: the memory writes stages and trim marks (chapter 8) -/

section Memory

variable {s t u : State} {ℓ : LaneId}

/-! ### What an area reads as after a write or an erase (R169) -/

theorem normImage_normImage (image : List Byte) : normImage (normImage image) = normImage image := by
  cases h : image.all (· == 0xFF#8) with
  | true =>
    have hblank : normImage image = [] := if_pos h
    rw [hblank]
    rfl
  | false =>
    have hsame : normImage image = image := if_neg (by simp [h])
    rw [hsame, hsame]

theorem readArea_writeArea_ne (m : Assoc (List Byte)) {k key : Nat} (image : List Byte) (h : key ≠ k) :
    readArea (writeArea m k image) key = readArea m key :=
  readArea_eq_of_entriesAt (entriesAt_writeArea m image h)

theorem readArea_clearSlot (m : Assoc (List Byte)) (p key : Nat) :
    readArea (clearSlot m p) key = if key / areasPerSlot = p then [] else readArea m key := by
  by_cases h : key / areasPerSlot = p
  · rw [if_pos h]
    refine readArea_eq_of_entriesAt (m' := []) (List.eq_nil_iff_forall_not_mem.2 fun e he => ?_)
    obtain ⟨hmem, hkey⟩ := mem_entriesAt.1 he
    have hne := (List.mem_filter.1 hmem).2
    rw [hkey] at hne
    exact (bne_iff_ne.1 hne) h
  · rw [if_neg h]
    exact readArea_eq_of_entriesAt (entriesAt_clearSlot_of_ne m h)

/-- A stored stage stands in its area; a HEADER leaves the slot's other areas blank (R169, R178). -/
theorem readArea_storeStage {m : Assoc (List Byte)} (hwf : memoryWf m) (w : StageWrite) (area number key : Nat) :
    readArea (storeStage m w area (w.image number)) key = if key = areaKey w.slot area then w.image number
      else if w.stage.kind = .header ∧ key / areasPerSlot = w.slot then [] else readArea m key := by
  unfold storeStage
  by_cases hheader : w.stage.kind = .header
  · rw [if_pos hheader, readArea_writeArea _ _ _ (clearSlot_wf _ hwf), readArea_clearSlot, StageWrite.image, normImage_normImage]
    simp only [hheader, true_and]
  · rw [if_neg hheader, readArea_writeArea _ _ _ hwf, StageWrite.image, normImage_normImage]
    simp only [hheader, false_and, if_false]

/-- A failed verify leaves every area alone but its own, and a HEADER's the slot's (R169, R178; log entry 6). -/
theorem readArea_failedMemory (n : Nat) (m : Assoc (List Byte)) (w : StageWrite) (area : Nat) (image : List Byte) {key : Nat}
    (hkey : key ≠ areaKey w.slot area) (hslot : w.stage.kind ≠ .header ∨ key / areasPerSlot ≠ w.slot) :
    readArea (failedMemory n m w area image) key = readArea m key := by
  refine (readArea_writeArea_ne _ _ hkey).trans ?_
  split
  · rename_i hheader
    refine readArea_eq_of_entriesAt (entriesAt_cutAreas n _ m fun hmem => ?_)
    exact (hslot.resolve_left fun h => h hheader) (areaKey_lt_slotKeys hmem)
  · rfl

/-! ### The owner of a written stage, while no lane is CLOSING (R178) -/

theorem State.modLane_of_eq {f : Lane → Lane} (h : f (s.lane ℓ) = s.lane ℓ) : s.modLane ℓ f = s := by
  rw [State.modLane, h]
  cases ℓ <;> rfl

theorem State.outcomeWritten_of_no_closing (h : (s.lane ℓ).closing = none) : s.outcomeWritten ℓ = s := by
  have hsame : s.modLane ℓ (fun l => { l with closing := l.closing.map (fun c => { c with written := true }) }) = s := by
    refine State.modLane_of_eq ?_
    rw [h]
    show { s.lane ℓ with closing := none } = s.lane ℓ
    rw [← h]
  rw [State.outcomeWritten, hsame, State.testClosing_of_no_closing h]

/-- The oldest stage of the backlog is passed to the queue, if there is one (R19). -/
theorem State.passBacklog_effect (s : State) (ℓ : LaneId) :
    (s.passBacklog ℓ).log = { s.log with queue := s.log.queue ++ ((s.lane ℓ).backlog.take 1).map (fun st =>
      ⟨(s.lane ℓ).slotOf.1, (s.lane ℓ).slotOf.2, st, .lane ℓ⟩) } ∧
    (s.passBacklog ℓ).lane ℓ = { s.lane ℓ with backlog := (s.lane ℓ).backlog.drop 1 } := by
  unfold State.passBacklog
  cases hbacklog : (s.lane ℓ).backlog with
  | nil =>
    refine ⟨?_, ?_⟩
    · simp
    · show s.lane ℓ = { s.lane ℓ with backlog := [] }
      rw [← hbacklog]
  | cons st rest =>
    refine ⟨?_, ?_⟩
    · simp [State.enqueueStage]
    · show (s.modLane ℓ (fun l => { l with backlog := rest })).lane ℓ = { s.lane ℓ with backlog := rest }
      exact State.lane_modLane_same ..

theorem State.tellWritten_lane {w : StageWrite} (howner : w.owner = .lane ℓ) (hclosing : (s.lane ℓ).closing = none) :
    s.tellWritten w = s.passBacklog ℓ := by
  have hnone : ((s.passBacklog ℓ).lane ℓ).closing = none := by
    rw [(s.passBacklog_effect ℓ).2]
    exact hclosing
  unfold State.tellWritten
  rw [howner]
  dsimp only
  split
  · exact State.outcomeWritten_of_no_closing hnone
  · rfl

theorem State.finishChannel_of_no_closing (h : ∀ ℓ, (s.lane ℓ).closing = none) (c : ChanId) :
    s.finishChannel c = s.idleChannel c := by
  unfold State.finishChannel
  split
  · exact State.testClosing_of_no_closing (h _)
  · rfl

theorem State.tellWritten_channel {w : StageWrite} {c : ChanId} (howner : w.owner = .channel c)
    (h : ∀ ℓ, (s.lane ℓ).closing = none) :
    s.tellWritten w = if (s.chan c).state = .ended then s.idleChannel c else s := by
  unfold State.tellWritten
  rw [howner]
  dsimp only
  rw [State.finishIfEnded, State.finishChannel_of_no_closing h]

/-- What a written stage's owner leaves alone while no lane is CLOSING. -/
theorem State.tellWritten_keeps (h : ∀ ℓ, (s.lane ℓ).closing = none) (w : StageWrite) :
    (s.tellWritten w).log = { s.log with queue := (s.tellWritten w).log.queue } ∧ (s.tellWritten w).line = s.line ∧
      (s.tellWritten w).attention = s.attention := by
  cases howner : w.owner with
  | lane ℓ =>
    rw [State.tellWritten_lane howner (h ℓ), (s.passBacklog_effect ℓ).1]
    exact ⟨rfl, by simp, by simp⟩
  | channel c =>
    rw [State.tellWritten_channel howner h]
    split
    · simp
    · simp

/-! ### LOG_FAULT after a failed write, seen from the state before it -/

theorem logFaultReaches.congr {s' : State} (h : logFaultReaches s t) (hlanes : s'.lanes = s.lanes)
    (hchannels : s'.channels = s.channels) (hline : s'.line = s.line) (htable : s'.log.table = s.log.table)
    (hlists : s'.lists = s.lists) (hview : s'.view = s.view) (hport : s'.port = s.port) (hreleased : s'.released = s.released)
    (hpins : s'.pins = s.pins) (hunit : s'.unit = s.unit) (hpending : s'.pending = s.pending) : logFaultReaches s' t := by
  have hlane (ℓ : LaneId) : s'.lane ℓ = s.lane ℓ := by rw [State.lane, State.lane, hlanes]
  have hchan (c : ChanId) : s'.chan c = s.chan c := by rw [State.chan, State.chan, hchannels]
  have hslot (p : Nat) : s'.log.slot p = s.log.slot p := by rw [DeliveryLog.slot, DeliveryLog.slot, htable]
  have hwaits (ℓ : LaneId) : s'.releaseWaiting ℓ = s.releaseWaiting ℓ := by
    rw [State.releaseWaiting, State.releaseWaiting, hlane, State.noticeAt, State.noticeAt, hline]
  obtain ⟨h1, h2, h3, h4, h5, h6, h7, h8, hback, hvoided, h11, h12, h13, h14⟩ := h
  rw [logFaultReaches, hlists, hview, hport, hreleased, hpins, hunit, hpending, hline, htable]
  simp only [hlane, hchan, hslot, hwaits]
  refine ⟨h1, h2, h3, h4, h5, h6, h7, h8, fun ℓ r c hrecord hclosing hout hwritten => ?_,
    fun ℓ r c hrecord hclosing hv => ?_, h11, h12, h13, h14⟩
  · obtain ⟨hb, hrest⟩ := hback ℓ r c hrecord hclosing hout hwritten
    exact ⟨hb.congr (hlane ℓ) hunit rfl fun _ => id, hrest⟩
  · obtain ⟨hleft, hstays⟩ := hvoided ℓ r c hrecord hclosing hv
    exact ⟨fun hw he => (hleft hw he).congr (by rw [hlane]) (by rw [hlane]), hstays⟩

theorem State.logWriteComplete_failed {w : StageWrite} {rest : List StageWrite} {area number : Nat} {second : Bool}
    (hqueue : s.log.queue = w :: rest) (hreset : s.inReset = false)
    (hwriting : s.log.writing = some (.stage area number second)) :
    exec (.logWriteComplete false) s = .next (s.verifyFailed w area number second) := by
  show execLogWriteComplete false s = _
  simp only [execLogWriteComplete, hqueue, hwriting, hreset]
  rfl

/-- The state after a failed verify, before a second failure is told (R179; log entry 6). -/
def State.failedOnce (s : State) (w : StageWrite) (area number : Nat) : State :=
  (s.setLog { s.log with
    writing := some (.stage area number true)
    memory := failedMemory s.freeCount s.log.memory w area (w.image number) }).nextFree

theorem State.verifyFailed_eq (s : State) (w : StageWrite) (area number : Nat) (second : Bool) :
    s.verifyFailed w area number second = if second then (s.failedOnce w area number).enterLogFault
      else s.failedOnce w area number := rfl

theorem State.failedOnce_frame (s : State) (w : StageWrite) (area number : Nat) :
    (s.failedOnce w area number).lanes = s.lanes ∧ (s.failedOnce w area number).channels = s.channels ∧
    (s.failedOnce w area number).line = s.line ∧ (s.failedOnce w area number).log.table = s.log.table ∧
    (s.failedOnce w area number).lists = s.lists ∧ (s.failedOnce w area number).view = s.view ∧
    (s.failedOnce w area number).port = s.port ∧ (s.failedOnce w area number).released = s.released ∧
    (s.failedOnce w area number).pins = s.pins ∧ (s.failedOnce w area number).unit = s.unit ∧
    (s.failedOnce w area number).pending = s.pending ∧ (s.failedOnce w area number).attention = s.attention := by
  simp [State.failedOnce, State.nextFree]

/-- LOG_FAULT empties the Log Write Queue and stops the writes, whatever the table holds (R180). -/
theorem State.enterLogFault_faulted (s : State) : s.enterLogFault.faulted s.stopLog.log := by
  have hfold (cs : List ChanId) (u : State) (hu : u.faulted s.stopLog.log) :
      (cs.foldl State.finishIfEnded u).faulted s.stopLog.log := by
    induction cs generalizing u with
    | nil => exact hu
    | cons c cs ih => exact ih _ (hu.finishIfEnded c)
  have hlanes := (s.stopLog_faulted.laneLogFault .a).laneLogFault .b
  obtain ⟨w, hw⟩ : ∃ w, w = ChanId.all.foldl State.finishIfEnded ((s.stopLog.laneLogFault .a).laneLogFault .b) := ⟨_, rfl⟩
  have hwfault : w.faulted s.stopLog.log := by
    rw [hw]
    exact hfold ChanId.all _ hlanes
  rw [s.enterLogFault_eq, ← hw]
  exact ((hwfault.testClosing .a).testClosing .b).congr (by simp)

theorem State.logFault_mem_enterLogFault (s : State) : (Reason.logFault, false) ∈ s.enterLogFault.attention := by
  have hself (u : State) : (Reason.logFault, false) ∈ (u.attend .logFault).attention := mem_addReasonTo_self ..
  rw [s.enterLogFault_eq]
  exact hself _

end Memory

section SettleMemory

theorem State.memoryFree_iff {s : State} : s.memoryFree = true ↔ s.inReset = false ∧ s.log.state = .ready ∧
    s.log.writing = none ∧ s.log.pendingMark = none ∧ s.port.reading = none := by
  simp [State.memoryFree, and_assoc]

/-- A stage written while no lane is CLOSING (R169, R178). -/
theorem State.stageWritten {s : State} {w : StageWrite} {rest : List StageWrite} {area number : Nat} {second : Bool}
    (hqueue : s.log.queue = w :: rest) (hreset : s.inReset = false)
    (hwriting : s.log.writing = some (.stage area number second)) (hcanonical : memoryCanonical s)
    (hwf : Assoc.wf SlotEntry.free s.log.table = true) (hnone : ∀ ℓ, (s.lane ℓ).closing = none) :
    ∃ t, exec (.logWriteComplete true) s = .next t ∧
      (∀ key, readArea t.log.memory key =
        if key = areaKey w.slot area then w.image number
        else if w.stage.kind = .header ∧ key / areasPerSlot = w.slot then [] else readArea s.log.memory key) ∧
      (∀ p, t.log.slot p = if p = w.slot then { s.log.slot p with
          next := number + 1
          state := if w.stage.kind = .outcome then .closed else (s.log.slot p).state }
        else s.log.slot p) ∧
      t.log.writing = none ∧ t.log.state = s.log.state ∧
      (∀ ℓ, w.owner = .lane ℓ → t.log.queue = rest ++ ((s.lane ℓ).backlog.take 1).map
          (fun st => ⟨(s.lane ℓ).slotOf.1, (s.lane ℓ).slotOf.2, st, .lane ℓ⟩) ∧
        t.lane ℓ = { s.lane ℓ with backlog := (s.lane ℓ).backlog.drop 1 } ∧ t.channels = s.channels) ∧
      (∀ c, w.owner = .channel c → t.log.queue = rest ∧ t.lanes = s.lanes ∧
        ((s.chan c).state = .ended → t.chan c = { s.chan c with
          state := .idle
          assigned := none
          preset := none
          slow := none
          close := none })) ∧
      t.line = s.line ∧ t.lists = s.lists ∧ t.view = s.view ∧ t.port = s.port ∧ t.attention = s.attention ∧
      sameStation s t := by
  obtain ⟨u, hu⟩ : ∃ u, u = s.setLog (s.log.stored w area number) := ⟨_, rfl⟩
  have hulog : u.log = s.log.stored w area number := by rw [hu]; rfl
  have hulane (ℓ : LaneId) : u.lane ℓ = s.lane ℓ := by rw [hu]; rfl
  have huchan (c : ChanId) : u.chan c = s.chan c := by rw [hu]; rfl
  have hunone (ℓ : LaneId) : (u.lane ℓ).closing = none := by rw [hulane]; exact hnone ℓ
  have huqueue : u.log.queue = rest := by
    rw [hulog]
    show s.log.queue.drop 1 = rest
    rw [hqueue]
    rfl
  obtain ⟨hlog, hline, hattention⟩ := State.tellWritten_keeps hunone w
  refine ⟨u.tellWritten w, by rw [State.logWriteComplete_verified hqueue hreset hwriting, ← hu], fun key => ?_, fun p => ?_, ?_,
    ?_, fun ℓ howner => ?_, fun c howner => ?_, ?_, ?_, ?_, ?_, ?_, ?_⟩
  · rw [hlog, hulog]
    exact readArea_storeStage hcanonical w area number key
  · rw [hlog, hulog]
    refine (DeliveryLog.slot_setSlot _ hwf ..).trans ?_
    by_cases hp : p = w.slot
    · rw [if_pos hp, if_pos hp, hp]
      rfl
    · rw [if_neg hp, if_neg hp]
  · rw [hlog, hulog]
    rfl
  · rw [hlog, hulog]
    rfl
  · rw [State.tellWritten_lane howner (hunone ℓ)]
    obtain ⟨hpassed, hlane⟩ := u.passBacklog_effect ℓ
    rw [hpassed, hlane, hulane]
    refine ⟨congrArg (· ++ _) huqueue, rfl, ?_⟩
    rw [hu]
    simp
  · rw [State.tellWritten_channel howner hunone]
    refine ⟨?_, ?_, fun hended => ?_⟩
    · split <;> simp [huqueue]
    · split <;> simp [hu]
    · rw [huchan, if_pos hended, State.idleChannel, State.chan_modChan_same, huchan]
  · rw [hline, hu]
    rfl
  · simp [hu]
  · simp [hu]
  · simp [hu]
  · rw [hattention, hu]
    rfl
  · simp [hu, sameStation]

/-- Settles O59. -/
theorem logMemoryWritesStages : Obligations.LogMemoryWritesStages := by
  refine ⟨fun s w rest hqueue hreset hstate hwriting hmark hreading => ?_,
    fun s w rest area number second hqueue hreset hwriting hcanonical hwf => ⟨fun hnone =>
      State.stageWritten hqueue hreset hwriting hcanonical hwf hnone, fun hfirst => ?_, fun hsecond => ?_⟩,
    fun s v hreset hmark hwriting => ?_, fun s v second hreset hwriting => ⟨?_, fun hfirst => ?_, fun hsecond => ?_⟩⟩
  · show execLogWriteStart s = _
    rw [execLogWriteStart, hqueue]
    dsimp only
    rw [if_pos (State.memoryFree_iff.2 ⟨hreset, hstate, hwriting, hmark, hreading⟩)]
  · obtain ⟨hlanes, hchannels, hline, -, -, -, hport, -, -, -, -, hattention⟩ := s.failedOnce_frame w area number
    refine ⟨s.failedOnce w area number, ?_, rfl, fun key hkey hslot => ?_, hlanes, hchannels, hattention, hline, hport⟩
    · rw [State.logWriteComplete_failed hqueue hreset hwriting, State.verifyFailed_eq, if_neg (by simp [hfirst])]
    · exact readArea_failedMemory _ _ w area _ hkey hslot
  · obtain ⟨hlanes, hchannels, hline, htable, hlists, hview, hport, hreleased, hpins, hunit, hpending, -⟩ :=
      s.failedOnce_frame w area number
    refine ⟨(s.failedOnce w area number).enterLogFault, ?_, ?_⟩
    · rw [State.logWriteComplete_failed hqueue hreset hwriting, State.verifyFailed_eq, if_pos hsecond]
    · exact (logFaultReaches_enterLogFault (by rw [htable]; exact hwf)).congr hlanes.symm hchannels.symm hline.symm htable.symm
        hlists.symm hview.symm hport.symm hreleased.symm hpins.symm hunit.symm hpending.symm
  · show execTrimMarkWriteStart s = _
    simp only [execTrimMarkWriteStart, hmark, hreset, hwriting]
    rfl
  · show execTrimMarkWriteComplete true s = _
    simp only [execTrimMarkWriteComplete, hwriting, hreset]
    rfl
  · show execTrimMarkWriteComplete false s = _
    simp only [execTrimMarkWriteComplete, hwriting, hreset, hfirst]
    rfl
  · obtain ⟨u, hu⟩ : ∃ u, u = (s.setLog { s.log with
        markImage := failedMark s.freeCount s.log.markImage (markBytes v) }).nextFree := ⟨_, rfl⟩
    have hexec : exec (.trimMarkWriteComplete false) s = .next u.enterLogFault := by
      show execTrimMarkWriteComplete false s = _
      simp only [execTrimMarkWriteComplete, hwriting, hreset, hsecond, hu]
      rfl
    have hlog := u.enterLogFault_faulted.2
    have hmemory : u.log.memory = s.log.memory := by rw [hu]; rfl
    refine ⟨_, hexec, by rw [hlog]; exact hmemory, u.enterLogFault_faulted.1, by rw [hlog]; rfl, by rw [hlog]; rfl,
      u.logFault_mem_enterLogFault, fun hwf => ?_⟩
    have hreaches := logFaultReaches_enterLogFault (s := u) (by rw [hu]; exact hwf)
    exact hreaches.congr (by rw [hu]; rfl) (by rw [hu]; rfl) (by rw [hu]; rfl) (by rw [hu]; rfl) (by rw [hu]; rfl)
      (by rw [hu]; rfl) (by rw [hu]; rfl) (by rw [hu]; rfl) (by rw [hu]; rfl) (by rw [hu]; rfl) (by rw [hu]; rfl)

end SettleMemory

end Sys2Proof.Machine

namespace Sys2Proof.Machine

/-! ## Proofs: the start scan, slot by slot (R188 to R190) -/

section ScanMemory

variable {α : Type}

/-! ### Sparse tables, by part of their keys -/

theorem Assoc.filter_erase (f : Nat × α → Bool) {k : Nat} (h : ∀ v, f (k, v) = false) (m : Assoc α) :
    (Assoc.erase k m).filter f = m.filter f := by
  induction m with
  | nil => rfl
  | cons e m ih =>
    obtain ⟨i, v⟩ := e
    unfold Assoc.erase
    split
    case isTrue hi =>
      subst hi
      rw [List.filter_cons, h v]
      rfl
    · rw [List.filter_cons, List.filter_cons, ih]

theorem Assoc.filter_insert (f : Nat × α → Bool) {k : Nat} (h : ∀ v, f (k, v) = false) (x : α) (m : Assoc α) :
    (Assoc.insert k x m).filter f = m.filter f := by
  induction m with
  | nil => simp [Assoc.insert, h x]
  | cons e m ih =>
    obtain ⟨i, v⟩ := e
    unfold Assoc.insert
    split
    · simp [List.filter_cons, h x]
    split
    case isTrue hi =>
      subst hi
      simp [h x, h v]
    · rw [List.filter_cons, List.filter_cons, ih]

theorem Assoc.filter_put [DecidableEq α] (d : α) (f : Nat × α → Bool) {k : Nat} (h : ∀ v, f (k, v) = false) (x : α)
    (m : Assoc α) : (Assoc.put d k x m).filter f = m.filter f := by
  unfold Assoc.put
  split
  · exact Assoc.filter_erase f h m
  · exact Assoc.filter_insert f h x m

theorem Assoc.get_put_of_ne [DecidableEq α] (d : α) (k j : Nat) {x : α} (m : Assoc α) (hx : x ≠ d) :
    Assoc.get d j (Assoc.put d k x m) = if j = k then x else Assoc.get d j m := by
  rw [Assoc.put, if_neg hx, Assoc.get_insert]

theorem Assoc.mem_insert {k : Nat} {x : α} {m : Assoc α} {e : Nat × α} (h : e ∈ Assoc.insert k x m) :
    e = (k, x) ∨ e ∈ m := by
  induction m with
  | nil => exact .inl (List.mem_singleton.1 h)
  | cons y m ih =>
    unfold Assoc.insert at h
    split at h
    · exact List.mem_cons.1 h
    split at h
    · exact (List.mem_cons.1 h).imp_right (List.mem_cons_of_mem _)
    · obtain rfl | h := List.mem_cons.1 h
      · exact .inr (by simp)
      · exact (ih h).imp_right (List.mem_cons_of_mem _)

/-- What a key reads as is listed there, unless it is what every unlisted key reads as. -/
theorem Assoc.mem_of_get {d : α} {k : Nat} {m : Assoc α} (h : Assoc.get d k m ≠ d) : (k, Assoc.get d k m) ∈ m := by
  induction m with
  | nil => exact absurd rfl h
  | cons e m ih =>
    obtain ⟨i, v⟩ := e
    unfold Assoc.get at h ⊢
    split at h
    case isTrue hi =>
      subst hi
      simp
    case isFalse hi =>
      rw [if_neg hi]
      exact List.mem_cons_of_mem _ (ih h)

/-- In canonical form what is listed at a key is what it reads as. -/
theorem Assoc.get_of_mem [DecidableEq α] {d : α} {m : Assoc α} (hwf : Assoc.wf d m = true) {e : Nat × α} (h : e ∈ m) :
    Assoc.get d e.1 m = e.2 := by
  induction m with
  | nil => cases h
  | cons y m ih =>
    obtain ⟨-, habove, hwf⟩ := (Assoc.wf_cons d y m).1 hwf
    unfold Assoc.get
    obtain rfl | h := List.mem_cons.1 h
    · exact if_pos rfl
    · rw [if_neg (Nat.ne_of_lt (habove e h)), ih hwf h]

theorem Assoc.ne_of_mem [DecidableEq α] {d : α} {m : Assoc α} (hwf : Assoc.wf d m = true) {e : Nat × α} (h : e ∈ m) :
    e.2 ≠ d := by
  induction m with
  | nil => cases h
  | cons y m ih =>
    obtain ⟨hne, -, hwf⟩ := (Assoc.wf_cons d y m).1 hwf
    obtain rfl | h := List.mem_cons.1 h
    · exact hne
    · exact ih hwf h

/-! ### The largest of some numbers -/

theorem foldl_max_spec (xs : List Nat) (n : Nat) :
    (xs.foldl max n = n ∨ xs.foldl max n ∈ xs) ∧ n ≤ xs.foldl max n ∧ ∀ x ∈ xs, x ≤ xs.foldl max n := by
  induction xs generalizing n with
  | nil => exact ⟨.inl rfl, Nat.le_refl _, by simp⟩
  | cons y xs ih =>
    obtain ⟨hmem, hle, hall⟩ := ih (max n y)
    rw [List.foldl_cons]
    refine ⟨?_, by omega, fun x hx => ?_⟩
    · obtain h | h := hmem
      · obtain h' | h' : max n y = n ∨ max n y = y := by omega
        · exact .inl (by rw [h, h'])
        · exact .inr (by rw [h, h']; simp)
      · exact .inr (List.mem_cons_of_mem _ h)
    · obtain rfl | hx := List.mem_cons.1 hx
      · omega
      · exact hall x hx

theorem le_maxOf {xs : List Nat} {x : Nat} (h : x ∈ xs) : x ≤ maxOf xs := (foldl_max_spec xs 0).2.2 x h

theorem maxOf_mem {xs : List Nat} (h : maxOf xs ≠ 0) : maxOf xs ∈ xs := (foldl_max_spec xs 0).1.resolve_left h

theorem maxOf_eq {xs : List Nat} {n : Nat} (hmem : n ∈ xs) (hmax : ∀ x ∈ xs, x ≤ n) : maxOf xs = n := by
  refine Nat.le_antisymm ?_ (le_maxOf hmem)
  by_cases h : maxOf xs = 0
  · omega
  · exact hmax _ (maxOf_mem h)

/-! ### The images of a slot (R169, R188) -/

variable {m : Assoc (List Byte)} {p q : Nat}

theorem slotImages_writeArea_of_ne (m : Assoc (List Byte)) {key : Nat} (image : List Byte) (h : key / areasPerSlot ≠ q) :
    slotImages (writeArea m key image) q = slotImages m q := by
  unfold slotImages writeArea
  rw [Assoc.filter_put [] _ (fun _ => by simpa using h)]

theorem slotImages_foldl_writeArea_of_ne (f : Assoc (List Byte) → Nat → List Byte) (keys : List Nat)
    (m : Assoc (List Byte)) (h : ∀ key ∈ keys, key / areasPerSlot ≠ q) :
    slotImages (keys.foldl (fun acc k => writeArea acc k (f acc k)) m) q = slotImages m q := by
  induction keys generalizing m with
  | nil => rfl
  | cons k ks ih =>
    obtain ⟨hk, hks⟩ := List.forall_mem_cons.1 h
    exact (ih _ hks).trans (slotImages_writeArea_of_ne m _ hk)

theorem slotImages_cutAreas_of_ne (n : Nat) (keys : List Nat) (m : Assoc (List Byte))
    (h : ∀ key ∈ keys, key / areasPerSlot ≠ q) : slotImages (cutAreas n keys m) q = slotImages m q :=
  slotImages_foldl_writeArea_of_ne _ keys m h

theorem slotImages_clearSlot_of_ne (m : Assoc (List Byte)) (h : p ≠ q) : slotImages (clearSlot m p) q = slotImages m q := by
  unfold slotImages clearSlot
  rw [List.filter_filter]
  congr 1
  refine List.filter_congr fun e _ => ?_
  by_cases he : e.1 / areasPerSlot = q
  · simp [he, Ne.symm h]
  · simp [he]

theorem areaKey_injective {p a b : Nat} (h : areaKey p a = areaKey p b) : a = b := by
  unfold areaKey at h
  omega

theorem area_lt_of_mem_slotImages {e : Nat × List Byte} (h : e ∈ slotImages m p) : e.1 < areasPerSlot := by
  obtain ⟨x, -, rfl⟩ := List.mem_map.1 h
  exact Nat.mod_lt _ (by decide)

/-- An area of a slot lists an image exactly where it reads as one. -/
theorem mem_slotImages_iff (hwf : memoryWf m) {area : Nat} {image : List Byte} (harea : area < areasPerSlot) :
    (area, image) ∈ slotImages m p ↔ readArea m (areaKey p area) = image ∧ image ≠ [] := by
  constructor
  · intro h
    have hmem := mem_slotImages h
    exact ⟨Assoc.get_of_mem hwf hmem, Assoc.ne_of_mem hwf hmem⟩
  · rintro ⟨hread, hne⟩
    have hmem : (areaKey p area, image) ∈ m := by
      have := Assoc.mem_of_get (d := []) (k := areaKey p area) (m := m) (by
        rw [← hread] at hne
        exact hne)
      rwa [← readArea, hread] at this
    have := mem_slotImages_of_mem hmem
    rwa [areaKey_mod p harea, areaKey_div p harea] at this

/-- Two memories with the same images of a slot read the same there. -/
theorem readArea_of_slotImages {m' : Assoc (List Byte)} (hwf : memoryWf m) (hwf' : memoryWf m')
    (h : slotImages m' p = slotImages m p) {area : Nat} (harea : area < areasPerSlot) :
    readArea m' (areaKey p area) = readArea m (areaKey p area) := by
  by_cases hne : readArea m (areaKey p area) = []
  · by_contra hdiff
    rw [hne] at hdiff
    have hmem := (mem_slotImages_iff hwf' (p := p) harea).2 ⟨rfl, hdiff⟩
    rw [h] at hmem
    exact hdiff (((mem_slotImages_iff hwf harea).1 hmem).1.symm.trans hne)
  · have hmem := (mem_slotImages_iff hwf (p := p) harea).2 ⟨rfl, hne⟩
    rw [← h] at hmem
    exact ((mem_slotImages_iff hwf' harea).1 hmem).1

/-- A slot without an image reads blank. -/
theorem readArea_of_no_images {key : Nat} (h : slotImages m (key / areasPerSlot) = []) : readArea m key = [] := by
  refine readArea_eq_of_entriesAt (m' := []) (List.eq_nil_iff_forall_not_mem.2 fun e he => ?_)
  obtain ⟨hmem, hkey⟩ := mem_entriesAt.1 he
  have hslot := mem_slotImages_of_mem (key := e.1) (v := e.2) hmem
  rw [hkey, h] at hslot
  cases hslot

theorem verifies_nil : verifies [] = false := by decide

/-! ### The slots that the memory lists anything for -/

theorem slotImages_of_not_used (h : p ∉ usedPositions m) : slotImages m p = [] := by
  refine List.map_eq_nil_iff.2 (List.filter_eq_nil_iff.2 fun e he hp => h ?_)
  exact List.mem_dedup.2 (List.mem_map.2 ⟨e, he, beq_iff_eq.1 hp⟩)

theorem Assoc.pairwise_lt [DecidableEq α] {d : α} {m : Assoc α} (hwf : Assoc.wf d m = true) :
    m.Pairwise (fun x y => x.1 < y.1) := by
  induction m with
  | nil => exact .nil
  | cons e m ih =>
    obtain ⟨-, habove, hwf⟩ := (Assoc.wf_cons d e m).1 hwf
    exact .cons habove (ih hwf)

/-- The scan goes through the slots in rising order. -/
theorem usedPositions_pairwise (hwf : memoryWf m) : (usedPositions m).Pairwise (· < ·) := by
  have hle : (m.map (fun e => e.1 / areasPerSlot)).Pairwise (· ≤ ·) :=
    List.pairwise_map.2 ((Assoc.pairwise_lt hwf).imp fun h => Nat.div_le_div_right (Nat.le_of_lt h))
  have hsub : (usedPositions m).Pairwise (· ≤ ·) := hle.sublist (List.dedup_sublist _)
  exact (hsub.and (List.nodup_dedup _)).imp fun h => Nat.lt_of_le_of_ne h.1 h.2

end ScanMemory

end Sys2Proof.Machine

namespace Sys2Proof.Machine

/-! ## Proofs: what the start scan does at one slot (R188, R189) -/

section ScanSlot

variable {m : Assoc (List Byte)} {mark n p q : Nat} {fault : Option Nat} {acc : ScanState}

/-- The verifying images of a slot. -/
def slotGood (m : Assoc (List Byte)) (p : Nat) : List (Nat × List Byte) := (slotImages m p).filter (fun e => verifies e.2)

/-- The highest sequence number of a slot's verifying images. -/
def slotSeq (m : Assoc (List Byte)) (p : Nat) : Nat := maxOf ((slotGood m p).map (fun e => imageSeq e.2))

/-- The verifying images of that number. -/
def slotOwn (m : Assoc (List Byte)) (p : Nat) : List (Nat × List Byte) :=
  (slotGood m p).filter (fun e => imageSeq e.2 == slotSeq m p)

/-- Their highest stage number. -/
def slotTop (m : Assoc (List Byte)) (p : Nat) : Nat := maxOf ((slotOwn m p).map (fun e => imageStage e.2))

/-- The areas whose failing image lies above that stage number. -/
def slotTorn (m : Assoc (List Byte)) (p : Nat) : List Nat :=
  ((slotImages m p).filter (fun e => !verifies e.2 && decide (slotTop m p < imageStage e.2))).map (fun e => areaKey p e.1)

/-- The slot's last stage is an OUTCOME. -/
def slotComplete (m : Assoc (List Byte)) (p : Nat) : Bool :=
  (slotOwn m p).any (fun e => e.1 == areaOutcome && imageStage e.2 == slotTop m p)

theorem scanSlot_eq (mark n : Nat) (fault : Option Nat) (acc : ScanState) (p : Nat) :
    scanSlot mark n fault acc p =
      if (slotImages acc.memory p).isEmpty then acc
      else if (slotGood acc.memory p).isEmpty then
        if acc.fault then acc
        else if fault = some p then
          { acc with
            fault := true
            memory := cutAreas n ((slotImages acc.memory p).map (fun e => areaKey p e.1)) acc.memory }
        else { acc with memory := clearSlot acc.memory p }
      else if slotSeq acc.memory p ≤ mark then acc
      else if slotComplete acc.memory p then
        { acc with table := Assoc.put .free p ⟨.closed, some (slotSeq acc.memory p), slotTop acc.memory p + 1⟩ acc.table }
      else if acc.fault then
        { acc with table := Assoc.put .free p ⟨.closed, some (slotSeq acc.memory p), slotTop acc.memory p + 1⟩ acc.table }
      else if fault = some p then
        { table := Assoc.put .free p ⟨.closed, some (slotSeq acc.memory p), slotTop acc.memory p + 1⟩ acc.table
          memory := cutAreas n (slotTorn acc.memory p ++ [areaKey p areaOutcome]) acc.memory
          fault := true }
      else
        { table := Assoc.put .free p ⟨.closed, some (slotSeq acc.memory p), slotTop acc.memory p + 2⟩ acc.table
          memory := writeArea ((slotTorn acc.memory p).foldl (fun m k => writeArea m k []) acc.memory) (areaKey p areaOutcome)
            (frameStage StageKind.outcome.code (slotSeq acc.memory p) (slotTop acc.memory p + 1) interruptedContent)
          fault := false } := rfl

/-- The keys of a slot's listed areas are the slot's own. -/
theorem slotImages_keys (f : Nat × List Byte → Bool) {key : Nat}
    (h : key ∈ ((slotImages m p).filter f).map (fun e => areaKey p e.1)) : key / areasPerSlot = p := by
  obtain ⟨e, he, rfl⟩ := List.mem_map.1 h
  exact areaKey_div p (area_lt_of_mem_slotImages (List.mem_filter.1 he).1)

theorem slotTorn_keys {key : Nat} (h : key ∈ slotTorn m p) : key / areasPerSlot = p := slotImages_keys _ h

/-! ### The other slots -/

/-- A slot stands in both states of the scan alike: its place in the table and its images. -/
structure SlotAlike (q : Nat) (a b : ScanState) : Prop where
  slot : Assoc.get SlotEntry.free q b.table = Assoc.get SlotEntry.free q a.table
  images : slotImages b.memory q = slotImages a.memory q

namespace SlotAlike

theorem refl (a : ScanState) : SlotAlike q a a := ⟨rfl, rfl⟩

theorem trans {a b c : ScanState} (h : SlotAlike q a b) (h' : SlotAlike q b c) : SlotAlike q a c :=
  ⟨h'.slot.trans h.slot, h'.images.trans h.images⟩

end SlotAlike

theorem get_closed_put_of_ne (h : q ≠ p) (seq next : Nat) (t : Assoc SlotEntry) :
    Assoc.get SlotEntry.free q (Assoc.put .free p ⟨.closed, some seq, next⟩ t) = Assoc.get .free q t := by
  rw [Assoc.get_put_of_ne _ _ _ _ (by simp [SlotEntry.free]), if_neg h]

/-- The scan of a slot leaves every other slot alone. -/
theorem slotAlike_scanSlot (h : q ≠ p) : SlotAlike q acc (scanSlot mark n fault acc p) := by
  have hne {key : Nat} (hkey : key / areasPerSlot = p) : key / areasPerSlot ≠ q := by
    rw [hkey]
    exact Ne.symm h
  have hout : areaKey p areaOutcome / areasPerSlot = p := areaKey_div p (by decide)
  rw [scanSlot_eq]
  split
  · exact .refl _
  split
  · split
    · exact .refl _
    split
    · refine ⟨rfl, slotImages_cutAreas_of_ne _ _ _ fun key hkey => hne ?_⟩
      obtain ⟨e, he, rfl⟩ := List.mem_map.1 hkey
      exact areaKey_div p (area_lt_of_mem_slotImages he)
    · exact ⟨rfl, slotImages_clearSlot_of_ne _ (Ne.symm h)⟩
  split
  · exact .refl _
  split
  · exact ⟨get_closed_put_of_ne h _ _ _, rfl⟩
  split
  · exact ⟨get_closed_put_of_ne h _ _ _, rfl⟩
  split
  · refine ⟨get_closed_put_of_ne h _ _ _, slotImages_cutAreas_of_ne _ _ _ fun key hkey => hne ?_⟩
    obtain hkey | hkey := List.mem_append.1 hkey
    · exact slotTorn_keys hkey
    · rw [List.mem_singleton.1 hkey, hout]
  · refine ⟨get_closed_put_of_ne h _ _ _, ?_⟩
    dsimp only
    rw [slotImages_writeArea_of_ne _ _ (hne hout)]
    exact slotImages_foldl_writeArea_of_ne (fun _ _ => []) _ _ fun key hkey => hne (slotTorn_keys hkey)

theorem slotAlike_scanSlots {ps : List Nat} (h : q ∉ ps) : SlotAlike q acc (ps.foldl (scanSlot mark n fault) acc) := by
  induction ps generalizing acc with
  | nil => exact .refl _
  | cons p ps ih =>
    rw [List.mem_cons, not_or] at h
    exact (slotAlike_scanSlot h.1).trans (ih h.2)

/-! ### The table (R189, R190) -/

/-- Every place listed is CLOSED under a number above the mark. -/
def tableClosed (mark : Nat) (t : Assoc SlotEntry) : Prop :=
  Assoc.wf SlotEntry.free t = true ∧ ∀ e ∈ t, e.2.state = .closed ∧ ∃ seq, e.2.seq = some seq ∧ mark < seq

theorem tableClosed_put {t : Assoc SlotEntry} (h : tableClosed mark t) {seq : Nat} (hseq : mark < seq) (p next : Nat) :
    tableClosed mark (Assoc.put .free p ⟨.closed, some seq, next⟩ t) := by
  refine ⟨Assoc.wf_put _ _ _ _ h.1, fun e he => ?_⟩
  rw [Assoc.put, if_neg (by simp [SlotEntry.free])] at he
  obtain rfl | he := Assoc.mem_insert he
  · exact ⟨rfl, seq, rfl, hseq⟩
  · exact h.2 e he

theorem tableClosed_scanSlot (h : tableClosed mark acc.table) : tableClosed mark (scanSlot mark n fault acc p).table := by
  rw [scanSlot_eq]
  split
  · exact h
  split
  · split
    · exact h
    split
    · exact h
    · exact h
  split
  · exact h
  case isFalse hseq =>
    have hput := fun next => tableClosed_put h (Nat.lt_of_not_le hseq) p next
    split
    · exact hput _
    split
    · exact hput _
    split
    · exact hput _
    · exact hput _

theorem tableClosed_scanSlots (ps : List Nat) (h : tableClosed mark acc.table) :
    tableClosed mark (ps.foldl (scanSlot mark n fault) acc).table := by
  induction ps generalizing acc with
  | nil => exact h
  | cons p ps ih => exact ih (tableClosed_scanSlot h)

/-! ### The write that fails (R189) -/

theorem scanSlot_fault_stays (h : acc.fault = true) : (scanSlot mark n fault acc p).fault = true := by
  rw [scanSlot_eq, if_pos h, if_pos h]
  repeat' split
  all_goals exact h

theorem scanSlot_fault (h : (scanSlot mark n fault acc p).fault = true) : acc.fault = true ∨ fault = some p := by
  by_contra hnone
  obtain ⟨hacc, hat⟩ := not_or.1 hnone
  rw [scanSlot_eq, if_neg hacc, if_neg hacc, if_neg hat, if_neg hat] at h
  repeat' split at h
  all_goals first
    | exact hacc h
    | cases h

theorem scanSlots_fault_stays (ps : List Nat) (h : acc.fault = true) :
    (ps.foldl (scanSlot mark n fault) acc).fault = true := by
  induction ps generalizing acc with
  | nil => exact h
  | cons p ps ih => exact ih (scanSlot_fault_stays h)

theorem scanSlots_fault {ps : List Nat} (h : (ps.foldl (scanSlot mark n fault) acc).fault = true) :
    acc.fault = true ∨ ∃ f ∈ ps, fault = some f := by
  induction ps generalizing acc with
  | nil => exact .inl h
  | cons p ps ih =>
    obtain h | ⟨f, hf, heq⟩ := ih h
    · exact (scanSlot_fault h).imp_right fun heq => ⟨p, by simp, heq⟩
    · exact .inr ⟨f, List.mem_cons_of_mem _ hf, heq⟩

/-! ### The scan up to a slot, the slot, and the scan after it -/

/-- The scan reaches the slot in the state `a`, in which it stands as in the memory at the start; `b` is what it makes of the
slot, and stands there to the end. -/
structure ScanAt (mark n : Nat) (fault : Option Nat) (m : Assoc (List Byte)) (p : Nat) (a : ScanState) : Prop where
  free : Assoc.get SlotEntry.free p a.table = .free
  images : slotImages a.memory p = slotImages m p
  wf : memoryWf a.memory
  after : SlotAlike p (scanSlot mark n fault a p) (scanAll mark n fault m)
  writes : ((scanAll mark n fault m).fault = false ∨ ∃ f, fault = some f ∧ p < f) ↔
    (scanSlot mark n fault a p).fault = false

theorem scanAt_of_used (mark n : Nat) (fault : Option Nat) (hwf : memoryWf m) (hp : p ∈ usedPositions m) :
    ∃ a, ScanAt mark n fault m p a := by
  obtain ⟨before, after, hsplit⟩ := List.append_of_mem hp
  have hrise := usedPositions_pairwise hwf
  rw [hsplit] at hrise
  obtain ⟨-, htail, hbefore⟩ := List.pairwise_append.1 hrise
  have hafter := (List.pairwise_cons.1 htail).1
  have hlow : ∀ x ∈ before, x < p := fun x hx => hbefore x hx p (by simp)
  obtain ⟨a, ha⟩ : ∃ a, a = before.foldl (scanSlot mark n fault) ⟨[], m, false⟩ := ⟨_, rfl⟩
  have hall : scanAll mark n fault m = after.foldl (scanSlot mark n fault) (scanSlot mark n fault a p) := by
    rw [scanAll, hsplit, List.foldl_append, List.foldl_cons, ← ha]
  have hreach : SlotAlike p ⟨[], m, false⟩ a := by
    rw [ha]
    exact slotAlike_scanSlots fun h => Nat.lt_irrefl _ (hlow p h)
  refine ⟨a, ⟨hreach.slot, hreach.images, ?_, ?_, ?_⟩⟩
  · rw [ha]
    exact scanSlots_wf _ _ _ _ _ hwf
  · rw [hall]
    exact slotAlike_scanSlots fun h => Nat.lt_irrefl _ (hafter p h)
  · rw [hall]
    constructor
    · intro h
      by_contra hfault
      have hfault : (scanSlot mark n fault a p).fault = true := by simpa using hfault
      have hend := scanSlots_fault_stays (mark := mark) (n := n) (fault := fault) after hfault
      obtain h | ⟨f, heq, hlt⟩ := h
      · rw [h] at hend
        cases hend
      · obtain hbefore | hself := scanSlot_fault hfault
        · rw [ha] at hbefore
          obtain h | ⟨g, hg, heq'⟩ := scanSlots_fault hbefore
          · cases h
          · have := hlow g hg
            rw [heq] at heq'
            cases heq'
            omega
        · rw [heq] at hself
          cases hself
          omega
    · intro h
      by_cases hend : (after.foldl (scanSlot mark n fault) (scanSlot mark n fault a p)).fault = true
      · obtain h' | ⟨f, hf, heq⟩ := scanSlots_fault hend
        · rw [h] at h'
          cases h'
        · exact .inr ⟨f, heq, hafter f hf⟩
      · exact .inl (by simpa using hend)

theorem scanAll_of_not_used (mark n : Nat) (fault : Option Nat) (hp : p ∉ usedPositions m) :
    SlotAlike p ⟨[], m, false⟩ (scanAll mark n fault m) := slotAlike_scanSlots hp

end ScanSlot

end Sys2Proof.Machine

namespace Sys2Proof.Machine

/-! ## Proofs: the start scan ends (R188 to R190, R204) -/

section ScanEnd

variable {m : Assoc (List Byte)} {mark n p seq top : Nat} {fault : Option Nat} {a : ScanState} {s t : State}

/-! ### The newest stage of a slot (R188, R189) -/

theorem mem_slotGood (hwf : memoryWf s.log.memory) {e : Nat × List Byte} :
    e ∈ slotGood s.log.memory p ↔ readArea s.log.memory (areaKey p e.1) = e.2 ∧
      stageVerifies s p (imageSeq e.2) (imageStage e.2) e.1 := by
  obtain ⟨area, image⟩ := e
  constructor
  · intro h
    obtain ⟨hmem, hverifies⟩ := List.mem_filter.1 h
    have harea := area_lt_of_mem_slotImages hmem
    obtain ⟨hread, -⟩ := (mem_slotImages_iff hwf harea).1 hmem
    exact ⟨hread, harea, by rw [hread]; exact hverifies, by rw [hread], by rw [hread]⟩
  · rintro ⟨hread, harea, hverifies, -, -⟩
    dsimp only at hread harea hverifies
    rw [hread] at hverifies
    refine List.mem_filter.2 ⟨(mem_slotImages_iff hwf harea).2 ⟨hread, fun hnil => ?_⟩, hverifies⟩
    rw [hnil, verifies_nil] at hverifies
    cases hverifies

theorem stageVerifies.mem_slotGood {sq k area : Nat} (hwf : memoryWf s.log.memory) (h : stageVerifies s p sq k area) :
    ∃ e ∈ slotGood s.log.memory p, e.1 = area ∧ imageSeq e.2 = sq ∧ imageStage e.2 = k := by
  obtain ⟨harea, hverifies, rfl, rfl⟩ := h
  exact ⟨(area, readArea s.log.memory (areaKey p area)), (Machine.mem_slotGood hwf).2 ⟨rfl, harea, hverifies, rfl, rfl⟩,
    rfl, rfl, rfl⟩

theorem newestStage.slotSeq (hwf : memoryWf s.log.memory) (h : newestStage s p seq top) :
    slotSeq s.log.memory p = seq := by
  obtain ⟨⟨area, hstage⟩, hmax⟩ := h
  obtain ⟨e, he, -, hseq, -⟩ := hstage.mem_slotGood hwf
  refine maxOf_eq (List.mem_map.2 ⟨e, he, hseq⟩) fun x hx => ?_
  obtain ⟨y, hy, rfl⟩ := List.mem_map.1 hx
  have := hmax _ _ _ ((Machine.mem_slotGood hwf).1 hy).2
  omega

theorem newestStage.mem_slotOwn (hwf : memoryWf s.log.memory) (h : newestStage s p seq top) {e : Nat × List Byte} :
    e ∈ slotOwn s.log.memory p ↔ e ∈ slotGood s.log.memory p ∧ imageSeq e.2 = seq := by
  rw [slotOwn, List.mem_filter, h.slotSeq hwf, beq_iff_eq]

theorem newestStage.slotTop (hwf : memoryWf s.log.memory) (h : newestStage s p seq top) :
    slotTop s.log.memory p = top := by
  obtain ⟨⟨area, hstage⟩, hmax⟩ := id h
  obtain ⟨e, he, -, hseq, htop⟩ := hstage.mem_slotGood hwf
  refine maxOf_eq (List.mem_map.2 ⟨e, (h.mem_slotOwn hwf).2 ⟨he, hseq⟩, htop⟩) fun x hx => ?_
  obtain ⟨y, hy, rfl⟩ := List.mem_map.1 hx
  obtain ⟨hy, hyseq⟩ := (h.mem_slotOwn hwf).1 hy
  have := hmax _ _ _ ((Machine.mem_slotGood hwf).1 hy).2
  omega

theorem newestStage.slotComplete_iff (hwf : memoryWf s.log.memory) (h : newestStage s p seq top) :
    slotComplete s.log.memory p = true ↔ stageVerifies s p seq top areaOutcome := by
  rw [slotComplete, List.any_eq_true]
  constructor
  · rintro ⟨e, he, htest⟩
    obtain ⟨harea, htop⟩ := Bool.and_eq_true_iff.1 htest
    rw [h.slotTop hwf, beq_iff_eq] at htop
    obtain ⟨hgood, hseq⟩ := (h.mem_slotOwn hwf).1 he
    have hstage := ((Machine.mem_slotGood hwf).1 hgood).2
    rwa [hseq, htop, beq_iff_eq.1 harea] at hstage
  · intro hstage
    obtain ⟨e, he, harea, hseq, htop⟩ := hstage.mem_slotGood hwf
    exact ⟨e, (h.mem_slotOwn hwf).2 ⟨he, hseq⟩, by simp [harea, htop, h.slotTop hwf]⟩

theorem newestStage.mem_slotTorn (hwf : memoryWf s.log.memory) (h : newestStage s p seq top) {area : Nat}
    (harea : area < areasPerSlot) : areaKey p area ∈ slotTorn s.log.memory p ↔ tornAbove s p area top = true := by
  unfold slotTorn
  rw [h.slotTop hwf, List.mem_map]
  constructor
  · rintro ⟨e, he, hkey⟩
    obtain ⟨hmem, htest⟩ := List.mem_filter.1 he
    obtain ⟨hread, hne⟩ := (mem_slotImages_iff hwf (area_lt_of_mem_slotImages hmem)).1 hmem
    rw [hkey] at hread
    simpa [tornAbove, hread, hne] using htest
  · intro htorn
    refine ⟨(area, readArea s.log.memory (areaKey p area)), List.mem_filter.2 ⟨?_, ?_⟩, rfl⟩
    · exact (mem_slotImages_iff hwf harea).2 ⟨rfl, by simp [tornAbove] at htorn; exact htorn.1.1⟩
    · simp [tornAbove] at htorn ⊢
      exact ⟨htorn.1.2, htorn.2⟩

theorem newestStage.slotGood_ne (hwf : memoryWf s.log.memory) (h : newestStage s p seq top) :
    (slotGood s.log.memory p).isEmpty = false := by
  obtain ⟨⟨area, hstage⟩, -⟩ := h
  obtain ⟨e, he, -⟩ := hstage.mem_slotGood hwf
  cases hgood : slotGood s.log.memory p with
  | nil => rw [hgood] at he; cases he
  | cons => rfl

theorem slotImages_ne (h : (slotGood m p).isEmpty = false) : (slotImages m p).isEmpty = false := by
  cases himages : slotImages m p with
  | nil => rw [slotGood, himages] at h; cases h
  | cons => rfl

/-- The scan of a slot with a newest stage, from a state in which the slot stands as in the memory at the start. -/
theorem newestStage.scanSlot_eq (hwf : memoryWf s.log.memory) (h : newestStage s p seq top)
    (himages : slotImages a.memory p = slotImages s.log.memory p) :
    scanSlot mark n fault a p =
      if seq ≤ mark then a
      else if slotComplete s.log.memory p = true ∨ a.fault = true then
        { a with table := Assoc.put .free p ⟨.closed, some seq, top + 1⟩ a.table }
      else if fault = some p then
        { table := Assoc.put .free p ⟨.closed, some seq, top + 1⟩ a.table
          memory := cutAreas n (slotTorn s.log.memory p ++ [areaKey p areaOutcome]) a.memory
          fault := true }
      else
        { table := Assoc.put .free p ⟨.closed, some seq, top + 2⟩ a.table
          memory := writeArea ((slotTorn s.log.memory p).foldl (fun m k => writeArea m k []) a.memory)
            (areaKey p areaOutcome) (frameStage 6 seq (top + 1) interruptedContent)
          fault := false } := by
  have hgood : slotGood a.memory p = slotGood s.log.memory p := by simp only [slotGood, himages]
  have hseq : Machine.slotSeq a.memory p = seq := by rw [Machine.slotSeq, hgood]; exact h.slotSeq hwf
  have hown : slotOwn a.memory p = slotOwn s.log.memory p := by
    simp only [slotOwn, hgood, hseq, h.slotSeq hwf]
  have htop : Machine.slotTop a.memory p = top := by rw [Machine.slotTop, hown]; exact h.slotTop hwf
  have htorn : slotTorn a.memory p = slotTorn s.log.memory p := by simp only [slotTorn, himages, htop, h.slotTop hwf]
  have hcomplete : slotComplete a.memory p = slotComplete s.log.memory p := by
    simp only [slotComplete, hown, htop, h.slotTop hwf]
  have hne := h.slotGood_ne hwf
  rw [Machine.scanSlot_eq, hgood, hseq, htop, htorn, hcomplete, himages, if_neg (by simp [slotImages_ne hne]),
    if_neg (by simp [hne]), show StageKind.outcome.code = 6 from rfl]
  cases slotComplete s.log.memory p with
  | true => simp
  | false => simp

/-! ### What the whole scan makes of a slot -/

namespace ScanAt

theorem kept (hwf : memoryWf m) (h : ScanAt mark n fault m p a)
    (hsame : (scanSlot mark n fault a p).memory = a.memory) {area : Nat} (harea : area < areasPerSlot) :
    readArea (scanAll mark n fault m).memory (areaKey p area) = readArea m (areaKey p area) :=
  readArea_of_slotImages hwf (scanSlots_wf _ _ _ _ _ hwf) (h.after.images.trans (by rw [hsame, h.images])) harea

theorem read (hwf : memoryWf m) (h : ScanAt mark n fault m p a) {area : Nat} (harea : area < areasPerSlot) :
    readArea (scanAll mark n fault m).memory (areaKey p area) =
      readArea (scanSlot mark n fault a p).memory (areaKey p area) :=
  readArea_of_slotImages (scanSlot_wf _ _ _ _ _ h.wf) (scanSlots_wf _ _ _ _ _ hwf) h.after.images harea

/-- The slot's place in the table where the scan lists it. -/
theorem slot_of_put (h : ScanAt mark n fault m p a) {sq next : Nat}
    (hput : (scanSlot mark n fault a p).table = Assoc.put .free p ⟨.closed, some sq, next⟩ a.table) :
    Assoc.get SlotEntry.free p (scanAll mark n fault m).table = ⟨.closed, some sq, next⟩ := by
  rw [h.after.slot, hput, Assoc.get_put_of_ne _ _ _ _ (by simp [SlotEntry.free]), if_pos rfl]

end ScanAt

theorem readArea_blanked {keys : List Nat} (hwf : memoryWf m) (key : Nat) :
    readArea (keys.foldl (fun m k => writeArea m k []) m) key = if key ∈ keys then [] else readArea m key := by
  induction keys generalizing m with
  | nil => simp
  | cons k ks ih =>
    rw [List.foldl_cons, ih (writeArea_wf k [] hwf), readArea_writeArea k key [] hwf]
    by_cases hk : key = k
    · simp [hk, normImage]
    · simp [hk]

/-! ### The scan of the log -/

theorem newestStage.used (hwf : memoryWf s.log.memory) (h : newestStage s p seq top) : p ∈ usedPositions s.log.memory := by
  by_contra hp
  have := h.slotGood_ne hwf
  rw [slotGood, slotImages_of_not_used hp] at this
  cases this

/-- What the scan makes of a slot with a newest stage, by its number against the mark, its last stage and the write. -/
theorem newestStage.scanned (hwf : memoryWf s.log.memory) (h : newestStage s p seq top) {r : ScanState}
    (hr : r = scanAll mark n fault s.log.memory) :
    (seq ≤ mark → Assoc.get .free p r.table = SlotEntry.free ∧
      ∀ area, area < areasPerSlot → readArea r.memory (areaKey p area) = readArea s.log.memory (areaKey p area)) ∧
    (mark < seq → stageVerifies s p seq top areaOutcome → Assoc.get .free p r.table = ⟨.closed, some seq, top + 1⟩ ∧
      ∀ area, area < areasPerSlot → readArea r.memory (areaKey p area) = readArea s.log.memory (areaKey p area)) ∧
    (mark < seq → ¬ stageVerifies s p seq top areaOutcome →
      ((r.fault = false ∨ ∃ f, fault = some f ∧ p < f) → Assoc.get .free p r.table = ⟨.closed, some seq, top + 2⟩ ∧
        ∀ area, area < areasPerSlot → readArea r.memory (areaKey p area) =
          if area = areaOutcome then normImage (frameStage 6 seq (top + 1) interruptedContent)
          else if tornAbove s p area top then [] else readArea s.log.memory (areaKey p area)) ∧
      (¬ (r.fault = false ∨ ∃ f, fault = some f ∧ p < f) → Assoc.get .free p r.table = ⟨.closed, some seq, top + 1⟩ ∧
        (fault ≠ some p → ∀ area, area < areasPerSlot →
          readArea r.memory (areaKey p area) = readArea s.log.memory (areaKey p area)))) := by
  subst hr
  obtain ⟨a, hat⟩ := scanAt_of_used mark n fault hwf (h.used hwf)
  have hstep := h.scanSlot_eq (mark := mark) (n := n) (fault := fault) hwf hat.images
  simp only [← h.slotComplete_iff hwf]
  refine ⟨fun hle => ?_, fun hlt hdone => ?_, fun hlt hdone => ⟨fun hwrites => ?_, fun hstops => ?_⟩⟩
  · rw [if_pos hle] at hstep
    exact ⟨by rw [hat.after.slot, hstep, hat.free], fun area => hat.kept hwf (by rw [hstep])⟩
  · rw [if_neg (by omega), if_pos (.inl hdone)] at hstep
    exact ⟨hat.slot_of_put (by rw [hstep]), fun area => hat.kept hwf (by rw [hstep])⟩
  · have hfault := hat.writes.1 hwrites
    have hbefore : a.fault = false := by
      by_contra hbefore
      rw [scanSlot_fault_stays (by simpa using hbefore)] at hfault
      cases hfault
    have hnot : fault ≠ some p := by
      intro heq
      rw [hstep, if_neg (by omega), if_neg (by simp [hdone, hbefore]), if_pos heq] at hfault
      cases hfault
    rw [if_neg (by omega), if_neg (by simp [hdone, hbefore]), if_neg hnot] at hstep
    refine ⟨hat.slot_of_put (by rw [hstep]), fun area harea => ?_⟩
    rw [hat.read hwf harea, hstep]
    dsimp only
    rw [readArea_writeArea _ _ _ (foldl_writeArea_wf _ _ hat.wf), readArea_blanked hat.wf,
      readArea_of_slotImages hwf hat.wf hat.images harea]
    simp only [h.mem_slotTorn hwf harea]
    exact if_congr ⟨areaKey_injective, congrArg _⟩ rfl rfl
  · have hfault : (scanSlot mark n fault a p).fault = true := by
      by_contra hfault
      exact hstops (hat.writes.2 (by simpa using hfault))
    by_cases hbefore : a.fault = true
    · rw [if_neg (by omega), if_pos (.inr hbefore)] at hstep
      exact ⟨hat.slot_of_put (by rw [hstep]), fun _ area => hat.kept hwf (by rw [hstep])⟩
    · have heq := (scanSlot_fault hfault).resolve_left hbefore
      rw [if_neg (by omega), if_neg (by simp [hdone, hbefore]), if_pos heq] at hstep
      exact ⟨hat.slot_of_put (by rw [hstep]), fun hne => absurd heq hne⟩

/-- A slot without a verifying stage is FREE, and blank where the scan still writes. -/
theorem scanned_of_no_stage (hwf : memoryWf s.log.memory) (hnone : ∀ sq k area, ¬ stageVerifies s p sq k area)
    {r : ScanState} (hr : r = scanAll mark n fault s.log.memory) :
    Assoc.get .free p r.table = SlotEntry.free ∧
    ((r.fault = false ∨ ∃ f, fault = some f ∧ p < f) → ∀ area, area < areasPerSlot →
      readArea r.memory (areaKey p area) = []) := by
  subst hr
  by_cases hp : p ∈ usedPositions s.log.memory
  · obtain ⟨a, hat⟩ := scanAt_of_used mark n fault hwf hp
    have hgood : slotGood a.memory p = [] := by
      refine List.eq_nil_iff_forall_not_mem.2 fun e he => hnone _ _ _ ((mem_slotGood hwf (e := e)).1 ?_).2
      rwa [slotGood, hat.images] at he
    have hstep := scanSlot_eq mark n fault a p
    rw [if_pos (by simp [hgood] : (slotGood a.memory p).isEmpty = true)] at hstep
    refine ⟨?_, fun hwrites area harea => ?_⟩
    · rw [hat.after.slot, hstep]
      repeat' split
      all_goals exact hat.free
    · have hfault := hat.writes.1 hwrites
      rw [hat.read hwf harea]
      by_cases hempty : (slotImages a.memory p).isEmpty = true
      · rw [hstep, if_pos hempty]
        exact readArea_of_no_images (by rw [areaKey_div p harea]; exact List.isEmpty_iff.1 hempty)
      · rw [if_neg hempty] at hstep
        by_cases hbefore : a.fault = true
        · rw [scanSlot_fault_stays hbefore] at hfault
          cases hfault
        · by_cases heq : fault = some p
          · rw [hstep, if_neg hbefore, if_pos heq] at hfault
            cases hfault
          · rw [hstep, if_neg hbefore, if_neg heq]
            exact (readArea_clearSlot _ _ _).trans (if_pos (areaKey_div p harea))
  · have hsame := scanAll_of_not_used mark n fault hp
    refine ⟨hsame.slot, fun _ area harea => readArea_of_no_images ?_⟩
    rw [areaKey_div p harea, hsame.images]
    exact slotImages_of_not_used hp

end ScanEnd

end Sys2Proof.Machine

namespace Sys2Proof.Machine

section ScanEndSettles

variable {s t : State} {fault : Option Nat}

/-! ### The log at the end of its scan (R170, R187, R190) -/

theorem tableClosed_scanned (s : State) (fault : Option Nat) :
    tableClosed (readMark s.log.markImage) (s.log.scanned s.freeCount fault).table :=
  tableClosed_scanSlots (usedPositions s.log.memory) ⟨rfl, by simp⟩

/-- A place of the table after the scan: what the table lists there is CLOSED, above the mark and below the counter. -/
theorem DeliveryLog.scanned_slot (l : DeliveryLog) (n : Nat) (fault : Option Nat)
    (hclosed : tableClosed (readMark l.markImage) (l.scanned n fault).table) (p : Nat) :
    (l.scanned n fault).slot p = .free ∨ ∃ seq, ((l.scanned n fault).slot p).state = .closed ∧
      ((l.scanned n fault).slot p).seq = some seq ∧ readMark l.markImage < seq ∧ seq < (l.scanned n fault).nextSeq := by
  by_cases hfree : (l.scanned n fault).slot p = .free
  · exact .inl hfree
  · have hmem := Assoc.mem_of_get hfree
    obtain ⟨hstate, seq, hseq, hmark⟩ := hclosed.2 _ hmem
    have hle := le_maxOf (List.mem_map.2 ⟨_, hmem, by rw [hseq]; rfl⟩ :
      seq ∈ (l.scanned n fault).table.map (fun e => e.2.seq.getD 0))
    refine .inr ⟨seq, hstate, hseq, hmark, ?_⟩
    show seq < max (maxOf ((l.scanned n fault).table.map (fun e => e.2.seq.getD 0))) (readMark l.markImage) + 1
    omega

/-- The counter stands just above the highest number placed, or above the mark (R190). -/
theorem DeliveryLog.scanned_nextSeq (l : DeliveryLog) (n : Nat) (fault : Option Nat)
    (hclosed : tableClosed (readMark l.markImage) (l.scanned n fault).table) :
    (l.scanned n fault).nextSeq = readMark l.markImage + 1 ∨
      ∃ p, ((l.scanned n fault).slot p).seq = some ((l.scanned n fault).nextSeq - 1) := by
  have hnext : (l.scanned n fault).nextSeq =
      max (maxOf ((l.scanned n fault).table.map (fun e => e.2.seq.getD 0))) (readMark l.markImage) + 1 := rfl
  by_cases hle : maxOf ((l.scanned n fault).table.map (fun e => e.2.seq.getD 0)) ≤ readMark l.markImage
  · exact .inl (by rw [hnext, Nat.max_eq_right hle])
  · obtain ⟨e, he, hmax⟩ := List.mem_map.1 (maxOf_mem (by omega :
      maxOf ((l.scanned n fault).table.map (fun e => e.2.seq.getD 0)) ≠ 0))
    obtain ⟨-, seq, hseq, -⟩ := hclosed.2 e he
    refine .inr ⟨e.1, ?_⟩
    rw [DeliveryLog.slot, Assoc.get_of_mem hclosed.1 he, hnext, Nat.max_eq_left (by omega), ← hmax, hseq]
    rfl

theorem DeliveryLog.scanned_state (l : DeliveryLog) (n : Nat) (fault : Option Nat) :
    (l.scanned n fault).state = .ready ↔ (scanAll (readMark l.markImage) n fault l.memory).fault = false := by
  show (if (scanAll (readMark l.markImage) n fault l.memory).fault then LogState.logFault else .ready) = .ready ↔ _
  cases (scanAll (readMark l.markImage) n fault l.memory).fault <;> simp

theorem DeliveryLog.scanned_fault (l : DeliveryLog) (n : Nat) (fault : Option Nat)
    (h : (l.scanned n fault).state ≠ .ready) : (l.scanned n fault).state = .logFault ∧ fault ≠ none := by
  rw [ne_eq, l.scanned_state n fault, Bool.not_eq_false] at h
  constructor
  · show (if (scanAll (readMark l.markImage) n fault l.memory).fault then LogState.logFault else .ready) = .logFault
    rw [if_pos h]
  · rintro rfl
    obtain h | ⟨_, -, h⟩ := scanSlots_fault h
    · cases h
    · cases h

/-! ### The state at the end of the scan (R187, R190) -/

/-- The scan's results stand, with the attention they add. -/
structure State.ScanEnded (s : State) (fault : Option Nat) (t : State) : Prop where
  log : t.log = s.log.scanned s.freeCount fault
  low : t.log.freeSlots < 32 → (Reason.logLow, false) ∈ t.attention
  faulted : t.log.state = .logFault → (Reason.logFault, false) ∈ t.attention

theorem State.scanEnded (s : State) (fault : Option Nat) : s.ScanEnded fault (s.endScan fault) := by
  obtain ⟨u, hu⟩ : ∃ u, u = (s.setLog (s.log.scanned s.freeCount fault)).nextFree := ⟨_, rfl⟩
  have hlog : u.log = s.log.scanned s.freeCount fault := by rw [hu]; rfl
  obtain ⟨v, hv⟩ : ∃ v, v = if u.log.freeSlots < 32 then u.attend .logLow else u := ⟨_, rfl⟩
  have hvlog : v.log = u.log := by
    rw [hv]
    split <;> rfl
  have hvlow : u.log.freeSlots < 32 → (Reason.logLow, false) ∈ v.attention := fun h => by
    rw [hv, if_pos h]
    exact mem_addReasonTo_self ..
  have hend : s.endScan fault = if v.log.state = .logFault then v.attend .logFault else v := by
    subst hv
    subst hu
    rfl
  rw [hend]
  split
  case isTrue hfault =>
    exact ⟨hvlog.trans hlog, fun h => mem_addReasonTo_of_mem (hvlow (hvlog ▸ h)) (by simp), fun _ => mem_addReasonTo_self ..⟩
  case isFalse hfault =>
    exact ⟨hvlog.trans hlog, fun h => hvlow (hvlog ▸ h), fun h => absurd h hfault⟩

theorem State.ScanEnded.congr (h : s.ScanEnded fault t) {u : State} (hlog : u.log = t.log)
    (hattention : u.attention = t.attention) : s.ScanEnded fault u := by
  obtain ⟨h1, h2, h3⟩ := h
  exact ⟨hlog.trans h1, by rwa [hlog, hattention], by rwa [hlog, hattention]⟩

/-- The scan writes at a slot in the sense of `scanWrites`, told by the scan's own fault. -/
theorem State.ScanEnded.scanWrites_iff (h : s.ScanEnded fault t) (p : Nat) :
    scanWrites fault t p ↔ (scanAll (readMark s.log.markImage) s.freeCount fault s.log.memory).fault = false ∨
      ∃ f, fault = some f ∧ p < f := by
  rw [scanWrites, h.log, DeliveryLog.scanned_state]

/-- What the scan makes of a slot with a newest stage, told by the state at its end (R188, R189). -/
theorem State.ScanEnded.newest (h : s.ScanEnded fault t) (hwf : memoryCanonical s) {p seq top : Nat}
    (hnew : newestStage s p seq top) :
    (seq ≤ t.log.trimMark → t.log.slot p = SlotEntry.free ∧ slotKept s t p) ∧
    (t.log.trimMark < seq → stageVerifies s p seq top areaOutcome →
      t.log.slot p = ⟨.closed, some seq, top + 1⟩ ∧ slotKept s t p) ∧
    (t.log.trimMark < seq → ¬ stageVerifies s p seq top areaOutcome →
      (scanWrites fault t p → t.log.slot p = ⟨.closed, some seq, top + 2⟩ ∧
        (∀ area, area < areasPerSlot → readArea t.log.memory (areaKey p area) =
          if area = areaOutcome then normImage (frameStage 6 seq (top + 1) interruptedContent)
          else if tornAbove s p area top then [] else readArea s.log.memory (areaKey p area))) ∧
      (¬ scanWrites fault t p → t.log.slot p = ⟨.closed, some seq, top + 1⟩ ∧ (fault ≠ some p → slotKept s t p))) := by
  rw [h.scanWrites_iff]
  unfold slotKept
  rw [h.log]
  exact hnew.scanned hwf rfl

theorem State.ScanEnded.no_stage (h : s.ScanEnded fault t) (hwf : memoryCanonical s) {p : Nat}
    (hnone : ∀ sq k area, ¬ stageVerifies s p sq k area) : t.log.slot p = SlotEntry.free ∧
      (scanWrites fault t p → ∀ area, area < areasPerSlot → readArea t.log.memory (areaKey p area) = []) := by
  rw [h.scanWrites_iff, h.log]
  exact scanned_of_no_stage hwf hnone rfl

theorem State.ScanEnded.unused (h : s.ScanEnded fault t) {key : Nat}
    (hkey : key / areasPerSlot ∉ usedPositions s.log.memory) : readArea t.log.memory key = [] := by
  rw [h.log]
  refine readArea_of_no_images ?_
  exact (scanAll_of_not_used _ _ _ hkey).images.trans (slotImages_of_not_used hkey)

/-- The log's part of what the scan leaves, in the order of O58. -/
theorem State.ScanEnded.table (h : s.ScanEnded fault t) :
    t.log.trimMark = readMark s.log.markImage ∧
      (∀ p, (t.log.slot p).state = .free ∨ (t.log.slot p).state = .closed) ∧
      (∀ p n, (t.log.slot p).seq = some n → t.log.trimMark < n ∧ n < t.log.nextSeq) ∧
      (t.log.nextSeq = t.log.trimMark + 1 ∨ ∃ p, (t.log.slot p).seq = some (t.log.nextSeq - 1)) ∧
      (fault = none → t.log.state = .ready) ∧
      (t.log.state = .ready ∨ (t.log.state = .logFault ∧ (Reason.logFault, false) ∈ t.attention)) := by
  have hclosed := tableClosed_scanned s fault
  have hslot := s.log.scanned_slot s.freeCount fault hclosed
  have hfault := s.log.scanned_fault s.freeCount fault
  have hattends := h.faulted
  rw [h.log] at hattends ⊢
  refine ⟨rfl, fun p => ?_, fun p n hn => ?_, s.log.scanned_nextSeq _ _ hclosed, fun hnone => ?_, ?_⟩
  · obtain hp | ⟨seq, hp, -⟩ := hslot p
    · exact .inl (by rw [hp]; rfl)
    · exact .inr hp
  · obtain hp | ⟨seq, -, hp, hmark, hnext⟩ := hslot p
    · rw [hp] at hn
      cases hn
    · rw [hp] at hn
      cases hn
      exact ⟨hmark, hnext⟩
  · by_contra hready
    exact (hfault hready).2 hnone
  · by_cases hready : (s.log.scanned s.freeCount fault).state = .ready
    · exact .inl hready
    · exact .inr ⟨(hfault hready).1, hattends (hfault hready).1⟩

/-! ### The station enters JOINING (R204) -/

theorem exec_scanEnd (fault : Option Nat) (s : State) (hreset : s.inReset = false) (hscan : s.log.state = .scanning) :
    exec (.scanEnd fault) s =
      .next (if s.unit.state = .starting then (s.endScan fault).enterJoining else s.endScan fault) := by
  show execScanEnd fault s = _
  rw [execScanEnd, if_neg (by simp [hreset, hscan])]

/-- Settles O58: what a whole scan makes of one slot is what `scanSlot` makes of it from the memory at the start, for it leaves
every other slot alone. -/
theorem scanEndOpensTheLog : Obligations.ScanEndOpensTheLog := by
  intro fault s hreset hscan
  have hended := s.scanEnded fault
  obtain ⟨hpending, hpins, hunit, hlanes, hchannels, -, hlists, hline, hview, hport⟩ := State.endScan_frame (s := s) fault
  obtain ⟨u, hu⟩ : ∃ u, u = s.endScan fault := ⟨_, rfl⟩
  have hexec := exec_scanEnd fault s hreset hscan
  rw [← hu] at hended hpending hpins hunit hlanes hchannels hlists hline hview hport hexec
  by_cases hstarting : s.unit.state = .starting
  · rw [if_pos hstarting] at hexec
    have hended : s.ScanEnded fault u.enterJoining := hended.congr (by simp) (by simp)
    obtain ⟨hmark, hstates, hseqs, hnext, hready, hfault⟩ := hended.table
    have hat (p : Place) : u.noticeAt p = s.noticeAt p := by unfold State.noticeAt; rw [hline]
    obtain ⟨hunit', hview', hstatus, hstop, hnotices, hlists', -⟩ := u.joiningEntered
    refine ⟨_, hexec, hmark, hstates, hseqs, hnext, hready, hfault, hended.low, fun _ => hended.unused,
      fun hwf _ _ _ => hended.newest hwf, fun hwf _ => hended.no_stage hwf, by rw [hended.log]; rfl,
      by rw [hended.log]; rfl, ?_, fun _ => ⟨hstatus, fun hoff hnone => ?_, ?_, fun p hp => (hnotices p hp).trans (hat p), ?_⟩,
      fun h => absurd hstarting h, by simp [hlanes], by simp [hchannels], by simp [hport], by simp [hpins],
      by simp [hpending]⟩
    · rw [hunit', hunit, if_pos hstarting]
    · rw [hstop (by rw [hlists]; exact hoff) ((hat _).trans hnone), hpins]
    · rw [hlists', hpins, hlists, hunit]
    · rw [hview', hview, show u.refreshMs = s.refreshMs by unfold State.refreshMs; rw [hunit]]
  · rw [if_neg hstarting] at hexec
    obtain ⟨hmark, hstates, hseqs, hnext, hready, hfault⟩ := hended.table
    exact ⟨_, hexec, hmark, hstates, hseqs, hnext, hready, hfault, hended.low, fun _ => hended.unused,
      fun hwf _ _ _ => hended.newest hwf, fun hwf _ => hended.no_stage hwf, by rw [hended.log]; rfl,
      by rw [hended.log]; rfl, by rw [hunit, if_neg hstarting], fun h => absurd h hstarting,
      fun _ => ⟨hview, hline, hlists⟩, hlanes, hchannels, hport, hpins, hpending⟩

end ScanEndSettles

end Sys2Proof.Machine

namespace Sys2Proof.Machine

/-! ## Proofs: no owner looks at the port

Each operation gives the same state whatever the port holds, the port apart: what a request does is the same when it is taken in
its exchange and when it is handed over behind a read (R195). -/

section PortApart

variable {s : State} {x : PanelPort}

/-! ### What is read of a state -/

@[simp] theorem State.line_reads_setPort (s : State) (x : PanelPort) :
    (∀ p, (s.setPort x).noticeAt p = s.noticeAt p) ∧ (∀ p, (s.setPort x).begunAt p = s.begunAt p) ∧
    (∀ p, (s.setPort x).driving p = s.driving p) ∧ (∀ c h, (s.setPort x).onHeader c h = s.onHeader c h) ∧
    (∀ h, (s.setPort x).viewCount h = s.viewCount h) ∧ (∀ h, (s.setPort x).asking h = s.asking h) ∧
    (∀ h, (s.setPort x).headerLimit h = s.headerLimit h) ∧ (∀ c, (s.setPort x).headerOf c = s.headerOf c) ∧
    (∀ ℓ, (s.setPort x).contestDriver ℓ = s.contestDriver ℓ) ∧ (∀ ℓ, (s.setPort x).releaseWaiting ℓ = s.releaseWaiting ℓ) :=
  ⟨fun _ => rfl, fun _ => rfl, fun _ => rfl, fun _ _ => rfl, fun _ => rfl, fun _ => rfl, fun _ => rfl, fun _ => rfl, fun _ => rfl,
    fun _ => rfl⟩

@[simp] theorem State.load_reads_setPort (s : State) (x : PanelPort) :
    (s.setPort x).minute = s.minute ∧ (s.setPort x).settleMs = s.settleMs ∧ (s.setPort x).noFlowMs = s.noFlowMs ∧
    (s.setPort x).refreshMs = s.refreshMs ∧ (s.setPort x).joined = s.joined ∧ (s.setPort x).stale = s.stale ∧
    (∀ m, (s.setPort x).dutyNearAt m = s.dutyNearAt m) ∧
    (∀ c, (s.setPort x).phaseOf c = s.phaseOf c) ∧ (∀ c, (s.setPort x).causes c = s.causes c) ∧
    (∀ ℓ, (s.setPort x).stagesFull ℓ = s.stagesFull ℓ) ∧ (∀ ℓ, (s.setPort x).laneBusy ℓ = s.laneBusy ℓ) ∧
    (∀ c, (s.setPort x).outcomeDone c = s.outcomeDone c) ∧ (∀ d f, (s.setPort x).merge d f = s.merge d f) ∧
    (∀ ℓ f, (s.setPort x).onward ℓ f = s.onward ℓ f) ∧ (∀ f p n, newRecord (s.setPort x) f p n = newRecord s f p n) :=
  ⟨rfl, rfl, rfl, rfl, rfl, rfl, fun _ => rfl, fun _ => rfl, fun _ => rfl, fun _ => rfl, fun _ => rfl, fun _ => rfl, fun _ _ => rfl,
    fun _ _ => rfl, fun _ _ _ => rfl⟩

/-! ### The parts of a state -/

@[simp] theorem State.modLane_setPort (ℓ : LaneId) (f : Lane → Lane) :
    (s.setPort x).modLane ℓ f = (s.modLane ℓ f).setPort x := rfl

@[simp] theorem State.setLog_setPort (l : DeliveryLog) : (s.setPort x).setLog l = (s.setLog l).setPort x := rfl

@[simp] theorem State.parts_setPort (s : State) (x : PanelPort) :
    (∀ ℓ f, (s.setPort x).modRecord ℓ f = (s.modRecord ℓ f).setPort x) ∧
    (∀ c f, (s.setPort x).modChan c f = (s.modChan c f).setPort x) ∧
    (∀ y, (s.setPort x).setUnit y = (s.setUnit y).setPort x) ∧ (∀ y, (s.setPort x).setLists y = (s.setLists y).setPort x) ∧
    (∀ y, (s.setPort x).setView y = (s.setView y).setPort x) ∧
    (∀ y, (s.setPort x).setSendQueue y = (s.setSendQueue y).setPort x) ∧ (∀ r, (s.setPort x).attend r = (s.attend r).setPort x) ∧
    (s.setPort x).stopDriving = s.stopDriving.setPort x ∧ (s.setPort x).markReported = s.markReported.setPort x ∧
    (∀ ℓ e o, (s.setPort x).setResult ℓ e o = (s.setResult ℓ e o).setPort x) ∧
    (∀ ℓ fs, (s.setPort x).joinFindings ℓ fs = (s.joinFindings ℓ fs).setPort x) ∧
    (∀ ℓ m, (s.setPort x).clearHold ℓ m = (s.clearHold ℓ m).setPort x) ∧
    (∀ c, (s.setPort x).idleChannel c = (s.idleChannel c).setPort x) ∧
    (∀ p, (s.setPort x).dropReservation p = (s.dropReservation p).setPort x) ∧
    (∀ w, (s.setPort x).enqueueStage w = (s.enqueueStage w).setPort x) ∧
    (∀ ℓ, (s.setPort x).withdrawOutcome ℓ = (s.withdrawOutcome ℓ).setPort x) ∧
    (∀ c ℓ n q, (s.setPort x).acceptArm c ℓ n q = (s.acceptArm c ℓ n q).setPort x) ∧
    (∀ p, (s.setPort x).takeNotice p = (s.takeNotice p).setPort x) ∧
    (s.setPort x).setOwnStop = s.setOwnStop.setPort x :=
  ⟨fun _ _ => rfl, fun _ _ => rfl, fun _ => rfl, fun _ => rfl, fun _ => rfl, fun _ => rfl, fun _ => rfl, rfl, rfl, fun _ _ _ => rfl, fun _ _ => rfl, fun _ _ => rfl, fun _ => rfl, fun _ => rfl, fun _ => rfl, fun _ => rfl,
    fun _ _ _ _ => rfl, fun _ => rfl, rfl⟩

/-- A choice between two states, the port apart. -/
theorem State.setPort_ite (c : Prop) [Decidable c] (a b : State) (x : PanelPort) :
    (if c then a.setPort x else b.setPort x) = (if c then a else b).setPort x := (apply_ite (State.setPort · x) c a b).symm

/-- Operations in turn. -/
theorem State.foldl_setPort {α : Type} {f : State → α → State} (hf : ∀ s a, f (s.setPort x) a = (f s a).setPort x) (l : List α)
    (s : State) : l.foldl f (s.setPort x) = (l.foldl f s).setPort x := by
  induction l generalizing s with
  | nil => rfl
  | cons a l ih => rw [List.foldl_cons, hf, ih, List.foldl_cons]

/-! ### The rack line (chapter 6) -/

@[simp] theorem State.queueNotice_setPort (n : Notice) : (s.setPort x).queueNotice n = (s.queueNotice n).setPort x := by
  simp [State.queueNotice, State.setPort_ite]

@[simp] theorem State.removeNotice_setPort (p : Place) : (s.setPort x).removeNotice p = (s.removeNotice p).setPort x := by
  simp [State.removeNotice, State.setPort_ite]

@[simp] theorem State.queueWithdrawn_setPort (ℓ : LaneId) (d : Nat) :
    (s.setPort x).queueWithdrawn ℓ d = (s.queueWithdrawn ℓ d).setPort x := by
  simp [State.queueWithdrawn, State.setPort_ite]

@[simp] theorem State.queueStop_setPort : (s.setPort x).queueStop = s.queueStop.setPort x := by
  simp [State.queueStop, State.setPort_ite]

/-! ### The draws (section 4.7) -/

@[simp] theorem State.offerRound_setPort (h : Nat) : (s.setPort x).offerRound h = (s.offerRound h).setPort x :=
  State.foldl_setPort (fun s c => by simp [State.offerOne, State.setPort_ite]) _ s

@[simp] theorem State.reportFalls_setPort (b : State) (y : PanelPort) :
    State.reportFalls (b.setPort y) (s.setPort x) = (State.reportFalls b s).setPort x :=
  State.foldl_setPort (fun s h => by simp [State.setPort_ite]) _ s

@[simp] theorem State.returnDraw_setPort (c : ChanId) : (s.setPort x).returnDraw c = (s.returnDraw c).setPort x := by
  simp [State.returnDraw, State.setPort_ite]

@[simp] theorem State.giveUpDraw_setPort (c : ChanId) : (s.setPort x).giveUpDraw c = (s.giveUpDraw c).setPort x := by
  unfold State.giveUpDraw
  rw [State.chan_setPort]
  cases (s.chan c).draw <;> simp [State.setPort_ite]

/-! ### The channels (chapter 4) -/

@[simp] theorem State.decidePhase_setPort (c : ChanId) : (s.setPort x).decidePhase c = (s.decidePhase c).setPort x := by
  simp [State.decidePhase, State.setPort_ite]

@[simp] theorem State.startPouring_setPort (c : ChanId) : (s.setPort x).startPouring c = (s.startPouring c).setPort x := by
  simp [State.startPouring]

@[simp] theorem State.suspend_setPort (c : ChanId) : (s.setPort x).suspend c = (s.suspend c).setPort x := by
  simp [State.suspend]

@[simp] theorem State.applyCauses_setPort : (s.setPort x).applyCauses = s.applyCauses.setPort x := by
  unfold State.applyCauses
  rw [State.foldl_setPort (fun s c => by simp [State.suspendIfStanding, State.setPort_ite]), State.reportFalls_setPort]

@[simp] theorem State.settlePour_setPort (e : EndStatus) (c : ChanId) :
    State.settlePour e (s.setPort x) c = (State.settlePour e s c).setPort x := by
  simp [State.settlePour, State.setPort_ite]

@[simp] theorem State.endPour_setPort (e : EndStatus) (c : ChanId) : (s.setPort x).endPour c e = (s.endPour c e).setPort x := by
  simp [State.endPour]

@[simp] theorem State.voidChannel_setPort (ℓ : LaneId) (c : ChanId) :
    State.voidChannel ℓ (s.setPort x) c = (State.voidChannel ℓ s c).setPort x := by
  simp [State.voidChannel, State.setPort_ite]

/-! ### The log (chapter 8) -/

@[simp] theorem State.lowCheck_setPort (b : State) (y : PanelPort) :
    State.lowCheck (b.setPort y) (s.setPort x) = (State.lowCheck b s).setPort x := by
  simp [State.lowCheck, State.setPort_ite]

@[simp] theorem State.reserve_setPort : (s.setPort x).reserve = (s.reserve.1.setPort x, s.reserve.2) := by
  unfold State.reserve
  dsimp only
  rw [State.setPort_log, State.setLog_setPort, State.lowCheck_setPort]

@[simp] theorem State.leaveSlot_setPort (p n : Nat) : (s.setPort x).leaveSlot p n = (s.leaveSlot p n).setPort x := by
  by_cases hleaves : s.log.state = .logFault ∧ (s.log.slot p).seq = some n ∧ (s.log.slot p).state = .opened
  · by_cases hnext : 1 < (s.log.slot p).next
    · simp [State.leaveSlot, hleaves, hnext]
    · simp [State.leaveSlot, hleaves, hnext]
  · simp [State.leaveSlot, hleaves]

@[simp] theorem State.handStage_setPort (ℓ : LaneId) (st : Stage) :
    (s.setPort x).handStage ℓ st = (s.handStage ℓ st).setPort x := by
  simp [State.handStage, State.setPort_ite]

@[simp] theorem State.trim_setPort (gone : List (Nat × SlotEntry)) : (s.setPort x).trim gone = (s.trim gone).setPort x := by
  unfold State.trim
  cases gone.getLast? <;> simp

/-! ### Holds and claims (chapters 1 and 7) -/

@[simp] theorem State.setHold_setPort (ℓ : LaneId) (m : HoldMember) (f : Finding) :
    (s.setPort x).setHold ℓ m f = (s.setHold ℓ m f).setPort x := by
  simp [State.setHold, State.setPort_ite]

@[simp] theorem State.armTimer_setPort (ℓ : LaneId) (r : DutyResult) :
    (s.setPort x).armTimer ℓ r = (s.armTimer ℓ r).setPort x := by
  simp [State.armTimer, State.setPort_ite]

@[simp] theorem State.placeContest_setPort (ℓ : LaneId) (d : Nat) :
    (s.setPort x).placeContest ℓ d = (s.placeContest ℓ d).setPort x := by
  simp [State.placeContest]

@[simp] theorem State.queueOwedContest_setPort (ℓ : LaneId) :
    (s.setPort x).queueOwedContest ℓ = (s.queueOwedContest ℓ).setPort x := by
  unfold State.queueOwedContest
  rw [State.lane_setPort]
  cases (s.lane ℓ).owedContest <;> simp [State.setPort_ite]

@[simp] theorem State.dropContest_setPort (ℓ : LaneId) (d : Nat) :
    (s.setPort x).dropContest ℓ d = (s.dropContest ℓ d).setPort x := by
  simp [State.dropContest, State.setPort_ite]

@[simp] theorem State.testClaim_setPort (ℓ : LaneId) : (s.setPort x).testClaim ℓ = (s.testClaim ℓ).setPort x := by
  unfold State.testClaim
  rw [State.lane_setPort]
  cases (s.lane ℓ).progress? <;> simp [State.setPort_ite]

@[simp] theorem State.removeClaim_setPort (ℓ : LaneId) (c : Claim) (pure : Bool) :
    (s.setPort x).removeClaim ℓ c pure = (s.removeClaim ℓ c pure).setPort x := by
  simp [State.removeClaim, State.setPort_ite]

@[simp] theorem State.withdrawClaim_setPort (ℓ : LaneId) (o : ResultOutcome) :
    (s.setPort x).withdrawClaim ℓ o = (s.withdrawClaim ℓ o).setPort x := by
  unfold State.withdrawClaim
  rw [State.lane_setPort]
  cases (s.lane ℓ).claim <;> simp [State.setPort_ite]

@[simp] theorem State.endReclaim_setPort (ℓ : LaneId) : (s.setPort x).endReclaim ℓ = (s.endReclaim ℓ).setPort x := by
  unfold State.endReclaim
  rw [State.lane_setPort]
  cases (s.lane ℓ).reclaim <;> simp [State.setPort_ite]

/-! ### CLOSING (section 1.10) -/

@[simp] theorem State.handVoided_setPort (ℓ : LaneId) : (s.setPort x).handVoided ℓ = (s.handVoided ℓ).setPort x := by
  unfold State.handVoided
  rw [State.lane_setPort]
  cases (s.lane ℓ).closing <;> cases (s.lane ℓ).record <;> simp [State.setPort_ite]

@[simp] theorem State.leaveClosing_setPort (ℓ : LaneId) (c : Closing) (r : LoadRecord) :
    (s.setPort x).leaveClosing ℓ c r = (s.leaveClosing ℓ c r).setPort x := by
  simp [State.leaveClosing, State.setPort_ite]

@[simp] theorem State.testClosing_setPort (ℓ : LaneId) : (s.setPort x).testClosing ℓ = (s.testClosing ℓ).setPort x := by
  unfold State.testClosing
  dsimp only
  rw [State.handVoided_setPort, State.lane_setPort]
  cases ((s.handVoided ℓ).lane ℓ).closing <;> cases ((s.handVoided ℓ).lane ℓ).record <;> simp [State.setPort_ite]

@[simp] theorem State.returnToLoading_setPort (ℓ : LaneId) :
    (s.setPort x).returnToLoading ℓ = (s.returnToLoading ℓ).setPort x := by
  unfold State.returnToLoading
  dsimp only
  rw [State.modLane_setPort, State.lane_setPort]
  cases ((s.modLane ℓ fun l => { l with state := .loading, closing := none }).lane ℓ).record with
  | none => rfl
  | some r =>
    dsimp only
    cases r.duty <;> simp

/-! ### Matching holds and the watch (R120, R122) -/

@[simp] theorem State.orderReachesClosing_setPort (ℓ : LaneId) :
    (s.setPort x).orderReachesClosing ℓ = (s.orderReachesClosing ℓ).setPort x := by
  simp [State.orderReachesClosing, State.setPort_ite]

@[simp] theorem State.matchLane_setPort (ℓ : LaneId) : (s.setPort x).matchLane ℓ = (s.matchLane ℓ).setPort x := by
  unfold State.matchLane
  rw [State.lane_setPort]
  cases (s.lane ℓ).record with
  | none => rfl
  | some r =>
    dsimp only
    cases (s.lane ℓ).state with
    | closing => cases (s.lane ℓ).closing <;> simp [State.setPort_ite]
    | vacant => rfl
    | claiming | opened | loading => simp [State.setPort_ite]

@[simp] theorem State.matchLanes_setPort : (s.setPort x).matchLanes = s.matchLanes.setPort x := by
  simp [State.matchLanes]

@[simp] theorem State.matchWatch_setPort (d : Nat) (v : Option Nat) (l : Latch) :
    (s.setPort x).matchWatch d v l = (s.matchWatch d v l).setPort x := by
  unfold State.matchWatch
  rw [State.setPort_lists]
  cases s.lists.watch <;> simp [State.setPort_ite]

@[simp] theorem State.matchOwn_setPort (ℓ : LaneId) (d v : Nat) (e : WatchEvent) :
    (s.setPort x).matchOwn ℓ d v e = (s.matchOwn ℓ d v e).setPort x := by
  unfold State.matchOwn
  rw [State.setPort_lists]
  cases s.lists.watch <;> simp [State.setPort_ite]

/-! ### The accepted requests -/

@[simp] theorem State.acceptCheckIn_setPort (ℓ : LaneId) (f : CheckInFields) :
    (s.setPort x).acceptCheckIn ℓ f = (s.acceptCheckIn ℓ f).setPort x := by
  simp [State.acceptCheckIn]

@[simp] theorem State.acceptReDriver_setPort (ℓ : LaneId) (d : Nat) (f : FigureSet) :
    (s.setPort x).acceptReDriver ℓ d f = (s.acceptReDriver ℓ d f).setPort x := by
  simp [State.acceptReDriver]

@[simp] theorem State.acceptVoid_setPort (ℓ : LaneId) : (s.setPort x).acceptVoid ℓ = (s.acceptVoid ℓ).setPort x := by
  unfold State.acceptVoid
  simp [State.foldl_setPort (fun s c => State.voidChannel_setPort (s := s) ℓ c)]

@[simp] theorem State.acceptHoldIssue_setPort (n : Nat) (kind : KeyKind) (key reason : Nat) :
    (s.setPort x).acceptHoldIssue n kind key reason = (s.acceptHoldIssue n kind key reason).setPort x := by
  simp [State.acceptHoldIssue]

@[simp] theorem State.acceptHoldCancel_setPort (n : Nat) (kind : KeyKind) (key reason : Nat) :
    (s.setPort x).acceptHoldCancel n kind key reason = (s.acceptHoldCancel n kind key reason).setPort x := by
  simp [State.acceptHoldCancel]

@[simp] theorem State.enterJoining_setPort : (s.setPort x).enterJoining = s.enterJoining.setPort x := by
  simp [State.enterJoining, State.setPort_ite]

end PortApart

end Sys2Proof.Machine

namespace Sys2Proof.Machine

/-! ## Proofs: a request does the same whatever the port holds (R195) -/

section OwnersPortApart

variable {s : State} {x : PanelPort}

/-- An owner's reply beside its state with another port. -/
def portSet (x : PanelPort) (p : State × Reply) : State × Reply := (p.1.setPort x, p.2)

theorem portSet_ite (c : Prop) [Decidable c] (a b : State × Reply) (x : PanelPort) :
    portSet x (if c then a else b) = if c then portSet x a else portSet x b := apply_ite (portSet x) c a b

theorem portSet_refuse (s : State) (c : ResultCode) (x : PanelPort) : portSet x (refuse s c) = refuse (s.setPort x) c := rfl

theorem portSet_okReply (s : State) (body : List Byte) (x : PanelPort) :
    portSet x (okReply s body) = okReply (s.setPort x) body := rfl

@[simp] theorem State.owner_reads_setPort (s : State) (x : PanelPort) :
    (∀ ops n, (s.setPort x).laneOperand ops n = s.laneOperand ops n) ∧
    (∀ ops n, (s.setPort x).chanOperand ops n = s.chanOperand ops n) ∧
    (∀ ℓ, (s.setPort x).laneSettling ℓ = s.laneSettling ℓ) ∧ (∀ ℓ, (s.setPort x).probe ℓ = s.probe ℓ) ∧
    (∀ ℓ n, (s.setPort x).compBusy ℓ n = s.compBusy ℓ n) ∧ (∀ c, (s.setPort x).probeWetAt c = s.probeWetAt c) :=
  ⟨fun _ _ => rfl, fun _ _ => rfl, fun _ => rfl, fun _ => rfl, fun _ _ => rfl, fun _ => rfl⟩

theorem ownCheckIn_setPort (ops : List Byte) : ownCheckIn ops (s.setPort x) = portSet x (ownCheckIn ops s) := by
  unfold ownCheckIn
  simp only [State.owner_reads_setPort, State.lane_setPort, State.setPort_view, State.setPort_log, State.load_reads_setPort, State.acceptCheckIn_setPort]
  repeat' split
  all_goals rfl

theorem ownReDriver_setPort (ops : List Byte) : ownReDriver ops (s.setPort x) = portSet x (ownReDriver ops s) := by
  unfold ownReDriver
  simp only [State.owner_reads_setPort, State.lane_setPort, State.setPort_view, State.load_reads_setPort, State.acceptReDriver_setPort]
  repeat' split
  all_goals rfl

theorem ownPaperEntry_setPort (ops : List Byte) : ownPaperEntry ops (s.setPort x) = portSet x (ownPaperEntry ops s) := by
  unfold ownPaperEntry
  simp only [State.owner_reads_setPort, State.lane_setPort, State.setPort_unit, State.load_reads_setPort, State.parts_setPort]
  repeat' split
  all_goals rfl

theorem ownPaperDelete_setPort (ops : List Byte) : ownPaperDelete ops (s.setPort x) = portSet x (ownPaperDelete ops s) := by
  unfold ownPaperDelete
  simp only [State.owner_reads_setPort, State.lane_setPort, State.load_reads_setPort, State.parts_setPort]
  repeat' split
  all_goals rfl

theorem ownPapersClose_setPort (ops : List Byte) : ownPapersClose ops (s.setPort x) = portSet x (ownPapersClose ops s) := by
  unfold ownPapersClose
  simp only [State.owner_reads_setPort, State.lane_setPort, State.setPort_unit, State.load_reads_setPort, State.modLane_setPort, State.handStage_setPort, State.armTimer_setPort]
  repeat' split
  all_goals first
    | rfl
    | simp_all [portSet, okReply]

theorem ownAmend_setPort (ops : List Byte) : ownAmend ops (s.setPort x) = portSet x (ownAmend ops s) := by
  unfold ownAmend
  simp only [State.owner_reads_setPort, State.lane_setPort, State.load_reads_setPort, State.modLane_setPort, State.handStage_setPort]
  repeat' split
  all_goals rfl

theorem ownRelease_setPort (ops : List Byte) : ownRelease ops (s.setPort x) = portSet x (ownRelease ops s) := by
  unfold ownRelease
  simp only [State.owner_reads_setPort, State.lane_setPort, State.setPort_unit, State.setPort_log, State.load_reads_setPort, State.modLane_setPort, State.handStage_setPort]
  repeat' split
  all_goals first
    | rfl
    | simp_all [portSet, okReply]

theorem ownVoid_setPort (ops : List Byte) : ownVoid ops (s.setPort x) = portSet x (ownVoid ops s) := by
  unfold ownVoid
  simp only [State.owner_reads_setPort, State.lane_setPort, State.load_reads_setPort, State.withdrawClaim_setPort, State.acceptVoid_setPort]
  repeat' split
  all_goals rfl

theorem ownUnholdWatch_setPort (ops : List Byte) : ownUnholdWatch ops (s.setPort x) = portSet x (ownUnholdWatch ops s) := by
  unfold ownUnholdWatch
  simp only [State.owner_reads_setPort, State.lane_setPort, State.load_reads_setPort, State.parts_setPort]
  repeat' split
  all_goals rfl

theorem ownPourArm_setPort (ops : List Byte) : ownPourArm ops (s.setPort x) = portSet x (ownPourArm ops s) := by
  unfold ownPourArm
  simp only [State.owner_reads_setPort, State.lane_setPort, State.chan_setPort, State.load_reads_setPort, State.parts_setPort]
  cases s.chanOperand ops 0 with
  | none => simp only [portSet_ite, portSet_refuse]
  | some operand =>
    obtain ⟨c, cfg⟩ := operand
    cases s.laneOperand ops 1 with
    | none => simp only [portSet_ite, portSet_refuse]
    | some ℓ =>
      dsimp only
      cases (s.lane ℓ).record with
      | none => simp only [portSet_ite, portSet_refuse]
      | some r =>
        dsimp only
        cases r.comp? (field ops 2 1) with
        | none => simp only [portSet_ite, portSet_refuse]
        | some comp =>
          cases r.entry? (field ops 2 1) with
          | none => simp only [portSet_ite, portSet_refuse]
          | some e => simp only [portSet_ite, portSet_refuse, portSet_okReply]

theorem ownPourStop_setPort (ops : List Byte) : ownPourStop ops (s.setPort x) = portSet x (ownPourStop ops s) := by
  unfold ownPourStop
  simp only [State.owner_reads_setPort, State.chan_setPort, State.load_reads_setPort, State.parts_setPort, State.endPour_setPort]
  repeat' split
  all_goals rfl

theorem ownPourResume_setPort (ops : List Byte) : ownPourResume ops (s.setPort x) = portSet x (ownPourResume ops s) := by
  unfold ownPourResume
  simp only [State.owner_reads_setPort, State.chan_setPort, State.setPort_pins, State.load_reads_setPort, State.startPouring_setPort]
  repeat' split
  all_goals rfl

theorem ownHoldIssue_setPort (ops : List Byte) : ownHoldIssue ops (s.setPort x) = portSet x (ownHoldIssue ops s) := by
  unfold ownHoldIssue
  simp only [State.setPort_lists, State.load_reads_setPort, State.acceptHoldIssue_setPort]
  repeat' split
  all_goals rfl

theorem ownHoldCancel_setPort (ops : List Byte) : ownHoldCancel ops (s.setPort x) = portSet x (ownHoldCancel ops s) := by
  unfold ownHoldCancel
  simp only [State.setPort_lists, State.load_reads_setPort, State.acceptHoldCancel_setPort]
  repeat' split
  all_goals rfl

theorem ownHoldDrop_setPort (ops : List Byte) : ownHoldDrop ops (s.setPort x) = portSet x (ownHoldDrop ops s) := by
  unfold ownHoldDrop
  simp only [State.setPort_lists, State.setPort_unit, State.load_reads_setPort, State.parts_setPort, State.matchLanes_setPort]
  repeat' split
  all_goals rfl

theorem ownStopDrop_setPort (ops : List Byte) : ownStopDrop ops (s.setPort x) = portSet x (ownStopDrop ops s) := by
  unfold ownStopDrop
  simp only [State.setPort_lists, State.setPort_unit, State.load_reads_setPort, State.parts_setPort]
  repeat' split
  all_goals rfl

theorem ownWatchSet_setPort (ops : List Byte) : ownWatchSet ops (s.setPort x) = portSet x (ownWatchSet ops s) := by
  unfold ownWatchSet
  simp only [State.setPort_lists, State.load_reads_setPort, State.parts_setPort]
  repeat' split
  all_goals rfl

theorem ownWatchClear_setPort : ownWatchClear (s.setPort x) = portSet x (ownWatchClear s) := by
  unfold ownWatchClear
  simp only [State.setPort_lists, State.load_reads_setPort, State.parts_setPort]
  repeat' split
  all_goals rfl

theorem ownTrimLog_setPort (ops : List Byte) : ownTrimLog ops (s.setPort x) = portSet x (ownTrimLog ops s) := by
  unfold ownTrimLog
  simp only [State.setPort_log, State.trim_setPort]
  repeat' split
  all_goals rfl

theorem ownConfigure_setPort (ops : List Byte) : ownConfigure ops (s.setPort x) = portSet x (ownConfigure ops s) := by
  unfold ownConfigure
  simp only [State.setPort_unit, State.setPort_log, State.parts_setPort, State.enterJoining_setPort]
  repeat' split
  all_goals rfl

theorem ownReadLane_setPort (ops : List Byte) : ownReadLane ops (s.setPort x) = portSet x (ownReadLane ops s) := by
  unfold ownReadLane
  simp only [State.owner_reads_setPort]
  split
  all_goals rfl

theorem ownReadChannel_setPort (ops : List Byte) : ownReadChannel ops (s.setPort x) = portSet x (ownReadChannel ops s) := by
  unfold ownReadChannel
  simp only [State.owner_reads_setPort]
  split
  all_goals rfl

theorem ownReadPeers_setPort (ops : List Byte) : ownReadPeers ops (s.setPort x) = portSet x (ownReadPeers ops s) := by
  unfold ownReadPeers
  dsimp only
  split
  all_goals rfl

/-- Two requests write to the port themselves: READ-LOG, and RESTART. -/
theorem askOwner_setPort {r : Request} (hlog : r ≠ .readLog) (hrestart : r ≠ .restart) (ops : List Byte) :
    askOwner r ops (s.setPort x) = ((askOwner r ops s).1.setPort x, (askOwner r ops s).2) := by
  cases r with
  | readLog => exact absurd rfl hlog
  | restart => exact absurd rfl hrestart
  | checkIn => exact congrArg atOnce (ownCheckIn_setPort ops)
  | reDriver => exact congrArg atOnce (ownReDriver_setPort ops)
  | paperEntry => exact congrArg atOnce (ownPaperEntry_setPort ops)
  | paperDelete => exact congrArg atOnce (ownPaperDelete_setPort ops)
  | papersClose => exact congrArg atOnce (ownPapersClose_setPort ops)
  | amend => exact congrArg atOnce (ownAmend_setPort ops)
  | release => exact congrArg atOnce (ownRelease_setPort ops)
  | void => exact congrArg atOnce (ownVoid_setPort ops)
  | unholdWatch => exact congrArg atOnce (ownUnholdWatch_setPort ops)
  | pourArm => exact congrArg atOnce (ownPourArm_setPort ops)
  | pourStop => exact congrArg atOnce (ownPourStop_setPort ops)
  | pourResume => exact congrArg atOnce (ownPourResume_setPort ops)
  | holdIssue => exact congrArg atOnce (ownHoldIssue_setPort ops)
  | holdCancel => exact congrArg atOnce (ownHoldCancel_setPort ops)
  | holdDrop => exact congrArg atOnce (ownHoldDrop_setPort ops)
  | stopDrop => exact congrArg atOnce (ownStopDrop_setPort ops)
  | watchSet => exact congrArg atOnce (ownWatchSet_setPort ops)
  | watchClear => exact congrArg atOnce ownWatchClear_setPort
  | readLane => exact congrArg atOnce (ownReadLane_setPort ops)
  | readChannel => exact congrArg atOnce (ownReadChannel_setPort ops)
  | readPeers => exact congrArg atOnce (ownReadPeers_setPort ops)
  | readAttention => rfl
  | readCause => rfl
  | trimLog => exact congrArg atOnce (ownTrimLog_setPort ops)
  | configure => exact congrArg atOnce (ownConfigure_setPort ops)

theorem serve_setPort {r : Request} (hlog : r ≠ .readLog) (hrestart : r ≠ .restart) (ops : List Byte) :
    serve r ops (s.setPort x) = ((serve r ops s).1.setPort x, (serve r ops s).2) := by
  unfold serve
  rw [State.setPort_unit]
  split
  · rfl
  · exact askOwner_setPort hlog hrestart ops

end OwnersPortApart

end Sys2Proof.Machine

namespace Sys2Proof.Machine

/-! ## Proofs: READ-LOG and what is held behind it (R183, R194, R195) -/

section LogRead

variable {s : State} {x : PanelPort} {r : Request} {ops : List Byte}

/-! ### A request carried out in another step of the port -/

/-- A request carried out leaves the owner's state, with the answer in its port. -/
theorem State.carryOut_eq (s : State) (r : Request) (ops : List Byte) :
    ∃ y, s.carryOut r ops = (serve r ops s).1.setPort y := by
  unfold State.carryOut
  obtain ⟨t, reply⟩ := serve r ops s
  cases reply with
  | none => exact ⟨_, rfl⟩
  | some reply => exact ⟨_, rfl⟩

theorem serve_readLog (ops : List Byte) (s : State) : serve .readLog ops s = ownReadLog ops s :=
  if_neg (by simp [Request.unconfiguredOk])

theorem serve_restart (ops : List Byte) (s : State) : serve .restart ops s = atOnce (ownRestart s) :=
  if_neg (by simp [Request.unconfiguredOk])

/-- What stands in the port before a request is handed on stays there, but for the read that READ-LOG leaves waiting. -/
theorem serve_port (hrestart : r ≠ .restart) (ops : List Byte) (s : State) :
    (serve r ops s).1.port = { s.port with reading := (serve r ops s).1.port.reading } := by
  by_cases hlog : r = .readLog
  · subst hlog
    rw [serve_readLog, ownReadLog]
    dsimp only
    split <;> rfl
  · have hsame := congrArg (fun p => p.1.port) (serve_setPort (x := s.port) (s := s) hlog hrestart ops)
    have hport : (serve r ops s).1.port = s.port := hsame
    rw [hport]

/-- The step of the port does not matter to a request that is carried out: the answer or the wait replaces it (R191). -/
theorem State.carryOut_of_step (s : State) (r : Request) (ops : List Byte) (step : PortStep) :
    (s.setPort { s.port with step := step }).carryOut r ops = s.carryOut r ops := by
  by_cases hlog : r = .readLog
  · subst hlog
    rw [State.carryOut, State.carryOut, serve_readLog, serve_readLog]
    have hreply : (s.setPort { s.port with step := step }).logReply (field ops 0 2) = s.logReply (field ops 0 2) := rfl
    unfold ownReadLog
    dsimp only
    rw [hreply]
    by_cases hok : (s.logReply (field ops 0 2)).result = .ok
    · rw [if_pos hok, if_pos hok]
      rfl
    · rw [if_neg hok, if_neg hok]
      rfl
  · by_cases hrestart : r = .restart
    · subst hrestart
      rw [State.carryOut, State.carryOut, serve_restart, serve_restart]
      rfl
    · have hport : (serve r ops s).1.port = s.port :=
        congrArg (fun p => p.1.port) (serve_setPort (x := s.port) (s := s) hlog hrestart ops)
      rw [State.carryOut, State.carryOut, serve_setPort hlog hrestart]
      obtain ⟨t, ht⟩ : ∃ t, t = serve r ops s := ⟨_, rfl⟩
      rw [← ht] at hport ⊢
      obtain ⟨t, reply⟩ := t
      dsimp only at hport
      cases reply with
      | none =>
        show (t.setPort _).setPort _ = t.setPort _
        rw [State.setPort_setPort, State.setPort_port, hport]
      | some reply =>
        show (t.setPort _).setPort _ = t.setPort _
        rw [State.setPort_setPort, State.setPort_port, hport]

/-! ### The memory's turn (R183, R195) -/

/-- The read of an ended exchange is served, and what is held behind it is handed over. -/
theorem exec_logReadServed_ended {address : Fin 32} {rate : Fin 4} {index : Nat} (hreset : s.inReset = false)
    (hreading : s.port.reading = some ⟨index, false⟩) (hwriting : s.log.writing = none) (hmark : s.log.pendingMark = none) :
    exec (.logReadServed address rate) s =
      .next ((s.showStraps address rate).setPort { s.port with reading := none }).handOver := by
  have hready : s.logReadReady = true := by simp [State.logReadReady, hreset, hreading, hwriting, hmark]
  show execLogReadServed address rate s = _
  rw [execLogReadServed, hreading]
  dsimp only
  rw [if_pos hready]
  rfl

/-- The read of the exchange in progress is answered from the log as it stands. -/
theorem exec_logReadServed_live {address : Fin 32} {rate : Fin 4} {index : Nat} (hreset : s.inReset = false)
    (hreading : s.port.reading = some ⟨index, true⟩) (hheld : s.port.held = none) (hwriting : s.log.writing = none)
    (hmark : s.log.pendingMark = none) :
    exec (.logReadServed address rate) s = .next ((s.showStraps address rate).setPort { s.port with
      reading := none
      step := .answering
      answer := some ⟨some .readLog, (s.logReply index).result, (s.logReply index).body⟩ }) := by
  have hready : s.logReadReady = true := by simp [State.logReadReady, hreset, hreading, hwriting, hmark]
  have hover (t : State) (h : t.port.held = none) : t.handOver = t := by
    unfold State.handOver
    rw [h]
  show execLogReadServed address rate s = _
  rw [execLogReadServed, hreading]
  dsimp only
  rw [if_pos hready]
  exact congrArg _ (hover _ hheld)

/-- READ-LOG answers a slot in use from the log alone. -/
theorem State.logReply_of_inUse {index p : Nat} {e : SlotEntry} (hlog : s.log.state ≠ .scanning)
    (hslot : s.log.inUse[index]? = some (p, e)) : s.logReply index = ⟨.ok, readLogBody s.log p⟩ := by
  rw [State.logReply, if_neg hlog, hslot]

/-- A request whose exchange has ended leaves the owner's state, with every mark cleared and its answer discarded. -/
theorem State.carryOutUnheard_eq (hrestart : r ≠ .restart) (ops : List Byte) (s : State) :
    ∃ v, v = (serve r ops s).1.setPort { (serve r ops s).1.port with
        reading := (serve r ops s).1.port.reading.map (fun x => { x with live := false }) } ∧
      s.carryOutUnheard r ops = v.clearReported.setUnit { v.unit with reported := .none } := by
  refine ⟨_, rfl, ?_⟩
  cases r with
  | restart => exact absurd rfl hrestart
  | _ => rfl

/-- The command of a request, taken where the port stands ready for it, carries it out whatever step the port stood in. -/
theorem exec_of_ready {i : Instr} {k : CheckWord} (hi : requestOf i = some (r, ops, k)) (hreset : s.inReset = false)
    (hlength : ops.length = r.operands) (hcheck : k = requestCheck r ops) (hreading : s.port.reading = none) :
    exec i (s.setPort { s.port with step := .receiving }) = .next (s.carryOut r ops) := by
  have htakes : (s.setPort { s.port with step := .receiving }).takes r ops k := ⟨⟨hreset, rfl, hlength⟩, hcheck, hreading⟩
  rw [exec_of_requestOf hi, State.takeRequest_of_takes htakes]
  exact congrArg _ (s.carryOut_of_step r ops .receiving)

/-- Settles O19. -/
theorem logReadWaitsForTheMemory : Obligations.LogReadWaitsForTheMemory := by
  refine ⟨fun ops k s htakes hlog hindex => ?_, fun address rate s index p e hreset hreading hheld hwriting hmark hlog hslot => ?_,
    fun address rate s s' index hreset hreading hwriting hmark hs' => ?_⟩
  · have hreply := State.logReply_of_inUse hlog (List.getElem?_eq_getElem hindex)
    have hserve : serve .readLog ops s = (s.setPort { s.port with reading := some ⟨field ops 0 2, true⟩ }, none) := by
      rw [serve_readLog, ownReadLog]
      exact if_pos (by rw [hreply])
    rw [exec_of_requestOf rfl, State.takeRequest_of_takes htakes, State.carryOut, hserve]
    rfl
  · rw [exec_logReadServed_live hreset hreading hheld hwriting hmark, State.logReply_of_inUse hlog hslot]
    rfl
  have hserved := exec_logReadServed_ended (address := address) (rate := rate) hreset hreading hwriting hmark
  obtain ⟨u, hu⟩ : ∃ u, u = (s.showStraps address rate).setPort { s.port with reading := none } := ⟨_, rfl⟩
  have huport : u.port = { s.port with reading := none } := by rw [hu]; rfl
  have hs'u : s' = u.setPort { u.port with held := none } := by rw [hs', hu]; rfl
  have hs'reset : s'.inReset = false := by rw [hs']; exact hreset
  have hs'reading : s'.port.reading = none := by rw [hs']; rfl
  have hover (h : HeldRequest) (hheld : s.port.held = some h) :
      u.handOver = if h.live then s'.carryOut h.request h.ops else s'.carryOutUnheard h.request h.ops := by
    unfold State.handOver
    rw [huport]
    dsimp only
    rw [hheld, hs'u, huport]
  rw [← hu] at hserved
  rw [hserved]
  refine ⟨fun hheld => ?_, fun i r ops k hi hlength hcheck _ hheld => ?_, fun i r ops k hi hrestart hlength hcheck hheld => ?_,
    fun ops hheld => ?_⟩
  · have hnone : u.port.held = none := by rw [huport]; exact hheld
    have hstays : u.handOver = u := by
      unfold State.handOver
      rw [hnone]
    rw [hstays, hs'u, ← hnone]
    rfl
  · rw [exec_of_ready hi hs'reset hlength hcheck hs'reading, hover _ hheld, if_pos rfl]
  · obtain ⟨v, hv, hunheard⟩ := State.carryOutUnheard_eq hrestart ops s'
    obtain ⟨y, hy⟩ := s'.carryOut_eq r ops
    have hport := serve_port hrestart ops s'
    have hs'port : s'.port = { s.port with reading := none, held := none } := by rw [hs']; rfl
    refine ⟨_, _, congrArg _ ((hover _ hheld).trans ((if_neg (by simp)).trans hunheard)),
      (exec_of_ready hi hs'reset hlength hcheck hs'reading).trans (congrArg _ hy), ?_⟩
    obtain ⟨w, hw⟩ : ∃ w, w = (serve r ops s').1 := ⟨_, rfl⟩
    rw [← hw] at hv hport ⊢
    rw [hs'port] at hport
    have hvport : v.port = { w.port with reading := w.port.reading.map (fun x => { x with live := false }) } := by rw [hv]; rfl
    refine ⟨?_, ?_, ?_, ?_⟩
    · show v.port.answer = s.port.answer
      rw [hvport, hport]
    · show v.port.step = s.port.step
      rw [hvport, hport]
    · show v.port.held = none
      rw [hvport, hport]
    · rw [hv]
      exact ⟨rfl, rfl, rfl, rfl, rfl, rfl, rfl, rfl, rfl, rfl, rfl, rfl⟩
  · obtain ⟨hunit, hblocks, hmemory, -⟩ := s'.restartReset_resets
    have hcarried : u.handOver = s'.restartReset := (hover _ hheld).trans (if_neg (by simp))
    refine ⟨_, congrArg _ hcarried, hunit.trans (by rw [hs']; rfl), ?_, hmemory.congr (by rw [hs']; rfl) rfl⟩
    subst hs'
    exact hblocks

end LogRead

end Sys2Proof.Machine
